-- ==== Sys2Proof/Word.lean ====
section
/-! DEFINITION. Word.lean: the word types of the KX-4208. A bit vector stands only where the manual itself treats a
value as an octet string, a modular count or a set of numbered bits (Table 12-2, R41, R161). -/

namespace Sys2Proof

/-- One octet of a frame (R161). -/
abbrev Octet := BitVec 8

/-- A value of two octets (Table 12-2). -/
abbrev Half := BitVec 16

/-- A reading of the Process Clock: a 32-bit count of 100 µs ticks that wraps (R41). -/
abbrev Reading := BitVec 32

/-- A wafer id or a strip id, a 32-bit tag (Introduction, "Identifiers"). -/
abbrev Tag := BitVec 32

/-- A ticket, 1–255 once issued (R90). -/
abbrev Ticket := BitVec 8

/-- A die grade, 0–15 (Introduction, "Grades"). -/
abbrev Grade := BitVec 4

/-- A station link port, S0 to S7. -/
abbrev Port := Fin 8

/-- A product code, 0–7 (R21). -/
abbrev ProductCode := Fin 8

/-- The index of a rank at a port: rank r of Table 10-1 has index r − 1. -/
abbrev RankIx := Fin 4

end Sys2Proof
end

