-- ==== Sys2Proof/Config.lean ====
section
/-! DEFINITION. Config.lean: the fixed numbers of the part. The manual leaves no result of a command open, so there is
no free value here; `lanesAtReset` is the one constant that is the model's own (log entry 3). -/

namespace Sys2Proof.Config

/-- R74, R120: records queued plus reservations stay at or below this capacity. -/
def traceCapacity : Nat := 512
/-- R152: the frame idle time in ticks. -/
def frameIdleTicks : Nat := 200
/-- R151: the greatest body length a header may declare. -/
def maxBody : Nat := 512
/-- R25: strips per lane. -/
def maxStrips : Nat := 4
/-- R91: entries of the ended-ticket ring. -/
def ringSize : Nat := 16
/-- R44: the wait of PAIR and DOT is clamped to this many ms. -/
def maxWaitMs : Nat := 10000
/-- R158: the part code. -/
def partCode : Nat := 4208
/-- R158: the revision number of the parts the manual describes. -/
def revision : Nat := 3
/-- R134: ports that may hold HEAD. -/
def maxHeads : Nat := 4
/-- R73: pairings in flight of one head port. -/
def maxPairingsPerHead : Nat := 2
/-- R6: die records of one map bank. -/
def maxDie : Nat := 16384
/-- R63: the width at which a pulse saturates, in µs. -/
def saturatedWidth : Nat := 65535
/-- R52: the ceiling of the spoil count. -/
def maxSpoilCount : Nat := 65535
/-- R66, R142: the ceiling of the orphan count and of the end count. -/
def maxOctetCount : Nat := 255
/-- R121: the most records one TRACE_READ returns. -/
def maxTraceRead : Nat := 8
/-- R46: the longest pick lease or bond lease in ticks. -/
def maxLeaseTicks : Nat := 600000
/-- R46: a modular difference below this bound is a true elapsed time. -/
def halfRange : Nat := 2147483648
/-- Table 2-2: the wet-ahead limit after hard reset. -/
def resetWetLimit : Nat := 4
/-- Table 2-2: the dot deadline after hard reset, in ms. -/
def resetDotDeadlineMs : Nat := 2000
/-- R126: the trace threshold after hard reset. -/
def resetThreshold : Nat := 256
/-- DESIGN CHOICE (log entry 3): the strap level that `State.reset` takes as sampled; true is dual-lane. -/
def lanesAtReset : Bool := true

end Sys2Proof.Config
end

