-- ==== Sys2Proof/Syntax.lean ====
section
/-! DEFINITION. Syntax.lean: the commands of the KX-4208, one constructor of `Instr` for each row of
spec/opcode_table.json, and the names that the commands use. A request command is the event "a frame of this kind with
this body completes on this port" (R151, R153); its operands are the body's octets, laid out by Table 12-4. -/

namespace Sys2Proof

/-- The two lanes. -/
inductive Lane where
  | A
  | B
  deriving DecidableEq, Repr

/-- The request kinds of Table 11-4, in its order. -/
inductive Kind where
  | ident | clockRead | noticeTake | noticeEnd | noticeMask | pause
  | role | product | lane | reach | start | resume | lineEnd | clear | lineStatus
  | mapOpen | mapRows | mapClose | mapAbort | dieMark
  | traceRead | traceLevel
  | pair | picked | bonded | pickFail | discard
  | dot | dotAbort | stripIn | stripOut | waferIn | waferOut
  deriving DecidableEq, Repr

/-- The blocks that own requests (Table 11-4, last column). -/
inductive Owner where
  | stationLinkPorts | processClock | noticeUnit | lineControl | laneTables | pairingEngine | mapStore | traceQueue
  | gateMonitor
  deriving DecidableEq, Repr

/-- One command: a row of spec/opcode_table.json with its operands. -/
inductive Instr where
  /-- IDENT (R158). -/
  | ident (p : Port) (body : List Octet)
  /-- CLOCK_READ (R42). -/
  | clockRead (p : Port) (body : List Octet)
  /-- NOTICE_TAKE (R144). -/
  | noticeTake (p : Port) (body : List Octet)
  /-- NOTICE_END (R145). -/
  | noticeEnd (p : Port) (body : List Octet)
  /-- NOTICE_MASK (R146). -/
  | noticeMask (p : Port) (body : List Octet)
  /-- PAUSE (R130). -/
  | pause (p : Port) (body : List Octet)
  /-- ROLE (R135). -/
  | role (p : Port) (body : List Octet)
  /-- PRODUCT (R22). -/
  | product (p : Port) (body : List Octet)
  /-- LANE (R23). -/
  | lane (p : Port) (body : List Octet)
  /-- REACH (R79). -/
  | reach (p : Port) (body : List Octet)
  /-- START (R129). -/
  | start (p : Port) (body : List Octet)
  /-- RESUME (R132). -/
  | resume (p : Port) (body : List Octet)
  /-- END (R133). -/
  | lineEnd (p : Port) (body : List Octet)
  /-- CLEAR (R137). -/
  | clear (p : Port) (body : List Octet)
  /-- LINE_STATUS (R136). -/
  | lineStatus (p : Port) (body : List Octet)
  /-- MAP_OPEN (R6). -/
  | mapOpen (p : Port) (body : List Octet)
  /-- MAP_ROWS (R7). -/
  | mapRows (p : Port) (body : List Octet)
  /-- MAP_CLOSE (R9). -/
  | mapClose (p : Port) (body : List Octet)
  /-- MAP_ABORT (R10). -/
  | mapAbort (p : Port) (body : List Octet)
  /-- DIE_MARK (R17). -/
  | dieMark (p : Port) (body : List Octet)
  /-- TRACE_READ (R121). -/
  | traceRead (p : Port) (body : List Octet)
  /-- TRACE_LEVEL, the request (R124). -/
  | traceLevel (p : Port) (body : List Octet)
  /-- PAIR (R73). -/
  | pair (p : Port) (body : List Octet)
  /-- PICKED (R96). -/
  | picked (p : Port) (body : List Octet)
  /-- BONDED (R97, R98). -/
  | bonded (p : Port) (body : List Octet)
  /-- PICK_FAIL (R99). -/
  | pickFail (p : Port) (body : List Octet)
  /-- DISCARD (R100). -/
  | discard (p : Port) (body : List Octet)
  /-- DOT (R56). -/
  | dot (p : Port) (body : List Octet)
  /-- DOT_ABORT (R68). -/
  | dotAbort (p : Port) (body : List Octet)
  /-- STRIP_IN (R26). -/
  | stripIn (p : Port) (body : List Octet)
  /-- STRIP_OUT (R35). -/
  | stripOut (p : Port) (body : List Octet)
  /-- WAFER_IN (R11). -/
  | waferIn (p : Port) (body : List Octet)
  /-- WAFER_OUT (R13). -/
  | waferOut (p : Port) (body : List Octet)
  /-- UNKNOWN_KIND_FRAME (R153): a frame completes whose kind octet names no kind of Table 11-4. -/
  | unknownKindFrame (p : Port) (kind : Octet) (body : List Octet)
  /-- FORMAT_AT_HEADER (R151): a header completes that declares a body length above 512. -/
  | formatAtHeader (p : Port) (kind : Octet) (declared : Half)
  /-- SEL_FALL (R151). -/
  | selFall (p : Port)
  /-- SEL_RISE (R155 to R157). -/
  | selRise (p : Port)
  /-- FRAME_IDLE_EXPIRY (R152). -/
  | frameIdleExpiry (p : Port)
  /-- RESET_ASSERT (R138). -/
  | resetAssert
  /-- RESET_RELEASE (R138, R159): `dual` is the level of the LANES strap at the release, true for dual-lane. -/
  | resetRelease (dual : Bool)
  /-- CLOCK_TICK (R41). -/
  | clockTick
  /-- LEASE_EXPIRY (R101) of the pairing in flight that holds the ticket. -/
  | leaseExpiry (t : Ticket)
  /-- DOT_DEADLINE_EXPIRY (R67) of the lane's dispensing assignment. -/
  | dotDeadlineExpiry (l : Lane)
  /-- PAIR_WAIT_EXPIRY (R112) of the port's wait-list entry. -/
  | pairWaitExpiry (p : Port)
  /-- DOT_WAIT_EXPIRY (R60) of the lane's dot waiter. -/
  | dotWaitExpiry (l : Lane)
  /-- MEASUREMENT_START (R63): the lane's gate input becomes active. -/
  | measurementStart (l : Lane)
  /-- PULSE_IN_PROGRESS (R63, R64): the measured width reaches 1 µs. -/
  | pulseInProgress (l : Lane)
  /-- PULSE_SATURATION (R63): the measured width reaches 65,535 µs. -/
  | pulseSaturation (l : Lane)
  /-- GATE_FALLING_EDGE (R63): the lane's gate input falls inactive; `width` is the whole µs counted since the start. -/
  | gateFallingEdge (l : Lane) (width : Half)
  /-- SCLK_RISING_EDGE (R151, R155) with the level of SDI at the edge. -/
  | sclkRisingEdge (p : Port) (sdi : Bool)
  deriving DecidableEq, Repr

end Sys2Proof
end

