-- ==== Sys2Proof/Decode.lean ====
section
/-! DEFINITION. Decode.lean: the octet layouts of Chapter 12. The opcode table gives no row any bits (a command of this
block is an event, not a word), so `decodeTableWord` names no command. What the part itself decodes is the request frame:
the kind octet, the length check and the body fields, which stand here with the builders of the same layouts. -/

namespace Sys2Proof

/-- No row of spec/opcode_table.json gives bits, so no word spells a command. -/
def decodeTableWord (_nbits _w : Nat) : Option Instr := none

/-! ## Octets and fields (R161) -/

/-- The bits of an octet, most significant first (R161). -/
def octetBits (o : Octet) : List Bool :=
  [o.getLsbD 7, o.getLsbD 6, o.getLsbD 5, o.getLsbD 4, o.getLsbD 3, o.getLsbD 2, o.getLsbD 1, o.getLsbD 0]

/-- The octet that eight sampled bits make, the first bit the most significant (R151, R161). -/
def octetOfBits (bits : List Bool) : Octet :=
  bits.foldl (fun o b => (o <<< 1) ||| (if b then 1 else 0)) 0

/-- The octet at an offset of a body; past the end it reads as 0, which no checked body meets (R163). -/
def u8 (b : List Octet) (i : Nat) : Octet := b.getD i 0

/-- The two-octet value at an offset, high octet first (R161). -/
def u16 (b : List Octet) (i : Nat) : Half := u8 b i ++ u8 b (i + 1)

/-- The four-octet value at an offset, high octet first (R161). -/
def u32 (b : List Octet) (i : Nat) : BitVec 32 := u16 b i ++ u16 b (i + 2)

/-- One octet that carries a number (Table 12-2). -/
def oct (n : Nat) : Octet := BitVec.ofNat 8 n

/-- Two octets, high octet first (R161). -/
def be16 (x : Half) : List Octet := [x.extractLsb' 8 8, x.extractLsb' 0 8]

/-- Two octets that carry a number. -/
def nat16 (n : Nat) : List Octet := be16 (BitVec.ofNat 16 n)

/-- Four octets, high octet first (R161). -/
def be32 (x : BitVec 32) : List Octet := be16 (x.extractLsb' 16 16) ++ be16 (x.extractLsb' 0 16)

/-- The octets of a request frame: kind, body length, body (R161, Table 12-1). -/
def frameOctets (kind : Octet) (body : List Octet) : List Octet := kind :: (nat16 body.length ++ body)

/-! ## Kinds (Table 11-4) -/

/-- The kind codes of Table 11-4. -/
def Kind.code : Kind → Octet
  | .ident => 1 | .clockRead => 2 | .noticeTake => 3 | .noticeEnd => 4 | .noticeMask => 5 | .pause => 6
  | .role => 16 | .product => 17 | .lane => 18 | .reach => 19 | .start => 20 | .resume => 21 | .lineEnd => 22
  | .clear => 23 | .lineStatus => 24
  | .mapOpen => 32 | .mapRows => 33 | .mapClose => 34 | .mapAbort => 35 | .dieMark => 36
  | .traceRead => 40 | .traceLevel => 41
  | .pair => 48 | .picked => 49 | .bonded => 50 | .pickFail => 51 | .discard => 52
  | .dot => 64 | .dotAbort => 65 | .stripIn => 72 | .stripOut => 73 | .waferIn => 80 | .waferOut => 81

/-- The request kinds, in the order of Table 11-4. -/
def Kind.list : List Kind :=
  [.ident, .clockRead, .noticeTake, .noticeEnd, .noticeMask, .pause, .role, .product, .lane, .reach, .start, .resume,
   .lineEnd, .clear, .lineStatus, .mapOpen, .mapRows, .mapClose, .mapAbort, .dieMark, .traceRead, .traceLevel, .pair,
   .picked, .bonded, .pickFail, .discard, .dot, .dotAbort, .stripIn, .stripOut, .waferIn, .waferOut]

/-- The kind that a kind octet names, if it names one (R153, check 1). -/
def kindOfCode (o : Octet) : Option Kind := Kind.list.find? (fun k => k.code == o)

/-- The owner to which a request of the kind is handed (Table 11-4). -/
def Kind.owner : Kind → Owner
  | .ident => .stationLinkPorts
  | .clockRead => .processClock
  | .noticeTake | .noticeEnd | .noticeMask => .noticeUnit
  | .pause | .role | .product | .start | .resume | .lineEnd | .clear | .lineStatus => .lineControl
  | .lane | .stripIn | .stripOut => .laneTables
  | .reach | .pair | .picked | .bonded | .pickFail | .discard => .pairingEngine
  | .mapOpen | .mapRows | .mapClose | .mapAbort | .dieMark | .waferIn | .waferOut => .mapStore
  | .traceRead | .traceLevel => .traceQueue
  | .dot | .dotAbort => .gateMonitor

/-- The fixed body length of a kind, and none for the two kinds with a list (Table 12-4). -/
def Kind.fixedLength : Kind → Option Nat
  | .ident | .clockRead | .noticeTake | .noticeEnd | .pause | .start | .resume | .lineEnd | .clear | .lineStatus
  | .mapAbort | .dotAbort | .waferOut => some 0
  | .noticeMask | .traceRead | .picked | .discard | .stripOut => some 1
  | .dot | .traceLevel | .pickFail => some 2
  | .role | .pair => some 3
  | .lane | .mapClose | .dieMark | .waferIn => some 4
  | .bonded => some 5
  | .mapOpen | .reach => some 12
  | .product => some 20
  | .mapRows | .stripIn => none

/-- R163: check 2 of R153, the body length and the count octets of a frame of the kind. -/
def lengthOk (k : Kind) (body : List Octet) : Bool :=
  match k.fixedLength with
  | some n => body.length == n
  | none =>
    match k with
    | .mapRows => 1 ≤ (u8 body 2).toNat && (u8 body 2).toNat ≤ 64 && body.length == 3 + (u8 body 2).toNat
    | _ => (u8 body 6).toNat ≤ 64 && body.length == 7 + (u8 body 6).toNat

/-- What the octets received so far amount to (R151). -/
inductive FrameProgress where
  /-- The frame is not complete. -/
  | more
  /-- The header declares a body length above 512. -/
  | badHeader (kind : Octet)
  /-- The declared number of body octets has been appended. -/
  | complete (kind : Octet) (body : List Octet)
  deriving DecidableEq, Repr

/-- R151: how far a frame has grown once an octet is appended. -/
def frameProgress (octets : List Octet) : FrameProgress :=
  if octets.length < 3 then .more
  else if Config.maxBody < (u16 octets 1).toNat then .badHeader (u8 octets 0)
  else if octets.length < 3 + (u16 octets 1).toNat then .more
  else .complete (u8 octets 0) (octets.drop 3)

/-- R151: the octets and bits received so far begin the frame and do not yet complete it. -/
def beginsFrame (octets : List Octet) (bits : List Bool) (frame : List Octet) : Bool :=
  octets.isPrefixOf frame &&
    match frame.drop octets.length with
    | [] => false
    | o :: _ => bits.isPrefixOf (octetBits o) && bits.length < 8

/-! ## Body builders: the layouts of Table 12-4 and Table 12-5, for a sender -/

def RequestBody.noticeMask (mask : Octet) : List Octet := [mask]
def RequestBody.traceRead (n : Octet) : List Octet := [n]
def RequestBody.ticket (t : Ticket) : List Octet := [t]
def RequestBody.stripOut (lane : Octet) : List Octet := [lane]
def RequestBody.dot (waitMs : Half) : List Octet := be16 waitMs
def RequestBody.traceLevel (threshold : Half) : List Octet := be16 threshold
def RequestBody.pickFail (t : Ticket) (reason : Octet) : List Octet := [t, reason]
def RequestBody.role (port role level : Octet) : List Octet := [port, role, level]
def RequestBody.pair (choice : Octet) (waitMs : Half) : List Octet := choice :: be16 waitMs
def RequestBody.lane (lane limit : Octet) (deadlineMs : Half) : List Octet := lane :: limit :: be16 deadlineMs
def RequestBody.mapClose (count check : Half) : List Octet := be16 count ++ be16 check
def RequestBody.dieMark (bank : Octet) (index : Half) (action : Octet) : List Octet := bank :: (be16 index ++ [action])
def RequestBody.waferIn (wafer : Tag) : List Octet := be32 wafer
def RequestBody.bonded (t : Ticket) (dx dy : Half) : List Octet := t :: (be16 dx ++ be16 dy)
def RequestBody.mapOpen (wafer : Tag) (cols rows colPitch rowPitch : Half) : List Octet :=
  be32 wafer ++ be16 cols ++ be16 rows ++ be16 colPitch ++ be16 rowPitch
def RequestBody.reach (port : Octet) (w1 w2 : List Octet) (mask : Octet) : List Octet := port :: (w1 ++ w2 ++ [mask])
def RequestBody.product (code sites : Octet) (gradeSet : Half) (openTime : BitVec 32)
    (marginMs dotMin dotMax tolerance pickMs bondMs : Half) : List Octet :=
  code :: sites :: (be16 gradeSet ++ be32 openTime ++ be16 marginMs ++ be16 dotMin ++ be16 dotMax ++ be16 tolerance ++
    be16 pickMs ++ be16 bondMs)
def RequestBody.mapRows (start : Half) (grades : List Octet) : List Octet := be16 start ++ oct grades.length :: grades
def RequestBody.stripIn (lane : Octet) (strip : Tag) (code : Octet) (bad : List Octet) : List Octet :=
  lane :: (be32 strip ++ code :: oct bad.length :: bad)

end Sys2Proof
end

