-- ==== Sys2Proof/Machine/State.lean ====
section
/-! DEFINITION. State.lean: everything the manual gives the KX-4208, as plain data, block by block (Table 0-1), with the
queue of waiting commands, the machine after hard reset, and the ways a step can stop. -/

namespace Sys2Proof.Machine

open Sys2Proof

/-! ## Tables over fixed index sets -/

/-- One value for each lane. -/
structure PerLane (α : Type) where
  a : α
  b : α
  deriving DecidableEq, Repr

/-- The two map banks (R1). -/
inductive BankId where
  | b0
  | b1
  deriving DecidableEq, Repr

/-- One value for each map bank. -/
structure PerBank (α : Type) where
  b0 : α
  b1 : α
  deriving DecidableEq, Repr

/-! ## Line Control (Chapter 9) -/

/-- The line states of Table 9-1. -/
inductive LineState where
  | setup
  | run
  | paused
  deriving DecidableEq, Repr

/-- The roles of Table 9-3; `dispenser A` is DISPENSER_A, and `unassigned` is NONE. -/
inductive Role where
  | unassigned
  | supervisor
  | head
  | dispenser (l : Lane)
  | indexer
  | wafer
  deriving DecidableEq, Repr

/-- A role-table entry (Table 9-3). -/
structure RoleEntry where
  role : Role
  /-- 0–3. -/
  level : Nat
  deriving DecidableEq, Repr

/-- A defined product table entry (Table 2-1), durations in the units of the PRODUCT request. -/
structure Product where
  /-- Sites per strip, 1–64. -/
  siteCount : Nat
  /-- Bit g set: grade g is accepted (Table 12-3). -/
  gradeSet : BitVec 16
  /-- 1–360,000 units of 10 ms. -/
  openTime : Nat
  /-- Bond margin in ms. -/
  marginMs : Nat
  /-- Dot window minimum in µs. -/
  dotMin : Nat
  /-- Dot window maximum in µs. -/
  dotMax : Nat
  /-- Placement tolerance in µm. -/
  tolerance : Nat
  /-- Pick lease in ms. -/
  pickLeaseMs : Nat
  /-- Bond lease in ms. -/
  bondLeaseMs : Nat
  deriving DecidableEq, Repr

/-! ## Map Store (Chapter 1) -/

/-- The bank states of Table 1-1. -/
inductive BankState where
  | empty
  | loading
  | staged
  | active
  | retiring
  deriving DecidableEq, Repr

/-- The die states of Table 1-5. -/
inductive DieState where
  | absent
  | reject
  | available
  | claimed
  | picked
  | placed
  | lost
  | failed
  | suspect
  deriving DecidableEq, Repr

/-- A die record (Table 1-4). -/
structure DieRecord where
  grade : Grade
  state : DieState
  /-- 0–2. -/
  retry : Nat
  deriving DecidableEq, Repr

/-- What a die record holds when nothing has been loaded into it (R3, R19). -/
def DieRecord.blank : DieRecord := { grade := 15, state := .absent, retry := 0 }

/-- A map bank: its wafer header (Table 1-3) and its die table. The die table lists, by strictly rising die index, the
records that differ from `DieRecord.blank`; every unlisted record is blank. -/
structure MapBank where
  state : BankState
  waferId : Tag
  cols : Nat
  rows : Nat
  colPitch : Nat
  rowPitch : Nat
  /-- Rows received: a count of die (R2). -/
  received : Nat
  /-- The running check, modulo 65,536 (R8). -/
  check : Half
  /-- The AVAILABLE count (R5). -/
  available : Nat
  /-- The pairing-references count (R4). -/
  refs : Nat
  dies : List (Nat × DieRecord)
  deriving DecidableEq, Repr

/-- An EMPTY bank: every header field 0 (R2, R19), its die records blank (log entry 17). -/
def MapBank.blank : MapBank :=
  { state := .empty, waferId := 0, cols := 0, rows := 0, colPitch := 0, rowPitch := 0, received := 0, check := 0,
    available := 0, refs := 0, dies := [] }

/-! ## Lane Tables (Chapter 2) -/

/-- What a site gains at a BONDED report, with its wet time (Table 2-4, R98). -/
structure BondFields where
  wetTime : Reading
  bondTime : Reading
  ageAtBond : Reading
  waferId : Tag
  col : Nat
  row : Nat
  grade : Grade
  headPort : Port
  deriving DecidableEq, Repr

/-- A site record: its state (Table 2-5) with the fields that state has (Table 2-4). -/
inductive Site where
  | empty
  | dispensing
  | wetted (wetTime : Reading)
  | paired (wetTime : Reading) (ticket : Ticket)
  | bonded (f : BondFields)
  | late (f : BondFields)
  | misplaced (f : BondFields)
  | spoiled (wetTime : Reading)
  | badDot
  | skipped
  | suspect (wetTime : Reading)
  deriving DecidableEq, Repr

/-- A strip record (Table 2-3) with its unsettled count (R31). -/
structure Strip where
  id : Tag
  product : ProductCode
  arrival : BitVec 32
  slot : Fin 4
  sites : List Site
  unsettled : Nat
  deriving DecidableEq, Repr

/-- The Lane Tables' state of one lane. -/
structure LaneTable where
  /-- The strips present, oldest first (R25). -/
  strips : List Strip
  arrivalCounter : BitVec 32
  /-- The wet-ahead count (R29). -/
  wetAhead : Nat
  /-- The wet-ahead limit (Table 2-2). -/
  wetLimit : Nat
  /-- The dot deadline in ms (Table 2-2). -/
  dotDeadlineMs : Nat
  deriving DecidableEq, Repr

/-! ## Gate Monitor (Chapter 4) -/

/-- A dispensing assignment (Table 4-1). -/
structure Assignment where
  slot : Fin 4
  arrival : BitVec 32
  stripId : Tag
  site : Nat
  /-- The deadline reading (R58). -/
  deadline : Reading
  /-- False once an expiry has been ignored: the assignment then has no further deadline (R67). -/
  deadlineRuns : Bool
  deriving DecidableEq, Repr

/-- The pulse measurement of one gate input (R63, R64). -/
inductive Measurement where
  | idle
  /-- The gate is active and the width has not reached 1 µs. -/
  | started
  /-- A pulse is in progress: the width so far in µs, and whether it is bound to the assignment. -/
  | inProgress (width : Nat) (bound : Bool)
  deriving DecidableEq, Repr

/-- A DOT held by the Gate Monitor (R59). -/
structure DotWaiter where
  port : Port
  start : Reading
  /-- The wait length in ticks. -/
  length : Nat
  deriving DecidableEq, Repr

/-- The Gate Monitor's state of one lane (Table 4-1), with the level at the lane's dispense-gate input. -/
structure GateMonitor where
  assignment : Option Assignment
  measurement : Measurement
  /-- The gate ready flag (R63). -/
  ready : Bool
  waiter : Option DotWaiter
  /-- The orphan count, 0–255 (R66). -/
  orphans : Nat
  /-- The input pin: true while the gate is active. -/
  gateActive : Bool
  deriving DecidableEq, Repr

/-! ## Pairing Engine (Chapters 5 to 7) -/

/-- The phase of a pairing; PICKED carries the pick time (Table 6-1). -/
inductive Phase where
  | claimed
  | picked (pickTime : Reading)
  deriving DecidableEq, Repr

/-- A pairing record (Table 6-1). -/
structure Pairing where
  ticket : Ticket
  port : Port
  phase : Phase
  bank : BankId
  waferId : Tag
  col : Nat
  row : Nat
  grade : Grade
  lane : Lane
  arrival : BitVec 32
  stripId : Tag
  site : Nat
  grantTime : Reading
  leaseStart : Reading
  /-- In ticks. -/
  leaseLength : Nat
  deriving DecidableEq, Repr

/-- The pairing outcomes of R91. -/
inductive PairOutcome where
  | bonded
  | late
  | misplaced
  | pickFailed
  | discarded
  | revoked
  | expired
  | cleared
  | withdrawn
  deriving DecidableEq, Repr

/-- An entry of the ended-ticket ring (R91). -/
structure RingEntry where
  ticket : Ticket
  port : Port
  outcome : PairOutcome
  deriving DecidableEq, Repr

/-- A reach window (Table 5-2). -/
structure Window where
  enabled : Bool
  colLo : Nat
  colHi : Nat
  rowLo : Nat
  rowHi : Nat
  deriving DecidableEq, Repr

/-- A reach record (Table 5-2). -/
structure Reach where
  w1 : Window
  w2 : Window
  laneA : Bool
  laneB : Bool
  deriving DecidableEq, Repr

/-- A wafer position: column and row (R84). -/
structure Pos where
  col : Nat
  row : Nat
  deriving DecidableEq, Repr

/-- The lane choice of a PAIR (R73). -/
inductive LaneChoice where
  | only (l : Lane)
  | either
  deriving DecidableEq, Repr

/-- The causes of a failed selection (R83). -/
inductive Cause where
  | noWafer
  | noSite
  | noDie
  deriving DecidableEq, Repr

/-- What stood in the way of a waiting request (R106); TRACE keeps the two counts read at the trace check (R111). -/
inductive Obstacle where
  | trace (queued inFlight : Nat)
  | selection (c : Cause)
  deriving DecidableEq, Repr

/-- A wait list entry (Table 7-1). -/
structure WaitEntry where
  port : Port
  level : Nat
  choice : LaneChoice
  start : Reading
  /-- In ticks. -/
  length : Nat
  obstacle : Option Obstacle
  deriving DecidableEq, Repr

/-! ## Trace Queue (Chapter 8) -/

/-- The loss reasons of Table 8-2. -/
inductive LossReason where
  | discarded
  | expired
  | revoked
  | cleared
  deriving DecidableEq, Repr

/-- The kind of a trace record with the fields the two kinds do not share (Table 8-2). -/
inductive TraceKind where
  | bond (late misplaced : Bool) (ageAtBond : Reading) (dx dy : Half)
  | loss (reason : LossReason)
  deriving DecidableEq, Repr

/-- A trace record (Table 8-2). -/
structure TraceRecord where
  seq : BitVec 32
  kind : TraceKind
  port : Port
  ticket : Ticket
  lane : Lane
  stripId : Tag
  site : Nat
  waferId : Tag
  col : Nat
  row : Nat
  grade : Grade
  grantTime : Reading
  pickTime : Reading
  endTime : Reading
  deriving DecidableEq, Repr

/-- The Trace Queue (Table 8-1); the level is the length of `records`. -/
structure TraceQueue where
  /-- Oldest first. -/
  records : List TraceRecord
  nextSeq : BitVec 32
  reservations : Nat
  threshold : Nat
  deriving DecidableEq, Repr

/-! ## Notice Unit (Chapter 10) -/

/-- The notice sources of Table 12-8. -/
inductive Source where
  | lineStopped
  | siteSpoiled
  | traceLevel
  | pairingEnded
  | lineState
  | dotRejected
  | dotEnded
  | pulseOrphan
  | stripSettled
  | waferClear
  | waferExhausted
  deriving DecidableEq, Repr

/-- The causes of LINE_STATE (R131). -/
inductive LineCause where
  | start
  | pause
  | resume
  | lineEnd
  | clear
  deriving DecidableEq, Repr

/-- The reasons of DOT_ENDED (R69). -/
inductive DotEndReason where
  | timeout
  | stripGone
  deriving DecidableEq, Repr

/-- A source with its detail (Table 10-1). -/
inductive Notice where
  | lineStopped (port : Port)
  | siteSpoiled (lane : Lane) (stripId : Tag) (site : Nat) (count : Nat)
  | traceLevel (level : Nat)
  | pairingEnded (count : Nat) (entries : List (Ticket × PairOutcome))
  | lineState (cause : LineCause) (state : LineState)
  | dotRejected (stripId : Tag) (site : Nat) (width : Nat)
  | dotEnded (stripId : Tag) (site : Nat) (reason : DotEndReason)
  | pulseOrphan (count : Nat)
  | stripSettled (laneA laneB : Bool)
  | waferClear (waferId : Tag)
  | waferExhausted (waferId : Tag)
  deriving DecidableEq, Repr

/-- The notice state of one port (R140), each set indexed by rank: the detail of each pending source, the mask and the
in-service set. -/
structure NoticeState where
  pending : Vector (Option Notice) 4
  mask : Vector Bool 4
  inService : Vector Bool 4
  deriving DecidableEq, Repr

/-- An emptied notice state with the mask all clear (R140). -/
def NoticeState.blank : NoticeState :=
  { pending := #v[none, none, none, none], mask := #v[false, false, false, false],
    inService := #v[false, false, false, false] }

/-! ## Station Link Ports (Chapter 11) -/

/-- The status codes of Table 11-5, by name. -/
inductive Status where
  | ok
  | noneHere
  | role
  | state
  | paused
  | format
  | range
  | busy
  | full
  | limit
  | traceFull
  | unknown
  | stale
  | notOwner
  | wrongWafer
  | noMap
  | checkFail
  | cleared
  deriving DecidableEq, Repr

/-- A response: its status and its body octets (R161). -/
structure Response where
  status : Status
  body : List Octet
  deriving DecidableEq, Repr

/-- The grant mark of an OK response to PAIR or DOT (Table 11-2). -/
inductive GrantMark where
  | pair (ticket : Ticket) (port : Port) (grantTime : Reading)
  | dot (lane : Lane) (slot : Fin 4) (arrival : BitVec 32) (stripId : Tag) (site : Nat) (deadline : Reading)
  deriving DecidableEq, Repr

/-- The link state of a port (Table 11-3) with the items of Table 11-2 that the state has. -/
inductive Link where
  | idle
  /-- The octets received so far, the bits of the octet in hand, and the reading the frame idle timer runs from. -/
  | receiving (octets : List Octet) (bits : List Bool) (idleStart : Reading)
  /-- HOLDING, with the request in its owner's hand. -/
  | holding (kind : Kind)
  /-- HOLDING, with a response that is decided and not yet handed over (R154, R156, log entry 30): the request if it reached an
  owner, the response, the grant mark. -/
  | decided (kind : Option Kind) (resp : Response) (mark : Option GrantMark)
  /-- The request in hand if it reached an owner (log entry 24), the response, the bits of it shifted out so far (log entry
  25), the grant mark. -/
  | answering (kind : Option Kind) (resp : Response) (bitsOut : Nat) (mark : Option GrantMark)
  | draining
  deriving DecidableEq, Repr

/-- One station link port: the level of its SEL input and its link state. -/
structure PortState where
  /-- The input pin: true while SEL is low, which is its active level. -/
  selLow : Bool
  link : Link
  deriving DecidableEq, Repr

/-! ## The machine -/

/-- The state of the KX-4208. -/
structure State where
  /-- The RESET pin is asserted (R138). -/
  resetAsserted : Bool
  /-- The Process Clock's reading (R41). -/
  clock : Reading
  /-- The sweep position number, 0–511 (R49). -/
  sweepPos : BitVec 9
  /-- The sweep's visit at the present reading has not been taken yet: the model's own field (log entry 28). -/
  visitOwed : Bool
  /-- The sampled LANES strap: true is dual-lane (R24). -/
  dualLane : Bool
  line : LineState
  roles : Vector RoleEntry 8
  /-- The product table; an undefined entry is `none` (R21). -/
  products : Vector (Option Product) 8
  banks : PerBank MapBank
  lanes : PerLane LaneTable
  gates : PerLane GateMonitor
  /-- The pairing table, in the order in which the tickets were issued (R89, R103). -/
  pairings : List Pairing
  /-- The last issued ticket (R90). -/
  lastTicket : Ticket
  /-- The ended-ticket ring, oldest first (R91). -/
  ring : List RingEntry
  /-- The reach records of S1 to S7; the entry of S0 is never written (log entry 13). -/
  reach : Vector Reach 8
  /-- The last-pick positions of S1 to S7; the entry of S0 stays at its starting corner (log entry 13). -/
  lastPick : Vector Pos 8
  /-- The wait list in list order (R106). -/
  waitList : List WaitEntry
  trace : TraceQueue
  notices : Vector NoticeState 8
  ports : Vector PortState 8
  /-- The commands that wait, first in first out: the model's own field (log entry 1). -/
  pending : List Instr
  deriving DecidableEq, Repr

/-- A disabled reach window with all bounds 0 (R78). -/
def Window.blank : Window := { enabled := false, colLo := 0, colHi := 0, rowLo := 0, rowHi := 0 }

/-- The reach record after hard reset (Table 5-2). -/
def Reach.blank : Reach := { w1 := .blank, w2 := .blank, laneA := true, laneB := true }

/-- A lane of the Lane Tables after hard reset (R39). -/
def LaneTable.blank : LaneTable :=
  { strips := [], arrivalCounter := 0, wetAhead := 0, wetLimit := Config.resetWetLimit,
    dotDeadlineMs := Config.resetDotDeadlineMs }

/-- A lane of the Gate Monitor after hard reset, its gate input at the given level (R71). -/
def GateMonitor.blank (gateActive : Bool) : GateMonitor :=
  { assignment := none, measurement := .idle, ready := false, waiter := none, orphans := 0, gateActive := gateActive }

/-- The Trace Queue after hard reset (R126). -/
def TraceQueue.blank : TraceQueue :=
  { records := [], nextSeq := 0, reservations := 0, threshold := Config.resetThreshold }

/-- The role table after hard reset (Table 9-3). -/
def rolesAtReset : Vector RoleEntry 8 :=
  #v[⟨.supervisor, 0⟩, ⟨.unassigned, 0⟩, ⟨.unassigned, 0⟩, ⟨.unassigned, 0⟩,
     ⟨.unassigned, 0⟩, ⟨.unassigned, 0⟩, ⟨.unassigned, 0⟩, ⟨.unassigned, 0⟩]

/-- The machine right after hard reset (Table 9-4): the RESET pin just released and no gate sample taken yet, every SEL
high, both gate inputs inactive, the LANES strap sampled at `Config.lanesAtReset` (log entry 3). -/
def State.reset : State :=
  { resetAsserted := false
    clock := 0
    sweepPos := 0
    visitOwed := false
    dualLane := Config.lanesAtReset
    line := .setup
    roles := rolesAtReset
    products := #v[none, none, none, none, none, none, none, none]
    banks := ⟨.blank, .blank⟩
    lanes := ⟨.blank, .blank⟩
    gates := ⟨.blank false, .blank false⟩
    pairings := []
    lastTicket := 0
    ring := []
    reach := #v[.blank, .blank, .blank, .blank, .blank, .blank, .blank, .blank]
    lastPick := #v[⟨0, 0⟩, ⟨0, 0⟩, ⟨0, 0⟩, ⟨0, 0⟩, ⟨0, 0⟩, ⟨0, 0⟩, ⟨0, 0⟩, ⟨0, 0⟩]
    waitList := []
    trace := .blank
    notices := #v[.blank, .blank, .blank, .blank, .blank, .blank, .blank, .blank]
    ports := #v[⟨false, .idle⟩, ⟨false, .idle⟩, ⟨false, .idle⟩, ⟨false, .idle⟩,
                ⟨false, .idle⟩, ⟨false, .idle⟩, ⟨false, .idle⟩, ⟨false, .idle⟩]
    pending := [] }

/-- The manual gives no behaviour in which the part stops, so no step ends in a fault. -/
inductive Fault where
  deriving DecidableEq, Repr

/-- The ways a step can be refused. -/
inductive Refusal where
  /-- An arm of `exec` that gives its command no meaning raises it; no arm does. Safe: the model stops. -/
  | notModelled (mnemonic : String)
  /-- Any command raises it whose term names no event of the part (`Instr.wellFormed` is false): a body of more than 512
  octets, UNKNOWN_KIND_FRAME with a kind of Table 11-4, FORMAT_AT_HEADER that declares 512 or less. Safe: the model stops. -/
  | notAnEvent
  deriving DecidableEq, Repr

end Sys2Proof.Machine
end

