-- ==== Sys2Proof/Machine/Flags.lean ====
section
/-! DEFINITION. Flags.lean: the conditions the blocks decide by: elapsed time and timers (R45), age, remaining open time
and eligibility (R47, R48), what each site state counts as (Table 2-5), the notice sources of each role and the ATTN
condition (Table 10-1, R147), and the level-driven outputs of a port (Table 11-3). -/

namespace Sys2Proof.Machine

open Sys2Proof

/-! ## Time (R44, R45) -/

/-- The elapsed time from one reading to a later one, in ticks (R45). -/
def elapsed (start now : Reading) : Nat := (now - start).toNat

/-- A timer with this start and length has fallen due (R45). -/
def due (start : Reading) (length : Nat) (now : Reading) : Bool := length ≤ elapsed start now

/-- A timer kept as its deadline reading has fallen due: the time since the deadline is a true elapsed time (R46, log
entry 8). -/
def deadlineReached (deadline now : Reading) : Bool := elapsed deadline now < Config.halfRange

/-- The reading `start + length` modulo 2^32 (R45). -/
def deadlineOf (start : Reading) (length : Nat) : Reading := start + BitVec.ofNat 32 length

/-- Milliseconds to ticks (Table 3-2). -/
def ticksOfMs (ms : Nat) : Nat := ms * 10

/-- The wait of a PAIR or DOT in ticks, clamped before conversion (R44). -/
def waitTicks (ms : Nat) : Nat := ticksOfMs (min ms Config.maxWaitMs)

/-- The open time T in ticks (R21). -/
def Product.openTicks (pr : Product) : Nat := pr.openTime * 100

/-- The bond margin M in ticks (R21). -/
def Product.marginTicks (pr : Product) : Nat := ticksOfMs pr.marginMs

/-- Remaining open time: T less age, and 0 once the age is T or more (R47). -/
def remainingOpen (openTicks age : Nat) : Nat := openTicks - age

/-- R48, for a WETTED site of this age: R ≥ M and R > 0. -/
def eligibleAge (pr : Product) (age : Nat) : Bool :=
  pr.marginTicks ≤ remainingOpen pr.openTicks age && 0 < remainingOpen pr.openTicks age

/-! ## Site states (Table 2-5) -/

/-- The state counts toward the wet-ahead count. -/
def Site.countsWet : Site → Bool
  | .dispensing | .wetted _ | .paired _ _ => true
  | _ => false

/-- The state is settled. -/
def Site.settled : Site → Bool
  | .bonded _ | .late _ | .misplaced _ | .spoiled _ | .badDot | .skipped | .suspect _ => true
  | _ => false

/-- The wet time, where the state holds one (Table 2-4). -/
def Site.wetTime : Site → Option Reading
  | .wetted w | .paired w _ | .spoiled w | .suspect w => some w
  | .bonded f | .late f | .misplaced f => some f.wetTime
  | _ => none

/-- The strip is settled (R31). -/
def Strip.settled (st : Strip) : Bool := st.unsettled == 0

/-! ## Notice sources (Table 10-1) -/

/-- The sources of a role in rank order. -/
def Role.sources : Role → List Source
  | .unassigned => []
  | .supervisor => [.lineStopped, .siteSpoiled, .traceLevel]
  | .head => [.pairingEnded, .lineState]
  | .dispenser _ => [.dotRejected, .dotEnded, .pulseOrphan, .lineState]
  | .indexer => [.stripSettled, .lineState]
  | .wafer => [.waferClear, .waferExhausted, .lineState]

/-- The four rank indices, highest rank first. -/
def ranks : List RankIx := [0, 1, 2, 3]

/-- The source that a role has at a rank. -/
def Role.sourceAt (r : Role) (k : RankIx) : Option Source := r.sources[k.val]?

/-- The rank a source has in a role, if the role owns it. -/
def Role.rankOf (r : Role) (src : Source) : Option RankIx := ranks.find? (fun k => r.sourceAt k == some src)

/-- The source of a notice. -/
def Notice.source : Notice → Source
  | .lineStopped _ => .lineStopped
  | .siteSpoiled _ _ _ _ => .siteSpoiled
  | .traceLevel _ => .traceLevel
  | .pairingEnded _ _ => .pairingEnded
  | .lineState _ _ => .lineState
  | .dotRejected _ _ _ => .dotRejected
  | .dotEnded _ _ _ => .dotEnded
  | .pulseOrphan _ => .pulseOrphan
  | .stripSettled _ _ => .stripSettled
  | .waferClear _ => .waferClear
  | .waferExhausted _ => .waferExhausted

/-- R141, R142: the detail that a raising leaves when the source is already pending with the detail `old`. Only
SITE_SPOILED and PAIRING_ENDED gather; every other detail is replaced. -/
def Notice.merge (old new : Notice) : Notice :=
  match old, new with
  | .siteSpoiled _ _ _ n, .siteSpoiled l id i _ => .siteSpoiled l id i (min Config.maxSpoilCount (n + 1))
  | .pairingEnded n es, .pairingEnded _ e =>
    .pairingEnded (min Config.maxOctetCount (n + 1)) ((if es.length < 2 then es else es.drop 1) ++ e)
  | _, new => new

/-- The rank holds a pending source that is not masked. -/
def NoticeState.offers (n : NoticeState) (k : RankIx) : Bool := n.pending[k].isSome && !n.mask[k]

/-- The highest-ranked pending unmasked source (R144). -/
def NoticeState.firstOffered (n : NoticeState) : Option RankIx := ranks.find? n.offers

/-- The highest-ranked source in service (R145). -/
def NoticeState.firstInService (n : NoticeState) : Option RankIx := ranks.find? (fun k => n.inService[k])

/-- How many sources are pending and unmasked (R144). -/
def NoticeState.offeredCount (n : NoticeState) : Nat := (ranks.filter n.offers).length

/-- R147: a pending unmasked source ranks above every source in service. -/
def NoticeState.callsStation (n : NoticeState) : Bool :=
  ranks.any (fun k => n.offers k && ranks.all (fun j => !n.inService[j] || k < j))

/-- The ATTN output of a port (R147); deasserted during hard reset (R138). -/
def State.attn (s : State) (p : Port) : Bool := !s.resetAsserted && s.notices[p].callsStation

/-! ## Port outputs (Table 11-3) -/

/-- The RDY output of a port: low in HOLDING alone. -/
def State.rdy (s : State) (p : Port) : Bool :=
  match s.ports[p].link with
  | .holding _ => false
  | .decided _ _ _ => false
  | _ => true

/-- R125: the condition of the TRACE_LEVEL notice. -/
def TraceQueue.atThreshold (t : TraceQueue) : Bool := t.threshold ≤ t.records.length

/-- R74, R120: a reservation can be made. -/
def TraceQueue.canReserve (t : TraceQueue) : Bool := t.records.length + t.reservations < Config.traceCapacity

end Sys2Proof.Machine
end

