-- ==== Sys2Proof/Machine/Operands.lean ====
section
/-! DEFINITION. Operands.lean: the codes that request bodies carry and what they name (Table 12-3), the codes and layouts of
response bodies (Table 11-5, Tables 12-6 to 12-8), and the roles that may send each kind (Table 11-4). -/

namespace Sys2Proof.Machine

open Sys2Proof

/-! ## Codes read from request bodies (Table 12-3); a code that names nothing is refused RANGE by the owner (R162) -/

/-- Lane: A 0, B 1. -/
def laneOfCode (o : Octet) : Option Lane := if o = 0 then some .A else if o = 1 then some .B else none

/-- PAIR lane choice: A 0, B 1, EITHER 2. -/
def choiceOfCode (o : Octet) : Option LaneChoice :=
  if o = 0 then some (.only .A) else if o = 1 then some (.only .B) else if o = 2 then some .either else none

/-- Role codes that ROLE may assign: SUPERVISOR (1) is not among them (R135). -/
def assignableRole (o : Octet) : Option Role :=
  if o = 0 then some .unassigned
  else if o = 2 then some .head
  else if o = 3 then some (.dispenser .A)
  else if o = 4 then some (.dispenser .B)
  else if o = 5 then some .indexer
  else if o = 6 then some .wafer
  else none

/-- Map bank number: 0 or 1 (R17). -/
def bankOfCode (o : Octet) : Option BankId := if o = 0 then some .b0 else if o = 1 then some .b1 else none

/-- The die-mark actions. -/
inductive MarkAction where
  | reject
  | readmit
  deriving DecidableEq, Repr

/-- Die-mark action: REJECT 1, READMIT 2. -/
def actionOfCode (o : Octet) : Option MarkAction :=
  if o = 1 then some .reject else if o = 2 then some .readmit else none

/-- The pick failure reasons. -/
inductive PickReason where
  | damaged
  | missing
  | tool
  deriving DecidableEq, Repr

/-- Pick failure reason: DAMAGED 1, MISSING 2, TOOL 3. -/
def reasonOfCode (o : Octet) : Option PickReason :=
  if o = 1 then some .damaged else if o = 2 then some .missing else if o = 3 then some .tool else none

/-- A port that REACH and ROLE may name: S1 to S7 (R79, R135). -/
def stationPort (o : Octet) : Option Port :=
  if h : o.toNat < 8 then (if o.toNat = 0 then none else some ⟨o.toNat, h⟩) else none

/-- A product code 0–7 (R22, R26). -/
def productCode (o : Octet) : Option ProductCode := if h : o.toNat < 8 then some ⟨o.toNat, h⟩ else none

/-- Reach window enabled: no 0, yes 1. -/
def enabledOfCode (o : Octet) : Option Bool := if o = 0 then some false else if o = 1 then some true else none

/-- The five fields of a reach window at an offset of a REACH body. -/
def windowAt (b : List Octet) (i : Nat) : Option Window :=
  (enabledOfCode (u8 b i)).map fun en =>
    { enabled := en, colLo := (u8 b (i + 1)).toNat, colHi := (u8 b (i + 2)).toNat, rowLo := (u8 b (i + 3)).toNat,
      rowHi := (u8 b (i + 4)).toNat }

/-- The fields of a PRODUCT body (Table 12-4). -/
def productOfBody (b : List Octet) : Product :=
  { siteCount := (u8 b 1).toNat, gradeSet := u16 b 2, openTime := (u32 b 4).toNat, marginMs := (u16 b 8).toNat,
    dotMin := (u16 b 10).toNat, dotMax := (u16 b 12).toNat, tolerance := (u16 b 14).toNat,
    pickLeaseMs := (u16 b 16).toNat, bondLeaseMs := (u16 b 18).toNat }

/-- R22, check 2: every field lies in its range (Table 2-1). -/
def Product.inRange (pr : Product) : Bool :=
  1 ≤ pr.siteCount && pr.siteCount ≤ 64 &&
  pr.gradeSet != 0 && !pr.gradeSet.getLsbD 0 && !pr.gradeSet.getLsbD 15 &&
  1 ≤ pr.openTime && pr.openTime ≤ 360000 &&
  pr.marginMs ≤ 60000 && pr.marginTicks < pr.openTicks &&
  1 ≤ pr.dotMin && pr.dotMin ≤ 65534 && 1 ≤ pr.dotMax && pr.dotMax ≤ 65534 && pr.dotMin ≤ pr.dotMax &&
  1 ≤ pr.tolerance && pr.tolerance ≤ 1000 &&
  100 ≤ pr.pickLeaseMs && pr.pickLeaseMs ≤ 60000 && 100 ≤ pr.bondLeaseMs && pr.bondLeaseMs ≤ 60000

/-- The grades of a MAP_ROWS body (Table 12-5). -/
def gradesOfBody (b : List Octet) : List Octet := b.drop 3

/-- The bad-site list of a STRIP_IN body (Table 12-5). -/
def badSitesOfBody (b : List Octet) : List Octet := b.drop 7

/-! ## Codes written into response bodies -/

/-- Status codes (Table 11-5). -/
def Status.code : Status → Octet
  | .ok => 0 | .noneHere => 1 | .role => 2 | .state => 3 | .paused => 4 | .format => 5 | .range => 6 | .busy => 7
  | .full => 8 | .limit => 9 | .traceFull => 10 | .unknown => 11 | .stale => 12 | .notOwner => 13 | .wrongWafer => 14
  | .noMap => 15 | .checkFail => 16 | .cleared => 17

def laneCode : Lane → Octet
  | .A => 0 | .B => 1

def laneSetCode (a b : Bool) : Octet := (if a then 1 else 0) + (if b then 2 else 0)

def bankCode : BankId → Octet
  | .b0 => 0 | .b1 => 1

def Role.code : Role → Octet
  | .unassigned => 0 | .supervisor => 1 | .head => 2 | .dispenser .A => 3 | .dispenser .B => 4 | .indexer => 5 | .wafer => 6

def LineState.code : LineState → Octet
  | .setup => 0 | .run => 1 | .paused => 2

def LineCause.code : LineCause → Octet
  | .start => 1 | .pause => 2 | .resume => 3 | .lineEnd => 4 | .clear => 5

def BankState.code : BankState → Octet
  | .empty => 0 | .loading => 1 | .staged => 2 | .active => 3 | .retiring => 4

def DieState.code : DieState → Octet
  | .absent => 0 | .reject => 1 | .available => 2 | .claimed => 3 | .picked => 4 | .placed => 5 | .lost => 6 | .failed => 7
  | .suspect => 8

def Site.code : Site → Octet
  | .empty => 0 | .dispensing => 1 | .wetted _ => 2 | .paired _ _ => 3 | .bonded _ => 4 | .late _ => 5 | .misplaced _ => 6
  | .spoiled _ => 7 | .badDot => 8 | .skipped => 9 | .suspect _ => 10

def Phase.code : Phase → Octet
  | .claimed => 1 | .picked _ => 2

def PairOutcome.code : PairOutcome → Octet
  | .bonded => 1 | .late => 2 | .misplaced => 3 | .pickFailed => 4 | .discarded => 5 | .revoked => 6 | .expired => 7
  | .cleared => 8 | .withdrawn => 9

def Cause.code : Cause → Octet
  | .noWafer => 1 | .noSite => 2 | .noDie => 3

def LossReason.code : LossReason → Octet
  | .discarded => 1 | .expired => 2 | .revoked => 3 | .cleared => 4

def DotEndReason.code : DotEndReason → Octet
  | .timeout => 1 | .stripGone => 2

/-- Source codes (Table 12-8). -/
def Source.code : Source → Octet
  | .lineStopped => 1 | .siteSpoiled => 2 | .traceLevel => 3 | .pairingEnded => 4 | .lineState => 5 | .dotRejected => 6
  | .dotEnded => 7 | .pulseOrphan => 8 | .stripSettled => 9 | .waferClear => 10 | .waferExhausted => 11

def gradeOct (g : Grade) : Octet := g.setWidth 8

def portOct (p : Port) : Octet := oct p.val

def boolOct (b : Bool) : Octet := if b then 1 else 0

/-! ## Layouts -/

/-- The detail of a notice in the layout of Table 12-8. -/
def Notice.detail : Notice → List Octet
  | .lineStopped p => [portOct p]
  | .siteSpoiled l id i n => laneCode l :: (be32 id ++ oct i :: nat16 n)
  | .traceLevel n => nat16 n
  | .pairingEnded n es => oct n :: oct es.length :: es.flatMap (fun e => [e.1, e.2.code])
  | .lineState c st => [c.code, st.code]
  | .dotRejected id i w => be32 id ++ oct i :: nat16 w
  | .dotEnded id i r => be32 id ++ [oct i, r.code]
  | .pulseOrphan n => [oct n]
  | .stripSettled a b => [laneSetCode a b]
  | .waferClear id => be32 id
  | .waferExhausted id => be32 id

/-- R164: the notice record of a NOTICE_TAKE answered OK. -/
def noticeRecord (n : Notice) (rank : RankIx) (stillOffered : Nat) : List Octet :=
  n.source.code :: oct (rank.val + 1) :: oct stillOffered :: oct n.detail.length :: n.detail

/-- The 42 octets of a trace record (Table 12-7). -/
def TraceRecord.octets (r : TraceRecord) : List Octet :=
  let head := match r.kind with
    | .bond late misplaced _ _ _ => [1, (if late then 1 else 0) + (if misplaced then 2 else 0), 0]
    | .loss reason => [2, 0, reason.code]
  let tail := match r.kind with
    | .bond _ _ age dx dy => be32 age ++ be16 dx ++ be16 dy
    | .loss _ => be32 0 ++ be16 0 ++ be16 0
  be32 r.seq ++ head ++ [portOct r.port, r.ticket, laneCode r.lane, oct r.site] ++ be32 r.stripId ++
    [gradeOct r.grade, oct r.col, oct r.row] ++ be32 r.waferId ++ be32 r.grantTime ++ be32 r.pickTime ++
    be32 r.endTime ++ tail

/-- The octets a port shifts out: status, body length, body (R155, R161). -/
def Response.octets (r : Response) : List Octet := r.status.code :: (nat16 r.body.length ++ r.body)

/-- The number of bits of a response (R155). -/
def Response.bitCount (r : Response) : Nat := 8 * (3 + r.body.length)

/-- The bit of a response that the n-th edge of ANSWERING shifts out, counting from 0; 0 past the end (R155). -/
def Response.bitAt (r : Response) (n : Nat) : Bool := (r.octets.flatMap octetBits).getD n false

/-- SDO: the bit that the latest rising edge of SCLK shifted out in ANSWERING, and low outside ANSWERING (Table 11-3).
Before the first edge of ANSWERING the manual names no bit, and none is given (log entry 12). -/
def State.sdo (s : State) (p : Port) : Option Bool :=
  match s.ports[p].link with
  | .answering _ _ 0 _ => none
  | .answering _ r (n + 1) _ => some (r.bitAt n)
  | _ => some false

/-! ## Permitted roles (Table 11-4) -/

/-- The role may send the kind. -/
def kindPermits : Kind → Role → Bool
  | .ident, _ | .clockRead, _ | .noticeTake, _ | .noticeEnd, _ | .noticeMask, _ => true
  | .pause, r => r != .unassigned
  | .role, r | .product, r | .lane, r | .reach, r | .start, r | .resume, r | .lineEnd, r | .clear, r | .lineStatus, r
  | .mapOpen, r | .mapRows, r | .mapClose, r | .mapAbort, r | .dieMark, r | .traceRead, r | .traceLevel, r =>
    r == .supervisor
  | .pair, r | .picked, r | .bonded, r | .pickFail, r | .discard, r => r == .head
  | .dot, r | .dotAbort, r => r == .dispenser .A || r == .dispenser .B
  | .stripIn, r | .stripOut, r => r == .indexer
  | .waferIn, r | .waferOut, r => r == .wafer

end Sys2Proof.Machine
end

