-- ==== Sys2Proof/Machine/Ops.lean ====
section
/-! DEFINITION. Ops.lean: the named operations over the blocks' state that several commands share: access to lanes, banks
and ports, raising a notice (R141), handing a response to a port (R154), a die change (R5), a site change (R28, R29,
R31), the retirement of a bank (R14), the settlement check (R33) and the TRACE_LEVEL condition (R125). -/

namespace Sys2Proof.Machine

open Sys2Proof

/-! ## Access -/

def PerLane.get {α : Type} (t : PerLane α) : Lane → α
  | .A => t.a
  | .B => t.b

def PerLane.set {α : Type} (t : PerLane α) (l : Lane) (x : α) : PerLane α :=
  match l with
  | .A => { t with a := x }
  | .B => { t with b := x }

def PerBank.get {α : Type} (t : PerBank α) : BankId → α
  | .b0 => t.b0
  | .b1 => t.b1

def PerBank.set {α : Type} (t : PerBank α) (b : BankId) (x : α) : PerBank α :=
  match b with
  | .b0 => { t with b0 := x }
  | .b1 => { t with b1 := x }

/-- A table of eight entries written out, so that the kernel can evaluate it. -/
def tabulate {α : Type} (f : Port → α) : Vector α 8 := #v[f 0, f 1, f 2, f 3, f 4, f 5, f 6, f 7]

def State.lane (s : State) (l : Lane) : LaneTable := s.lanes.get l
def State.setLane (s : State) (l : Lane) (x : LaneTable) : State := { s with lanes := s.lanes.set l x }
def State.gate (s : State) (l : Lane) : GateMonitor := s.gates.get l
def State.setGate (s : State) (l : Lane) (x : GateMonitor) : State := { s with gates := s.gates.set l x }
def State.bank (s : State) (b : BankId) : MapBank := s.banks.get b
def State.setBank (s : State) (b : BankId) (x : MapBank) : State := { s with banks := s.banks.set b x }
def State.role (s : State) (p : Port) : Role := s.roles[p].role
def State.link (s : State) (p : Port) : Link := s.ports[p].link
def State.setPort (s : State) (p : Port) (x : PortState) : State := { s with ports := s.ports.set p.val x p.isLt }
def State.setLink (s : State) (p : Port) (x : Link) : State := s.setPort p { s.ports[p] with link := x }
def State.notice (s : State) (p : Port) : NoticeState := s.notices[p]
def State.setNotice (s : State) (p : Port) (x : NoticeState) : State := { s with notices := s.notices.set p.val x p.isLt }

/-- The product entry of a code. An undefined entry reads as one that accepts no grade and has no open time: every read on
behalf of a queued strip finds a defined entry (R21), so no run reads it (log entry 11). -/
def State.product (s : State) (c : ProductCode) : Product :=
  match s.products[c] with
  | some pr => pr
  | none => { siteCount := 0, gradeSet := 0, openTime := 0, marginMs := 0, dotMin := 0, dotMax := 0, tolerance := 0,
              pickLeaseMs := 0, bondLeaseMs := 0 }

/-- The eight ports, in order. -/
def allPorts : List Port := [0, 1, 2, 3, 4, 5, 6, 7]

/-- The port that holds a role of which at most one port exists (R134). -/
def State.holder (s : State) (r : Role) : Option Port := allPorts.find? (fun p => s.role p == r)

/-! ## Notices -/

/-- R141: the source of rank `k` becomes pending with the detail the raising leaves. -/
def NoticeState.raise (n : NoticeState) (k : RankIx) (x : Notice) : NoticeState :=
  { n with pending := n.pending.set k.val (some (match n.pending[k] with | some old => old.merge x | none => x)) k.isLt }

/-- A raising at one port; without effect where the port's role does not own the source (R141). -/
def raiseAt (p : Port) (x : Notice) (s : State) : State :=
  match (s.role p).rankOf x.source with
  | none => s
  | some k => s.setNotice p ((s.notice p).raise k x)

/-- A raising to the port holding a role; without effect where no port holds it (R141). -/
def raiseTo (r : Role) (x : Notice) (s : State) : State :=
  match s.holder r with
  | none => s
  | some p => raiseAt p x s

/-- R131: LINE_STATE with the cause and the new line state, at every port of S1 to S7 whose role has the source, which is
every role but NONE. -/
def raiseLineState (c : LineCause) (s : State) : State :=
  [1, 2, 3, 4, 5, 6, 7].foldl (fun s p => raiseAt p (.lineState c s.line) s) s

/-- R125, R143: TRACE_LEVEL is made pending at S0, with the level as detail, exactly when its condition holds and it is not
in service. -/
def reevalTraceLevel (s : State) : State :=
  match (s.role 0).rankOf .traceLevel with
  | none => s
  | some k =>
    s.setNotice 0 { s.notice 0 with
      pending := (s.notice 0).pending.set k.val
        (if s.trace.atThreshold && !(s.notice 0).inService[k] then some (.traceLevel s.trace.records.length) else none)
        k.isLt }

/-! ## Responses -/

/-- An OK response. -/
def okResp (body : List Octet) : Response := { status := .ok, body := body }

/-- A response of a refusal or NONE that carries values. -/
def resp (st : Status) (body : List Octet) : Response := { status := st, body := body }

/-- R154: the owner hands a response to a port in HOLDING, which moves to ANSWERING with the grant mark. -/
def handOver (p : Port) (r : Response) (mark : Option GrantMark) (s : State) : State :=
  match s.link p with
  | .holding k => s.setLink p (.answering (some k) r 0 mark)
  | _ => s

/-- A response without a grant mark. -/
def reply (p : Port) (r : Response) (s : State) : State := handOver p r none s

/-! ## Map Store -/

/-- The die record at an index: a record that is not listed is blank. -/
def dieAt : List (Nat × DieRecord) → Nat → DieRecord
  | [], _ => .blank
  | (k, r) :: t, i => if i = k then r else dieAt t i

/-- Write a die record, keeping the table's canonical form. -/
def putDie : List (Nat × DieRecord) → Nat → DieRecord → List (Nat × DieRecord)
  | [], i, r => if r = .blank then [] else [(i, r)]
  | (k, x) :: t, i, r =>
    if i < k then (if r = .blank then (k, x) :: t else (i, r) :: (k, x) :: t)
    else if i = k then (if r = .blank then t else (i, r) :: t)
    else (k, x) :: putDie t i r

/-- The canonical form of a die table: indices strictly rising and no blank record listed. -/
abbrev dieTableWf (t : List (Nat × DieRecord)) : Prop :=
  t.Pairwise (fun a b => a.1 < b.1) ∧ ∀ e ∈ t, e.2 ≠ DieRecord.blank

/-- A bank that holds a checked map (R4, R17). -/
def MapBank.holdsMap (b : MapBank) : Bool := b.state == .staged || b.state == .active || b.state == .retiring

/-- The number of grid positions. -/
def MapBank.size (b : MapBank) : Nat := b.cols * b.rows

/-- The bank that is ACTIVE (R75). -/
def State.activeBank (s : State) : Option BankId :=
  if s.banks.b0.state = .active then some .b0 else if s.banks.b1.state = .active then some .b1 else none

/-- The bank that is LOADING (R7, R9, R10). -/
def State.loadingBank (s : State) : Option BankId :=
  if s.banks.b0.state = .loading then some .b0 else if s.banks.b1.state = .loading then some .b1 else none

/-- A count after a change of one item that was, or is now, counted. -/
def recount (n : Nat) (was now : Bool) : Nat := n + (if now then 1 else 0) - (if was then 1 else 0)

/-- The die is AVAILABLE. -/
def DieRecord.isAvailable (r : DieRecord) : Bool := r.state == .available

/-- R5: a bank with one die record changed and its AVAILABLE count kept. -/
def MapBank.withDie (b : MapBank) (i : Nat) (r : DieRecord) : MapBank :=
  { b with dies := putDie b.dies i r, available := recount b.available (dieAt b.dies i).isAvailable r.isAvailable }

/-- R5, R16: change a die record; WAFER_EXHAUSTED is raised where the change takes the ACTIVE bank's last AVAILABLE die. -/
def changeDie (b : BankId) (i : Nat) (r : DieRecord) (s : State) : State :=
  let bank := s.bank b
  let s' := s.setBank b (bank.withDie i r)
  if bank.state = .active && (dieAt bank.dies i).isAvailable && !r.isAvailable && (bank.withDie i r).available == 0 then
    raiseTo .wafer (.waferExhausted bank.waferId) s'
  else s'

/-- R14: a RETIRING bank with no pairing references becomes EMPTY, with WAFER_CLEAR. -/
def retireIfClear (b : BankId) (s : State) : State :=
  if (s.bank b).state = .retiring && (s.bank b).refs == 0 then
    (raiseTo .wafer (.waferClear (s.bank b).waferId) s).setBank b .blank
  else s

/-! ## Lane Tables -/

/-- Change the strip with an arrival number. -/
def updateStrip (arrival : BitVec 32) (f : Strip → Strip) : List Strip → List Strip
  | [] => []
  | st :: t => if st.arrival = arrival then f st :: t else st :: updateStrip arrival f t

/-- The strip of a lane with an arrival number. -/
def State.strip (s : State) (l : Lane) (arrival : BitVec 32) : Option Strip :=
  (s.lane l).strips.find? (fun st => st.arrival == arrival)

/-- A site record. -/
def State.site (s : State) (l : Lane) (arrival : BitVec 32) (i : Nat) : Option Site :=
  (s.strip l arrival).bind (fun st => st.sites[i]?)

/-- The product of the strip with an arrival number (log entry 11 for a strip that is not there). -/
def State.productOf (s : State) (l : Lane) (arrival : BitVec 32) : Product :=
  match s.strip l arrival with
  | some st => s.product st.product
  | none => { siteCount := 0, gradeSet := 0, openTime := 0, marginMs := 0, dotMin := 0, dotMax := 0, tolerance := 0,
              pickLeaseMs := 0, bondLeaseMs := 0 }

/-- R31: a strip with one site changed and its unsettled count kept. -/
def Strip.withSite (st : Strip) (i : Nat) (old new : Site) : Strip :=
  { st with sites := st.sites.set i new, unsettled := recount st.unsettled (!old.settled) (!new.settled) }

/-- R28, R29, R31: change a site record, keeping the lane's wet-ahead count and the strip's unsettled count. -/
def changeSite (l : Lane) (arrival : BitVec 32) (i : Nat) (new : Site) (s : State) : State :=
  match s.site l arrival i with
  | none => s
  | some old =>
    s.setLane l { s.lane l with
      strips := updateStrip arrival (fun st => st.withSite i old new) (s.lane l).strips
      wetAhead := recount (s.lane l).wetAhead old.countsWet new.countsWet }

/-- The oldest strip of the lane is present and settled (R34). -/
def State.oldestSettled (s : State) (l : Lane) : Bool :=
  match (s.lane l).strips with
  | [] => false
  | st :: _ => st.settled

/-- R34: STRIP_SETTLED with the set of lanes whose oldest strip is settled now. -/
def raiseStripSettled (s : State) : State :=
  raiseTo .indexer (.stripSettled (s.oldestSettled .A) (s.oldestSettled .B)) s

/-- R33: the settlement check of a strip: settled and oldest of its lane. -/
def settlementCheck (l : Lane) (arrival : BitVec 32) (s : State) : State :=
  match (s.lane l).strips with
  | [] => s
  | st :: _ => if st.arrival = arrival && st.settled then raiseStripSettled s else s

/-- R33: the settlement check on the lane's new oldest strip. -/
def settlementCheckOldest (l : Lane) (s : State) : State :=
  if s.oldestSettled l then raiseStripSettled s else s

/-! ## Gate Monitor -/

/-- R64: a bound pulse whose assignment ends becomes unbound. -/
def Measurement.unbind : Measurement → Measurement
  | .inProgress w _ => .inProgress w false
  | m => m

/-- A bound pulse is in progress (R67, R68). -/
def Measurement.isBound : Measurement → Bool
  | .inProgress _ b => b
  | _ => false

/-- The dispensing assignment ends (R55) and its pulse, if in progress, becomes unbound (R64). -/
def dropAssignment (l : Lane) (s : State) : State :=
  s.setGate l { s.gate l with assignment := none, measurement := (s.gate l).measurement.unbind }

/-- R63: a sample that finds the gate inactive sets the gate ready flag; which commands stand for samples is log entry 7. -/
def GateMonitor.sample (g : GateMonitor) : GateMonitor := if g.gateActive then g else { g with ready := true }

/-- The sites of a lane that are DISPENSING exist (R133). -/
def State.laneDispensing (s : State) (l : Lane) : Bool :=
  (s.lane l).strips.any (fun st => st.sites.any (fun x => x == .dispensing))

/-! ## Trace Queue -/

/-- R119: the record a pairing that ends now writes, with the next sequence number. -/
def recordFor (pr : Pairing) (kind : TraceKind) (pickTime : Reading) (s : State) : TraceRecord where
  seq := s.trace.nextSeq
  kind := kind
  port := pr.port
  ticket := pr.ticket
  lane := pr.lane
  stripId := pr.stripId
  site := pr.site
  waferId := pr.waferId
  col := pr.col
  row := pr.row
  grade := pr.grade
  grantTime := pr.grantTime
  pickTime := pickTime
  endTime := s.clock

/-- R120: a reservation ends. -/
def TraceQueue.release (t : TraceQueue) : TraceQueue := { t with reservations := t.reservations - 1 }

/-- R118: a record joins the newest end and the sequence number advances. -/
def TraceQueue.append (t : TraceQueue) (r : TraceRecord) : TraceQueue :=
  { t with records := t.records ++ [r], nextSeq := t.nextSeq + 1 }

/-- R94, step 4 (R119, R120): the reservation ends, and a pairing that ends in PICKED writes its record. -/
def closeTrace (pr : Pairing) (kind : Option TraceKind) (s : State) : State :=
  match kind, pr.phase with
  | some k, .picked pickTime =>
    reevalTraceLevel { s with trace := s.trace.release.append (recordFor pr k pickTime s) }
  | _, _ => { s with trace := s.trace.release }

end Sys2Proof.Machine
end

