-- ==== Sys2Proof/Machine/Dispense.lean ====
section
/-! DEFINITION. Dispense.lean: the examination of a lane for the site to dot (R57), the grant of a DOT (R58), the
re-examination of a held DOT (R60) and the hand-on of a site that settles (R30). -/

namespace Sys2Proof.Machine

open Sys2Proof

/-- R57: the first EMPTY site of the oldest strip that holds one. -/
def siteToDot : List Strip → Option (Strip × Nat)
  | [] => none
  | st :: t =>
    match st.sites.findIdx? (fun x => x == .empty) with
    | some i => some (st, i)
    | none => siteToDot t

/-- R57: the examination of a lane: the site to dot, where the lane can be served. -/
def examine (s : State) (l : Lane) : Option (Strip × Nat) :=
  if (s.lane l).wetAhead < (s.lane l).wetLimit then siteToDot (s.lane l).strips else none

/-- R58: the assignment a grant at the present reading creates. -/
def assignmentFor (s : State) (l : Lane) (st : Strip) (i : Nat) : Assignment :=
  { slot := st.slot, arrival := st.arrival, stripId := st.id, site := i,
    deadline := deadlineOf s.clock (ticksOfMs (s.lane l).dotDeadlineMs), deadlineRuns := true }

/-- The grant mark of an assignment (Table 11-2). -/
def Assignment.mark (a : Assignment) (l : Lane) : GrantMark := .dot l a.slot a.arrival a.stripId a.site a.deadline

/-- R58: the body of a DOT grant: lane, strip id, site index, dot window. -/
def dotGrantBody (s : State) (l : Lane) (st : Strip) (i : Nat) : List Octet :=
  laneCode l :: (be32 st.id ++ oct i :: (nat16 (s.product st.product).dotMin ++ nat16 (s.product st.product).dotMax))

/-- R58: grant the DOT of a port the site to dot. -/
def grantDot (l : Lane) (p : Port) (st : Strip) (i : Nat) (s : State) : State :=
  let a := assignmentFor s l st i
  let s' := changeSite l st.arrival i .dispensing s
  handOver p (okResp (dotGrantBody s l st i)) (some (a.mark l)) (s'.setGate l { s'.gate l with assignment := some a })

/-- R60: re-examine a lane for its held DOT; without effect where none is held. -/
def reexamine (l : Lane) (s : State) : State :=
  match (s.gate l).waiter with
  | none => s
  | some w =>
    match examine s l with
    | none => s
    | some (st, i) => grantDot l w.port st i (s.setGate l { s.gate l with waiter := none })

/-- R30, items 2 and 3: a site has changed into a settled state. -/
def handOnSettled (l : Lane) (arrival : BitVec 32) (s : State) : State := settlementCheck l arrival (reexamine l s)

/-- The dot waiter of a lane is answered and removed (R60, R61). -/
def answerWaiter (l : Lane) (r : Response) (s : State) : State :=
  match (s.gate l).waiter with
  | none => s
  | some w => reply w.port r (s.setGate l { s.gate l with waiter := none })

end Sys2Proof.Machine
end

