-- ==== Sys2Proof/WellFormed.lean ====
section
/-! DEFINITION. WellFormed.lean: which command terms name an event of the part. A request frame has a body of at most 512
octets (R151); UNKNOWN_KIND_FRAME carries a kind octet outside Table 11-4 (R153); FORMAT_AT_HEADER declares a body
length above 512 (R151). A well-formed frame may still be malformed for its kind: that is R153's FORMAT answer. -/

namespace Sys2Proof

/-- A body that a request frame can carry (R151). -/
def bodyFits (body : List Octet) : Bool := body.length ≤ Config.maxBody

/-- The command term names an event of the part. -/
def Instr.wellFormed : Instr → Bool
  | .ident _ body | .clockRead _ body | .noticeTake _ body | .noticeEnd _ body | .noticeMask _ body | .pause _ body
  | .role _ body | .product _ body | .lane _ body | .reach _ body | .start _ body | .resume _ body | .lineEnd _ body
  | .clear _ body | .lineStatus _ body | .mapOpen _ body | .mapRows _ body | .mapClose _ body | .mapAbort _ body
  | .dieMark _ body | .traceRead _ body | .traceLevel _ body | .pair _ body | .picked _ body | .bonded _ body
  | .pickFail _ body | .discard _ body | .dot _ body | .dotAbort _ body | .stripIn _ body | .stripOut _ body
  | .waferIn _ body | .waferOut _ body => bodyFits body
  | .unknownKindFrame _ kind body => (kindOfCode kind).isNone && bodyFits body
  | .formatAtHeader _ _ declared => Config.maxBody < declared.toNat
  | .selFall _ | .selRise _ | .frameIdleExpiry _ | .resetAssert | .resetRelease _ | .clockTick | .leaseExpiry _
  | .dotDeadlineExpiry _ | .pairWaitExpiry _ | .dotWaitExpiry _ | .measurementStart _ | .pulseInProgress _
  | .pulseSaturation _ | .gateFallingEdge _ _ | .sclkRisingEdge _ _ => true

end Sys2Proof
end

