-- ==== Sys2Proof/Machine/Frames.lean ====
section
/-! DEFINITION. Frames.lean: the completion of a request frame at a port (R151), the port's three checks (R153), and the
form every command takes: an event of a part that is not held in reset. -/

namespace Sys2Proof.Machine

open Sys2Proof

/-- The outcome of a step of this block. -/
abbrev Result := Host.Outcome State Fault Refusal

/-- R138: an event that the part takes unless the RESET pin holds it at its reset values. -/
def whenLive (f : State → State) (s : State) : Result := .next (if s.resetAsserted then s else f s)

/-- The port is in RECEIVING and what it has received begins this frame without completing it (R151). -/
def State.receives (s : State) (p : Port) (frame : List Octet) : Bool :=
  match s.link p with
  | .receiving octets bits _ => beginsFrame octets bits frame
  | _ => false

/-- R153: the port answers without reaching an owner (log entry 24). -/
def answerAtPort (p : Port) (r : Response) (s : State) : State := s.setLink p (.answering none r 0 none)

/-- R153: the FORMAT answer, with the kind octet as received. -/
def answerFormat (p : Port) (kind : Octet) (s : State) : State := answerAtPort p (resp .format [kind]) s

/-- R153: checks 2 and 3 of a completed frame of a known kind, and the hand-over to its owner. -/
def frameCheck (k : Kind) (p : Port) (body : List Octet) (serve : Port → List Octet → State → State) (s : State) : State :=
  if !lengthOk k body then answerFormat p k.code s
  else if !kindPermits k (s.role p) then answerAtPort p (resp .role [(s.role p).code]) s
  else serve p body (s.setLink p (.holding k))

/-- A request command: a frame of the kind completes on the port. Where the port is not receiving that frame no frame
completes, and nothing happens (log entry 4). -/
def request (k : Kind) (serve : Port → List Octet → State → State) (p : Port) (body : List Octet) (s : State) : Result :=
  if !bodyFits body then .refused .notAnEvent
  else whenLive (fun s => if s.receives p (frameOctets k.code body) then frameCheck k p body serve s else s) s

end Sys2Proof.Machine
end

