-- ==== Sys2Proof/Machine/DotCmds.lean ====
section
/-! DEFINITION. DotCmds.lean: DOT (R56 to R59) and DOT_ABORT (R68). -/

namespace Sys2Proof.Machine

open Sys2Proof

/-- The lane of a dispenser role (R56). -/
def Role.lane : Role → Option Lane
  | .dispenser l => some l
  | _ => none

/-- The strip id and site index of an assignment, as BUSY and DOT_ABORT answers carry them (R56, R68). -/
def Assignment.body (a : Assignment) : List Octet := be32 a.stripId ++ [oct a.site]

/-- R59: the DOT is held as the lane's dot waiter. -/
def holdDot (l : Lane) (p : Port) (waitMs : Nat) (s : State) : State :=
  s.setGate l { s.gate l with waiter := some { port := p, start := s.clock, length := waitTicks waitMs } }

/-- R57 to R59: the lane is examined, and the DOT is granted, answered NONE or held. -/
def tryDot (l : Lane) (p : Port) (waitMs : Nat) (s : State) : State :=
  match examine s l with
  | some (st, i) => grantDot l p st i s
  | none => if waitMs = 0 then reply p (resp .noneHere []) s else holdDot l p waitMs s

/-- R56: the checks of DOT in order, for the lane of the sending port's role; STATE lists no value (log entry 20). -/
def serveDot (p : Port) (body : List Octet) (s : State) : State :=
  match (s.role p).lane with
  | none => s
  | some l =>
    if s.line = .setup then reply p (resp .state []) s
    else if s.line = .paused then reply p (resp .paused []) s
    else
      match (s.gate l).assignment with
      | some a => reply p (resp .busy a.body) s
      | none => tryDot l p (u16 body 0).toNat s

/-- DOT. -/
def execDot (p : Port) (body : List Octet) (s : State) : Result := request .dot serveDot p body s

/-- The site of an assignment returns to EMPTY and the assignment ends (R62, R67, R68). -/
def takeBackSite (l : Lane) (a : Assignment) (s : State) : State :=
  dropAssignment l (changeSite l a.arrival a.site .empty s)

/-- R68: the dispenser gives its site back unless a bound pulse is in progress. -/
def serveDotAbort (p : Port) (_body : List Octet) (s : State) : State :=
  match (s.role p).lane with
  | none => s
  | some l =>
    match (s.gate l).assignment with
    | none => reply p (resp .noneHere []) s
    | some a =>
      if (s.gate l).measurement.isBound then reply p (resp .busy a.body) s
      else reply p (okResp a.body) (takeBackSite l a s)

/-- DOT_ABORT. -/
def execDotAbort (p : Port) (body : List Octet) (s : State) : Result := request .dotAbort serveDotAbort p body s

/-- R62: the withdrawal of a DOT grant: the assignment that the mark names is taken back; any other stands. -/
def withdrawDot (m : GrantMark) (s : State) : State :=
  match m with
  | .pair _ _ _ => s
  | .dot l _ _ _ _ _ =>
    match (s.gate l).assignment with
    | none => s
    | some a => if a.mark l = m then takeBackSite l a s else s

end Sys2Proof.Machine
end

