-- ==== Sys2Proof/Machine/Selection.lean ====
section
/-! DEFINITION. Selection.lean: one pairing selection (Chapter 5): candidate sites and their order, reach, the die search
and travel cost, the starting corner. A selection changes no state (R72). -/

namespace Sys2Proof.Machine

open Sys2Proof

/-- A candidate site with its age at the selection's reading (R76). -/
structure Candidate where
  lane : Lane
  arrival : BitVec 32
  stripId : Tag
  product : ProductCode
  site : Nat
  age : Nat
  deriving DecidableEq, Repr

/-- R76, conditions 2 and 3: the WETTED and eligible sites of a strip, lowest index first. -/
def stripCandidates (s : State) (l : Lane) (st : Strip) : List Candidate :=
  st.sites.zipIdx.filterMap fun e =>
    match e.1 with
    | .wetted w =>
      if eligibleAge (s.product st.product) (elapsed w s.clock) then
        some { lane := l, arrival := st.arrival, stripId := st.id, product := st.product, site := e.2,
               age := elapsed w s.clock }
      else none
    | _ => none

/-- The candidates of one lane in arrival order and site order. -/
def laneCandidates (s : State) (l : Lane) : List Candidate := (s.lane l).strips.flatMap (stripCandidates s l)

/-- The lane choice names the lane (R76). -/
def LaneChoice.names : LaneChoice → Lane → Bool
  | .only k, l => k == l
  | .either, _ => true

/-- The reach lane mask names the lane (R76). -/
def Reach.names (r : Reach) : Lane → Bool
  | .A => r.laneA
  | .B => r.laneB

/-- R76, condition 1: the lane is allowed. -/
def laneAllowed (s : State) (p : Port) (c : LaneChoice) (l : Lane) : Bool := c.names l && s.reach[p].names l

/-- R76: the candidate sites, in the order of R77's keys after age: lane, arrival order, site index. -/
def candidates (s : State) (p : Port) (c : LaneChoice) : List Candidate :=
  (if laneAllowed s p c .A then laneCandidates s .A else []) ++
    (if laneAllowed s p c .B then laneCandidates s .B else [])

/-- Place a candidate behind every candidate at least as old. -/
def insertByAge (c : Candidate) : List Candidate → List Candidate
  | [] => [c]
  | d :: t => if d.age < c.age then c :: d :: t else d :: insertByAge c t

/-- R77: site order, oldest first, equal ages in the order they are listed. -/
def siteOrder (cs : List Candidate) : List Candidate := cs.foldl (fun acc c => insertByAge c acc) []

/-- R80: a die position lies in a window clipped to the map. -/
def Window.holds (w : Window) (b : MapBank) (q : Pos) : Bool :=
  w.enabled && w.colLo ≤ q.col && q.col ≤ min w.colHi (b.cols - 1) && w.rowLo ≤ q.row && q.row ≤ min w.rowHi (b.rows - 1)

/-- R80: a die position lies in the reach. -/
def Reach.holds (r : Reach) (b : MapBank) (q : Pos) : Bool := r.w1.holds b q || r.w2.holds b q

/-- The distance of two column or row numbers. -/
def gap (a b : Nat) : Nat := (a - b) + (b - a)

/-- R82: the travel cost in µm from the last-pick position. -/
def travelCost (b : MapBank) (start q : Pos) : Nat :=
  max (gap q.col start.col * b.colPitch) (gap q.row start.row * b.rowPitch)

/-- The grid position of a die index (Introduction, "Die coordinates and indices"). -/
def MapBank.posOf (b : MapBank) (i : Nat) : Pos := { col := i % b.cols, row := i / b.cols }

/-- The die index of a grid position. -/
def MapBank.indexOf (b : MapBank) (q : Pos) : Nat := q.row * b.cols + q.col

/-- R81: the die is AVAILABLE, of an accepted grade and within reach. -/
def matchingDie (b : MapBank) (r : Reach) (gradeSet : BitVec 16) (e : Nat × DieRecord) : Bool :=
  e.2.isAvailable && gradeSet.getLsbD e.2.grade.toNat && r.holds b (b.posOf e.1)

/-- R82: the better of the die chosen so far and the next in index order; an equal cost keeps the lower index. -/
def betterDie (b : MapBank) (start : Pos) (best : Option (Nat × DieRecord)) (e : Nat × DieRecord) :
    Option (Nat × DieRecord) :=
  match best with
  | none => some e
  | some d => if travelCost b start (b.posOf e.1) < travelCost b start (b.posOf d.1) then some e else some d

/-- R81, R82: the die search for one site. -/
def dieSearch (b : MapBank) (r : Reach) (start : Pos) (gradeSet : BitVec 16) : Option (Nat × DieRecord) :=
  (b.dies.filter (matchingDie b r gradeSet)).foldl (betterDie b start) none

/-- What a found selection names (R72). -/
structure Found where
  bank : BankId
  cand : Candidate
  die : Nat
  record : DieRecord
  deriving DecidableEq, Repr

/-- The result of a selection (R72, R83). -/
inductive Selection where
  | found (f : Found)
  | failed (c : Cause)
  deriving DecidableEq, Repr

/-- R83: the first site in order whose die search finds a die. -/
def firstServed (s : State) (p : Port) (bk : BankId) : List Candidate → Option Found
  | [] => none
  | c :: t =>
    match dieSearch (s.bank bk) s.reach[p] s.lastPick[p] (s.product c.product).gradeSet with
    | some d => some { bank := bk, cand := c, die := d.1, record := d.2 }
    | none => firstServed s p bk t

/-- R83: one selection for the PAIR of a head port. -/
def select (s : State) (p : Port) (c : LaneChoice) : Selection :=
  match s.activeBank with
  | none => .failed .noWafer
  | some bk =>
    match siteOrder (candidates s p c) with
    | [] => .failed .noSite
    | order =>
      match firstServed s p bk order with
      | some f => .found f
      | none => .failed .noDie

/-- R85: the starting corner of a reach record, clipped to the ACTIVE bank where there is one. -/
def startingCorner (r : Reach) (active : Option MapBank) : Pos :=
  let corner : Pos :=
    if r.w1.enabled then ⟨r.w1.colLo, r.w1.rowLo⟩ else if r.w2.enabled then ⟨r.w2.colLo, r.w2.rowLo⟩ else ⟨0, 0⟩
  match active with
  | some b => { col := min corner.col (b.cols - 1), row := min corner.row (b.rows - 1) }
  | none => corner

/-- R84: every last-pick position is set to its starting corner. -/
def resetLastPicks (s : State) : State :=
  { s with lastPick := tabulate (fun p => startingCorner s.reach[p] (s.activeBank.map s.bank)) }

end Sys2Proof.Machine
end

