-- ==== Sys2Proof/Machine/Arbiter.lean ====
section
/-! DEFINITION. Arbiter.lean: ticket issue (R90), the grant of a pairing (R92), the wait list (R106) and the arbiter pass
(R108). -/

namespace Sys2Proof.Machine

open Sys2Proof

/-- The ticket is held by a pairing in flight or by the ended-ticket ring (R90). -/
def State.ticketHeld (s : State) (t : Ticket) : Bool :=
  s.pairings.any (fun pr => pr.ticket == t) || s.ring.any (fun e => e.ticket == t)

/-- R90: the next ticket, counting up from the last issued one through 1–255. -/
def nextTicket (s : State) : Option Ticket :=
  ((List.range 255).map (fun k => BitVec.ofNat 8 ((s.lastTicket.toNat + k) % 255 + 1))).find? (fun t => !s.ticketHeld t)

/-- The pairing record a grant enters (R92, step 5). -/
def pairingFor (s : State) (p : Port) (f : Found) (t : Ticket) : Pairing :=
  let b := s.bank f.bank
  { ticket := t, port := p, phase := .claimed, bank := f.bank, waferId := b.waferId, col := (b.posOf f.die).col,
    row := (b.posOf f.die).row, grade := f.record.grade, lane := f.cand.lane, arrival := f.cand.arrival,
    stripId := f.cand.stripId, site := f.cand.site, grantTime := s.clock, leaseStart := s.clock,
    leaseLength := ticksOfMs (s.product f.cand.product).pickLeaseMs }

/-- The body of a PAIR grant (Table 12-6). -/
def pairGrantBody (s : State) (pr : Pairing) (f : Found) : List Octet :=
  pr.ticket :: (be32 pr.waferId ++ [oct pr.col, oct pr.row, gradeOct pr.grade, laneCode pr.lane] ++ be32 pr.stripId ++
    be32 pr.arrival ++ oct pr.site :: (be32 (deadlineOf pr.leaseStart pr.leaseLength) ++
    be32 (BitVec.ofNat 32 (remainingOpen (s.product f.cand.product).openTicks f.cand.age))))

/-- R92, step 2: claim the die and count the pairing reference. -/
def claimDie (f : Found) (s : State) : State :=
  let s' := changeDie f.bank f.die { f.record with state := .claimed } s
  s'.setBank f.bank { s'.bank f.bank with refs := (s'.bank f.bank).refs + 1 }

/-- R92, step 3: pair the site, which keeps its wet time. -/
def pairSite (f : Found) (t : Ticket) (s : State) : State :=
  match s.site f.cand.lane f.cand.arrival f.cand.site with
  | some (.wetted w) => changeSite f.cand.lane f.cand.arrival f.cand.site (.paired w t) s
  | _ => s

/-- The entry of a port leaves the wait list. -/
def removeEntry (p : Port) (s : State) : State := { s with waitList := s.waitList.filter (fun e => e.port != p) }

/-- R92: the grant of a found selection under an issued ticket, steps 1 to 6 in order. -/
def grantPair (p : Port) (f : Found) (t : Ticket) (s : State) : State :=
  let pr := pairingFor s p f t
  let body := pairGrantBody s pr f
  let s1 := { s with lastTicket := t }
  let s2 := pairSite f t (claimDie f s1)
  let s3 := { s2 with trace := { s2.trace with reservations := s2.trace.reservations + 1 }
                      pairings := s2.pairings ++ [pr] }
  handOver p (okResp body) (some (.pair t p pr.grantTime)) (removeEntry p s3)

/-- R106: the obstacle of a port's entry is replaced. -/
def setObstacle (p : Port) (o : Obstacle) (s : State) : State :=
  { s with waitList := s.waitList.map (fun e => if e.port = p then { e with obstacle := some o } else e) }

/-- R108: one entry of the walk: trace check, selection, grant or obstacle. R90 shows that a ticket is always free; where a
state no run reaches has none, no grant is made (log entry 11). -/
def tryEntry (e : WaitEntry) (s : State) : State :=
  if !s.trace.canReserve then setObstacle e.port (.trace s.trace.records.length s.trace.reservations) s
  else
    match select s e.port e.choice with
    | .failed c => setObstacle e.port (.selection c) s
    | .found f =>
      match nextTicket s with
      | some t => grantPair e.port f t s
      | none => s

/-- R108: try each entry of a walk in turn. -/
def walk : List WaitEntry → State → State
  | [], s => s
  | e :: t, s => walk t (tryEntry e s)

/-- R108: one arbiter pass, in list order. -/
def arbiterPass (s : State) : State := walk s.waitList s

/-- R109: each signal makes a pass of its own. -/
def arbiterPasses : Nat → State → State
  | 0, s => s
  | n + 1, s => arbiterPasses n (arbiterPass s)

/-- R106: place an entry behind every entry of its level or a higher one. -/
def insertEntry (e : WaitEntry) : List WaitEntry → List WaitEntry
  | [] => [e]
  | d :: t => if d.level < e.level then e :: d :: t else d :: insertEntry e t

/-- R111, R112: the answer of a request that leaves the list with its obstacle (log entry 23). -/
def obstacleResp : Option Obstacle → Response
  | some (.trace queued inFlight) => resp .traceFull (nat16 queued ++ [oct inFlight])
  | some (.selection c) => resp .noneHere [c.code]
  | none => resp .noneHere []

/-- The entry of a port. -/
def State.entry (s : State) (p : Port) : Option WaitEntry := s.waitList.find? (fun e => e.port == p)

/-- R111, R112: a port's entry leaves the list and is answered with its obstacle. -/
def answerEntry (p : Port) (s : State) : State :=
  match s.entry p with
  | none => s
  | some e => reply p (obstacleResp e.obstacle) (removeEntry p s)

/-- R114, R115: every entry is answered in list order and the list is emptied. -/
def answerAllEntries (st : Status) (s : State) : State :=
  { s.waitList.foldl (fun s e => reply e.port (resp st []) s) s with waitList := [] }

end Sys2Proof.Machine
end

