-- ==== Sys2Proof/Machine/Pairings.lean ====
section
/-! DEFINITION. Pairings.lean: the common end of a pairing (R94) with the ends that several commands share: withdrawal
(R93), lease expiry (R101), revocation (R102) and the line clear (R103). -/

namespace Sys2Proof.Machine

open Sys2Proof

/-- What the cause of an end supplies to the common end (R94). -/
structure PairEnd where
  outcome : PairOutcome
  /-- The die record after the change of Table 1-6. -/
  die : DieRecord
  /-- The site record after the change of Table 2-6; none where the site leaves with its strip. -/
  site : Option Site
  record : Option TraceKind
  /-- PAIRING_ENDED is raised (Table 6-3). -/
  announce : Bool
  deriving DecidableEq, Repr

/-- The index of the pairing's die in its bank. -/
def Pairing.dieIndex (pr : Pairing) (s : State) : Nat := (s.bank pr.bank).indexOf ⟨pr.col, pr.row⟩

/-- The record of the pairing's die. -/
def Pairing.dieRecord (pr : Pairing) (s : State) : DieRecord := dieAt (s.bank pr.bank).dies (pr.dieIndex s)

/-- The wet time of the pairing's site; a pairing in flight has a PAIRED site (R28), so the other case is not reached (log
entry 11). -/
def Pairing.wetTime (pr : Pairing) (s : State) : Reading :=
  match s.site pr.lane pr.arrival pr.site with
  | some x => x.wetTime.getD 0
  | none => 0

/-- The product of the pairing's strip. -/
def Pairing.product (pr : Pairing) (s : State) : Product := s.productOf pr.lane pr.arrival

/-- R94, step 2: the die change, and the bank's pairing references fall by 1. -/
def releaseDie (pr : Pairing) (r : DieRecord) (s : State) : State :=
  let s' := changeDie pr.bank (pr.dieIndex s) r s
  s'.setBank pr.bank { s'.bank pr.bank with refs := (s'.bank pr.bank).refs - 1 }

/-- R94, step 3: the site change, handed on where it settles the site. -/
def releaseSite (pr : Pairing) (x : Option Site) (s : State) : State :=
  match x with
  | none => s
  | some x =>
    let s' := changeSite pr.lane pr.arrival pr.site x s
    if x.settled then handOnSettled pr.lane pr.arrival s' else s'

/-- R91: append an entry, dropping the oldest of a full ring. -/
def ringAppend (e : RingEntry) (ring : List RingEntry) : List RingEntry :=
  (if ring.length < Config.ringSize then ring else ring.drop 1) ++ [e]

/-- R94, step 5: the pairing record leaves the table and its ticket enters the ring. -/
def retireTicket (pr : Pairing) (o : PairOutcome) (s : State) : State :=
  { s with pairings := s.pairings.eraseP (fun q => q.ticket == pr.ticket)
           ring := ringAppend { ticket := pr.ticket, port := pr.port, outcome := o } s.ring }

/-- R94, steps 1 to 7: the common end of a pairing. -/
def endPairing (pr : Pairing) (e : PairEnd) (s : State) : State :=
  let s := releaseDie pr e.die s
  let s := releaseSite pr e.site s
  let s := closeTrace pr e.record s
  let s := retireTicket pr e.outcome s
  let s := retireIfClear pr.bank s
  if e.announce then raiseAt pr.port (.pairingEnded 1 [(pr.ticket, e.outcome)]) s else s

/-- R94, step 8 (log entry 22): the passes an end asks for: its own, one for a die of the ACTIVE bank that becomes AVAILABLE (R5), one for
a site that becomes WETTED (R30). -/
def endSignals (pr : Pairing) (e : PairEnd) (s : State) : Nat :=
  1 + (if e.die.isAvailable && (s.bank pr.bank).state == .active then 1 else 0) +
    (match e.site with | some (.wetted _) => 1 | _ => 0)

/-- R94, steps 1 to 8. -/
def endAndPass (pr : Pairing) (e : PairEnd) (s : State) : State := arbiterPasses (endSignals pr e s) (endPairing pr e s)

/-- The die record with its state changed (R3: the grade is kept). -/
def DieRecord.to (r : DieRecord) (st : DieState) : DieRecord := { r with state := st }

/-- R93: the end of a withdrawn grant. -/
def withdrawalEnd (pr : Pairing) (s : State) : PairEnd :=
  { outcome := .withdrawn, die := (pr.dieRecord s).to .available, site := some (.wetted (pr.wetTime s)), record := none,
    announce := false }

/-- R101: the end of an expired lease, by phase. -/
def expiryEnd (pr : Pairing) (s : State) : PairEnd :=
  match pr.phase with
  | .claimed =>
    { outcome := .expired, die := (pr.dieRecord s).to .suspect, site := some (.wetted (pr.wetTime s)), record := none,
      announce := true }
  | .picked _ =>
    { outcome := .expired, die := (pr.dieRecord s).to .lost, site := some (.suspect (pr.wetTime s)),
      record := some (.loss .expired), announce := true }

/-- R102: the end of a revoked pairing, by phase. -/
def revocationEnd (pr : Pairing) (s : State) : PairEnd :=
  match pr.phase with
  | .claimed =>
    { outcome := .revoked, die := (pr.dieRecord s).to .available, site := none, record := none, announce := true }
  | .picked _ =>
    { outcome := .revoked, die := (pr.dieRecord s).to .lost, site := none, record := some (.loss .revoked),
      announce := true }

/-- R103: the end of a pairing at the line clear, by phase. -/
def clearEnd (pr : Pairing) (s : State) : PairEnd :=
  match pr.phase with
  | .claimed =>
    { outcome := .cleared, die := (pr.dieRecord s).to .suspect, site := none, record := none, announce := false }
  | .picked _ =>
    { outcome := .cleared, die := (pr.dieRecord s).to .lost, site := none, record := some (.loss .cleared),
      announce := false }

/-- The pairing in flight that holds a ticket. -/
def State.pairing (s : State) (t : Ticket) : Option Pairing := s.pairings.find? (fun pr => pr.ticket == t)

/-- R93: the pairing that a grant mark names and that is still the one it granted, in CLAIMED. -/
def markedPairing (s : State) (t : Ticket) (p : Port) (grantTime : Reading) : Option Pairing :=
  (s.pairing t).bind fun pr =>
    if pr.port = p && pr.grantTime == grantTime && pr.phase == .claimed then some pr else none

/-- R93: the withdrawal of a PAIR grant; without effect where its pairing has ended. -/
def withdrawPair (t : Ticket) (p : Port) (grantTime : Reading) (s : State) : State :=
  match markedPairing s t p grantTime with
  | some pr => endAndPass pr (withdrawalEnd pr s) s
  | none => s

/-- R103: end the pairings of a list, oldest ticket first. -/
def clearPairings : List Pairing → State → State
  | [], s => s
  | pr :: t, s => clearPairings t (endPairing pr (clearEnd pr s) s)

end Sys2Proof.Machine
end

