-- ==== Sys2Proof/Machine/HeadCmds.lean ====
section
/-! DEFINITION. HeadCmds.lean: PAIR (R73, R107, R111) and the head reports (R95 to R100). -/

namespace Sys2Proof.Machine

open Sys2Proof

/-- R73, check 1 (R24): the lane choice on this part. -/
def State.choiceOf (s : State) (o : Octet) : Option LaneChoice :=
  match choiceOfCode o with
  | some (.only .B) => if s.dualLane then some (.only .B) else none
  | x => x

/-- The pairings in flight of a head port (R73, check 3). -/
def State.pairingsOf (s : State) (p : Port) : Nat := (s.pairings.filter (fun pr => pr.port == p)).length

/-- R107: the entry a PAIR places on the wait list. -/
def entryFor (s : State) (p : Port) (c : LaneChoice) (waitMs : Nat) : WaitEntry :=
  { port := p, level := s.roles[p].level, choice := c, start := s.clock, length := waitTicks waitMs, obstacle := none }

/-- R107, R111: the entry is placed, a pass is made, and a wait of 0 is answered with its obstacle. -/
def placePair (e : WaitEntry) (s : State) : State :=
  let s := arbiterPass { s with waitList := insertEntry e s.waitList }
  if e.length = 0 then answerEntry e.port s else s

/-- R73: the checks of PAIR in order; STATE lists no value (log entry 20). -/
def servePair (p : Port) (body : List Octet) (s : State) : State :=
  match s.choiceOf (u8 body 0) with
  | none => reply p (resp .range []) s
  | some c =>
    if s.line = .setup then reply p (resp .state []) s
    else if s.line = .paused then reply p (resp .paused []) s
    else if Config.maxPairingsPerHead ≤ s.pairingsOf p then reply p (resp .limit []) s
    else placePair (entryFor s p c (u16 body 1).toNat) s

/-- PAIR. -/
def execPair (p : Port) (body : List Octet) (s : State) : Result := request .pair servePair p body s

/-- What the ticket check of a head report finds (R95). -/
inductive TicketCheck where
  | mine (pr : Pairing)
  | notOwner
  | stale (o : PairOutcome)
  | unknown
  deriving DecidableEq, Repr

/-- The ring's entry for a ticket. -/
def State.ended (s : State) (t : Ticket) : Option RingEntry := s.ring.find? (fun e => e.ticket == t)

/-- R95: the ticket check of a head report. -/
def checkTicket (s : State) (p : Port) (t : Ticket) : TicketCheck :=
  match s.pairing t with
  | some pr => if pr.port = p then .mine pr else .notOwner
  | none =>
    match s.ended t with
    | some e => if e.port = p then .stale e.outcome else .notOwner
    | none => .unknown

/-- R95: a report proceeds with its pairing or is answered by the ticket check. -/
def withTicket (p : Port) (t : Ticket) (f : Pairing → State → State) (s : State) : State :=
  match checkTicket s p t with
  | .mine pr => f pr s
  | .notOwner => reply p (resp .notOwner []) s
  | .stale o => reply p (resp .stale [o.code]) s
  | .unknown => reply p (resp .unknown []) s

/-- R95: the refusal for phase (Table 6-4). -/
def refusePhase (p : Port) (pr : Pairing) (s : State) : State := reply p (resp .busy [pr.phase.code]) s

/-- R96: the pairing record in PICKED, its bond lease running from the present reading. -/
def pickedPairing (pr : Pairing) (s : State) : Pairing :=
  { pr with phase := .picked s.clock, leaseStart := s.clock, leaseLength := ticksOfMs (pr.product s).bondLeaseMs }

/-- R96: the lease deadline and the remaining open time. -/
def pickedBody (pr : Pairing) (s : State) : List Octet :=
  be32 (deadlineOf s.clock (ticksOfMs (pr.product s).bondLeaseMs)) ++
    be32 (BitVec.ofNat 32 (remainingOpen (pr.product s).openTicks (elapsed (pr.wetTime s) s.clock)))

/-- R96: the effects of a PICKED report taken in CLAIMED. -/
def takePick (pr : Pairing) (s : State) : State :=
  let s' := changeDie pr.bank (pr.dieIndex s) ((pr.dieRecord s).to .picked) s
  { s' with pairings := s'.pairings.map (fun q => if q.ticket = pr.ticket then pickedPairing pr s else q)
            lastPick := s'.lastPick.set pr.port.val ⟨pr.col, pr.row⟩ pr.port.isLt }

/-- R96. -/
def servePicked (p : Port) (body : List Octet) (s : State) : State :=
  withTicket p (u8 body 0) (fun pr s =>
    match pr.phase with
    | .claimed => reply p (okResp (pickedBody pr s)) (takePick pr s)
    | .picked _ => refusePhase p pr s) s

/-- PICKED. -/
def execPicked (p : Port) (body : List Octet) (s : State) : Result := request .picked servePicked p body s

/-- The age at bond at the present reading (R97). -/
def ageNow (pr : Pairing) (s : State) : Reading := s.clock - pr.wetTime s

/-- R97: the age at bond is T or more. -/
def bondLate (pr : Pairing) (s : State) : Bool := (pr.product s).openTicks ≤ (ageNow pr s).toNat

/-- R97: the magnitude of dx or dy exceeds the tolerance. -/
def bondMisplaced (pr : Pairing) (dx dy : Half) (s : State) : Bool :=
  (pr.product s).tolerance < dx.toInt.natAbs || (pr.product s).tolerance < dy.toInt.natAbs

/-- R98: the bond fields of the site. -/
def bondFields (pr : Pairing) (s : State) : BondFields :=
  { wetTime := pr.wetTime s, bondTime := s.clock, ageAtBond := ageNow pr s, waferId := pr.waferId, col := pr.col,
    row := pr.row, grade := pr.grade, headPort := pr.port }

/-- R97: the site's new state. -/
def bondSite (pr : Pairing) (dx dy : Half) (s : State) : Site :=
  if bondLate pr s then .late (bondFields pr s)
  else if bondMisplaced pr dx dy s then .misplaced (bondFields pr s)
  else .bonded (bondFields pr s)

/-- R97: the ring outcome follows the site state. -/
def bondOutcome (pr : Pairing) (dx dy : Half) (s : State) : PairOutcome :=
  if bondLate pr s then .late else if bondMisplaced pr dx dy s then .misplaced else .bonded

/-- R98: the end of a BONDED report. -/
def bondEnd (pr : Pairing) (dx dy : Half) (s : State) : PairEnd :=
  { outcome := bondOutcome pr dx dy s, die := (pr.dieRecord s).to .placed, site := some (bondSite pr dx dy s),
    record := some (.bond (bondLate pr s) (bondMisplaced pr dx dy s) (ageNow pr s) dx dy), announce := false }

/-- R98: ticket, age at bond, the site's new state. -/
def bondedBody (pr : Pairing) (dx dy : Half) (s : State) : List Octet :=
  pr.ticket :: (be32 (ageNow pr s) ++ [(bondSite pr dx dy s).code])

/-- R97, R98. -/
def serveBonded (p : Port) (body : List Octet) (s : State) : State :=
  withTicket p (u8 body 0) (fun pr s =>
    match pr.phase with
    | .claimed => refusePhase p pr s
    | .picked _ =>
      reply p (okResp (bondedBody pr (u16 body 1) (u16 body 3) s)) (endAndPass pr (bondEnd pr (u16 body 1) (u16 body 3) s) s)) s

/-- BONDED. -/
def execBonded (p : Port) (body : List Octet) (s : State) : Result := request .bonded serveBonded p body s

/-- R99: the die record a pick failure leaves. -/
def failedDie (reason : PickReason) (r : DieRecord) : DieRecord :=
  match reason with
  | .damaged => r.to .failed
  | .missing => r.to .absent
  | .tool => if r.retry < 2 then { r with state := .available, retry := r.retry + 1 } else r.to .suspect

/-- R99: the end of a PICK_FAIL report. -/
def failEnd (pr : Pairing) (reason : PickReason) (s : State) : PairEnd :=
  { outcome := .pickFailed, die := failedDie reason (pr.dieRecord s), site := some (.wetted (pr.wetTime s)), record := none,
    announce := false }

/-- R99: the reason is checked, then the phase. The answer carries the state that the report gives the die; that it does so where a
pass of the same end claims the die again is the model's choice (log entry 29). -/
def servePickFail (p : Port) (body : List Octet) (s : State) : State :=
  withTicket p (u8 body 0) (fun pr s =>
    match reasonOfCode (u8 body 1), pr.phase with
    | none, _ => reply p (resp .range []) s
    | some _, .picked _ => refusePhase p pr s
    | some reason, .claimed =>
      let r := failedDie reason (pr.dieRecord s)
      reply p (okResp [r.state.code, oct r.retry]) (endAndPass pr (failEnd pr reason s) s)) s

/-- PICK_FAIL. -/
def execPickFail (p : Port) (body : List Octet) (s : State) : Result := request .pickFail servePickFail p body s

/-- R100: the end of a DISCARD report. -/
def discardEnd (pr : Pairing) (s : State) : PairEnd :=
  { outcome := .discarded, die := (pr.dieRecord s).to .lost, site := some (.wetted (pr.wetTime s)),
    record := some (.loss .discarded), announce := false }

/-- R100. -/
def serveDiscard (p : Port) (body : List Octet) (s : State) : State :=
  withTicket p (u8 body 0) (fun pr s =>
    match pr.phase with
    | .claimed => refusePhase p pr s
    | .picked _ => reply p (okResp [pr.ticket]) (endAndPass pr (discardEnd pr s) s)) s

/-- DISCARD. -/
def execDiscard (p : Port) (body : List Octet) (s : State) : Result := request .discard serveDiscard p body s

end Sys2Proof.Machine
end

