-- ==== Sys2Proof/Machine/MapCmds.lean ====
section
/-! DEFINITION. MapCmds.lean: the map, wafer and die-mark requests of the Map Store (Chapter 1). -/

namespace Sys2Proof.Machine

open Sys2Proof

/-- R6: the header an accepted MAP_OPEN gives its bank; its die records are blank (R3). -/
def openedBank (body : List Octet) : MapBank :=
  { state := .loading, waferId := u32 body 0, cols := (u16 body 4).toNat, rows := (u16 body 6).toNat,
    colPitch := (u16 body 8).toNat, rowPitch := (u16 body 10).toNat, received := 0, check := 0, available := 0, refs := 0,
    dies := [] }

/-- R6: the fields of MAP_OPEN lie in their ranges. -/
def MapBank.headerOk (b : MapBank) : Bool :=
  b.waferId != 0 && 1 ≤ b.cols && b.cols ≤ 256 && 1 ≤ b.rows && b.rows ≤ 256 && b.size ≤ Config.maxDie &&
  100 ≤ b.colPitch && b.colPitch ≤ 50000 && 100 ≤ b.rowPitch && b.rowPitch ≤ 50000

/-- R6: the lowest-numbered EMPTY bank. -/
def State.emptyBank (s : State) : Option BankId :=
  if s.banks.b0.state = .empty then some .b0 else if s.banks.b1.state = .empty then some .b1 else none

/-- R6: the checks of MAP_OPEN. -/
def serveMapOpen (p : Port) (body : List Octet) (s : State) : State :=
  if !(openedBank body).headerOk then reply p (resp .range []) s
  else if s.loadingBank.isSome then reply p (resp .busy []) s
  else
    match s.emptyBank with
    | none => reply p (resp .busy []) s
    | some b => reply p (okResp [bankCode b]) (s.setBank b (openedBank body))

/-- MAP_OPEN. -/
def execMapOpen (p : Port) (body : List Octet) (s : State) : Result := request .mapOpen serveMapOpen p body s

/-- R7: the die record a grade gives. -/
def loadedDie (g : Grade) : DieRecord :=
  { grade := g, state := if g = 0 then .reject else if g = 15 then .absent else .available, retry := 0 }

/-- R7, R8: one grade is written at the next index and adds its term to the running check. -/
def MapBank.loadDie (b : MapBank) (i : Nat) (g : Grade) : MapBank :=
  { b.withDie i (loadedDie g) with check := b.check + BitVec.ofNat 16 ((i + 1) * g.toNat) }

/-- R7: the grades of a list are written in list order. -/
def MapBank.loadGrades (b : MapBank) (i : Nat) : List Octet → MapBank
  | [] => b
  | g :: t => (b.loadDie i (g.setWidth 4)).loadGrades (i + 1) t

/-- R7: the checks and the effect of MAP_ROWS. -/
def serveMapRows (p : Port) (body : List Octet) (s : State) : State :=
  let start := (u16 body 0).toNat
  let grades := gradesOfBody body
  match s.loadingBank with
  | none => reply p (resp .noMap []) s
  | some b =>
    if grades.any (fun g => 15 < g.toNat) || start != (s.bank b).received || (s.bank b).size < start + grades.length then
      reply p (resp .range []) s
    else
      let bank := (s.bank b).loadGrades start grades
      let bank := { bank with received := bank.received + grades.length }
      reply p (okResp (nat16 bank.received ++ be16 bank.check)) (s.setBank b bank)

/-- MAP_ROWS. -/
def execMapRows (p : Port) (body : List Octet) (s : State) : Result := request .mapRows serveMapRows p body s

/-- R9: a map that agrees is staged, and any other load ends with CHECK_FAIL. -/
def serveMapClose (p : Port) (body : List Octet) (s : State) : State :=
  match s.loadingBank with
  | none => reply p (resp .noMap []) s
  | some b =>
    let bank := s.bank b
    if (u16 body 0).toNat = bank.size && bank.received = bank.size && u16 body 2 = bank.check then
      reply p (okResp (bankCode b :: nat16 bank.available)) (s.setBank b { bank with state := .staged })
    else reply p (resp .checkFail (nat16 bank.received ++ be16 bank.check)) (s.setBank b .blank)

/-- MAP_CLOSE. -/
def execMapClose (p : Port) (body : List Octet) (s : State) : Result := request .mapClose serveMapClose p body s

/-- R10: the LOADING bank returns to EMPTY. -/
def serveMapAbort (p : Port) (_body : List Octet) (s : State) : State :=
  match s.loadingBank with
  | none => reply p (resp .noneHere []) s
  | some b => reply p (okResp [bankCode b]) (s.setBank b .blank)

/-- MAP_ABORT. -/
def execMapAbort (p : Port) (body : List Octet) (s : State) : Result := request .mapAbort serveMapAbort p body s

/-- R17: the record a die-mark action makes of a die, where the combination has an effect. -/
def markedDie (a : MarkAction) (r : DieRecord) : Option DieRecord :=
  match a, r.state with
  | .reject, .available => some { r with state := .reject }
  | .reject, .suspect => some { r with state := .reject }
  | .readmit, .suspect => if r.grade ≠ 0 && r.grade ≠ 15 then some { r with state := .available, retry := 0 } else none
  | _, _ => none

/-- R17: the die's state and grade, carried by every answer from a named bank. -/
def dieBody (r : DieRecord) : List Octet := [r.state.code, gradeOct r.grade]

/-- R109: the passes a die-mark action asks for: a READMIT signals one in any bank (R18), and one more in the ACTIVE bank, where
a die has become AVAILABLE (R5) (log entry 9). -/
def markSignals (a : MarkAction) (b : MapBank) : Nat :=
  match a with
  | .reject => 0
  | .readmit => 1 + (if b.state = .active then 1 else 0)

/-- R17, R18: the checks and the effect of DIE_MARK. The answer to a READMIT carries the state AVAILABLE that the request made,
DESIGN CHOICE where a pass claims the die in the same step (log entry 29). -/
def serveDieMark (p : Port) (body : List Octet) (s : State) : State :=
  let i := (u16 body 1).toNat
  match bankOfCode (u8 body 0), actionOfCode (u8 body 3) with
  | some b, some a =>
    let r := dieAt (s.bank b).dies i
    if !(s.bank b).holdsMap then reply p (resp .noMap []) s
    else if (s.bank b).size ≤ i then reply p (resp .range []) s
    else if r.state = .claimed || r.state = .picked then reply p (resp .busy (dieBody r)) s
    else
      match markedDie a r with
      | none => reply p (resp .noneHere (dieBody r)) s
      | some r' =>
        let s := changeDie b i r' s
        reply p (okResp (dieBody r')) (arbiterPasses (markSignals a (s.bank b)) s)
  | _, _ => reply p (resp .range []) s

/-- DIE_MARK. -/
def execDieMark (p : Port) (body : List Octet) (s : State) : Result := request .dieMark serveDieMark p body s

/-- A STAGED bank holds the wafer id (R11). -/
def MapBank.stagedFor (b : MapBank) (w : Tag) : Bool := b.state == .staged && b.waferId == w

/-- R11, step 4: the lowest-numbered STAGED bank that holds the wafer id. -/
def State.stagedBank (s : State) (w : Tag) : Option BankId :=
  if s.banks.b0.stagedFor w then some .b0 else if s.banks.b1.stagedFor w then some .b1 else none

/-- R11, check 3: the wafer id of a STAGED bank, and 0 in place of a bank that is not. -/
def MapBank.stagedId (b : MapBank) : Tag := if b.state = .staged then b.waferId else 0

/-- A bank is ACTIVE or RETIRING (R11, check 1). -/
def MapBank.onTable (b : MapBank) : Bool := b.state == .active || b.state == .retiring

/-- R12: a bank becomes ACTIVE: the last-pick positions are reset and WAFER_EXHAUSTED is raised for an empty wafer. -/
def activate (b : BankId) (s : State) : State :=
  let bank := s.bank b
  let s := resetLastPicks (s.setBank b { bank with state := .active })
  if bank.available = 0 then raiseTo .wafer (.waferExhausted bank.waferId) s else s

/-- R11, R12: the checks and the effect of WAFER_IN. -/
def serveWaferIn (p : Port) (body : List Octet) (s : State) : State :=
  let w := u32 body 0
  if s.banks.b0.onTable || s.banks.b1.onTable then reply p (resp .busy []) s
  else if s.banks.b0.state ≠ .staged && s.banks.b1.state ≠ .staged then reply p (resp .noMap []) s
  else
    match s.stagedBank w with
    | none => reply p (resp .wrongWafer (be32 s.banks.b0.stagedId ++ be32 s.banks.b1.stagedId)) s
    | some b => reply p (okResp (bankCode b :: nat16 (s.bank b).available)) (arbiterPass (activate b s))

/-- WAFER_IN. -/
def execWaferIn (p : Port) (body : List Octet) (s : State) : Result := request .waferIn serveWaferIn p body s

/-- R13: the ACTIVE bank becomes RETIRING, and at once EMPTY where no pairing is in flight on it. The
references take one octet (log entry 19). -/
def serveWaferOut (p : Port) (_body : List Octet) (s : State) : State :=
  match s.activeBank with
  | none => reply p (resp .noneHere []) s
  | some b =>
    let bank := s.bank b
    reply p (okResp (be32 bank.waferId ++ [oct bank.refs])) (retireIfClear b (s.setBank b { bank with state := .retiring }))

/-- WAFER_OUT. -/
def execWaferOut (p : Port) (body : List Octet) (s : State) : Result := request .waferOut serveWaferOut p body s

end Sys2Proof.Machine
end

