-- ==== Sys2Proof/Machine/NoticeCmds.lean ====
section
/-! DEFINITION. NoticeCmds.lean: IDENT (R158), CLOCK_READ (R42) and the notice requests (R144 to R146). -/

namespace Sys2Proof.Machine

open Sys2Proof

/-- R158: part code, revision, port number, role, priority level, strap value. -/
def serveIdent (p : Port) (_body : List Octet) (s : State) : State :=
  reply p (okResp (nat16 Config.partCode ++ [oct Config.revision, portOct p, (s.role p).code, oct s.roles[p].level,
    boolOct s.dualLane])) s

/-- IDENT. -/
def execIdent (p : Port) (body : List Octet) (s : State) : Result := request .ident serveIdent p body s

/-- R42: the reading. -/
def serveClockRead (p : Port) (_body : List Octet) (s : State) : State := reply p (okResp (be32 s.clock)) s

/-- CLOCK_READ. -/
def execClockRead (p : Port) (body : List Octet) (s : State) : Result := request .clockRead serveClockRead p body s

/-- R144: a source leaves the pending set and joins the in-service set. -/
def NoticeState.take (n : NoticeState) (k : RankIx) : NoticeState :=
  { n with pending := n.pending.set k.val none k.isLt, inService := n.inService.set k.val true k.isLt }

/-- R145: a source leaves the in-service set. -/
def NoticeState.finish (n : NoticeState) (k : RankIx) : NoticeState :=
  { n with inService := n.inService.set k.val false k.isLt }

/-- R66: the orphan count of a lane becomes 0. -/
def clearOrphans (l : Lane) (s : State) : State := s.setGate l { s.gate l with orphans := 0 }

/-- R144, step 3: the hand-on of a take; PULSE_ORPHAN alone has one outside the notice state. -/
def takeHandOn (x : Notice) (r : Role) (s : State) : State :=
  match x.source, r with
  | .pulseOrphan, .dispenser l => clearOrphans l s
  | _, _ => s

/-- R144: the highest-ranked pending unmasked source is taken into service. -/
def serveNoticeTake (p : Port) (_body : List Octet) (s : State) : State :=
  match (s.notice p).firstOffered with
  | none => reply p (resp .noneHere []) s
  | some k =>
    match (s.notice p).pending[k] with
    | none => reply p (resp .noneHere []) s
    | some x =>
      let n := (s.notice p).take k
      reply p (okResp (noticeRecord x k n.offeredCount)) (takeHandOn x (s.role p) (s.setNotice p n))

/-- NOTICE_TAKE. -/
def execNoticeTake (p : Port) (body : List Octet) (s : State) : Result := request .noticeTake serveNoticeTake p body s

/-- R145: the highest-ranked source in service is ended; the end of TRACE_LEVEL evaluates its condition again (R143).
The answer carries the source as its code (log entry 20). -/
def serveNoticeEnd (p : Port) (_body : List Octet) (s : State) : State :=
  match (s.notice p).firstInService with
  | none => reply p (resp .noneHere []) s
  | some k =>
    match (s.role p).sourceAt k with
    | none => reply p (resp .noneHere []) s
    | some src =>
      let s' := s.setNotice p ((s.notice p).finish k)
      reply p (okResp [src.code]) (if src = .traceLevel then reevalTraceLevel s' else s')

/-- NOTICE_END. -/
def execNoticeEnd (p : Port) (body : List Octet) (s : State) : Result := request .noticeEnd serveNoticeEnd p body s

/-- R146, R162: the mask a role takes from a mask octet; a rank beyond the role's sources is clear. -/
def maskFor (r : Role) (m : Octet) : Vector Bool 4 :=
  #v[m.getLsbD 0 && (r.sourceAt 0).isSome, m.getLsbD 1 && (r.sourceAt 1).isSome, m.getLsbD 2 && (r.sourceAt 2).isSome,
     m.getLsbD 3 && (r.sourceAt 3).isSome]

/-- The mask octet: bit r − 1 names rank r (Table 12-3). -/
def maskOct (m : Vector Bool 4) : Octet :=
  (if m[0] then 1 else 0) + (if m[1] then 2 else 0) + (if m[2] then 4 else 0) + (if m[3] then 8 else 0)

/-- R146: the mask is replaced whole. -/
def serveNoticeMask (p : Port) (body : List Octet) (s : State) : State :=
  let m := maskFor (s.role p) (u8 body 0)
  reply p (okResp [maskOct m]) (s.setNotice p { s.notice p with mask := m })

/-- NOTICE_MASK. -/
def execNoticeMask (p : Port) (body : List Octet) (s : State) : Result := request .noticeMask serveNoticeMask p body s

end Sys2Proof.Machine
end

