-- ==== Sys2Proof/Machine/LineCmds.lean ====
section
/-! DEFINITION. LineCmds.lean: the requests of Line Control (Chapter 9), PRODUCT (R22), LANE (R23) and REACH (R79). -/

namespace Sys2Proof.Machine

open Sys2Proof

/-- R130: RUN moves to PAUSED, the held requests are answered PAUSED, LINE_STATE and LINE_STOPPED are raised. -/
def stopLine (p : Port) (s : State) : State :=
  let s := { s with line := .paused }
  let s := answerAllEntries .paused s
  let s := answerWaiter .B (resp .paused []) (answerWaiter .A (resp .paused []) s)
  let s := raiseLineState .pause s
  if p = 0 then s else raiseAt 0 (.lineStopped p) s

/-- R130: outside RUN, PAUSE changes nothing and is answered OK with the line state. -/
def servePause (p : Port) (_body : List Octet) (s : State) : State :=
  let s := if s.line = .run then stopLine p s else s
  reply p (okResp [s.line.code]) s

/-- PAUSE. -/
def execPause (p : Port) (body : List Octet) (s : State) : Result := request .pause servePause p body s

/-- R135: the notice state of a port is cleared. -/
def resetNotice (p : Port) (s : State) : State := s.setNotice p .blank

/-- R135: the orphan count of each lane whose dispenser role the port had or receives becomes 0. -/
def resetOrphans (before after : Role) (s : State) : State :=
  let f := fun l (s : State) => if before = .dispenser l || after = .dispenser l then clearOrphans l s else s
  f .B (f .A s)

/-- R135: the port's entry takes the role and the level. -/
def assignRole (q : Port) (r : Role) (level : Nat) (s : State) : State :=
  resetOrphans (s.role q) r (resetNotice q { s with roles := s.roles.set q.val ⟨r, level⟩ q.isLt })

/-- A port other than the named one that holds the role (R135, check 5). -/
def otherHolder (s : State) (q : Port) (r : Role) : Option Port := allPorts.find? (fun x => x != q && s.role x == r)

/-- How many ports other than the named one hold HEAD (R135, check 6). -/
def otherHeads (s : State) (q : Port) : Nat := (allPorts.filter (fun x => x != q && s.role x == .head)).length

/-- R135: the checks of ROLE in order; its STATE refusal lists no value (log entry 20), and NONE keeps the level given (log
entry 21). -/
def serveRole (p : Port) (body : List Octet) (s : State) : State :=
  let level := min (u8 body 2).toNat 3
  match stationPort (u8 body 0), assignableRole (u8 body 1) with
  | some q, some r =>
    if r = .dispenser .B && !s.dualLane then reply p (resp .range []) s
    else if s.line ≠ .setup then reply p (resp .state []) s
    else if r = .head then
      (if Config.maxHeads ≤ otherHeads s q then reply p (resp .full []) s
       else reply p (okResp [portOct q, r.code, oct level]) (assignRole q r level s))
    else if r = .unassigned then reply p (okResp [portOct q, r.code, oct level]) (assignRole q r level s)
    else
      match otherHolder s q r with
      | some x => reply p (resp .busy [portOct x]) s
      | none => reply p (okResp [portOct q, r.code, oct level]) (assignRole q r level s)
  | _, _ => reply p (resp .range []) s

/-- ROLE. -/
def execRole (p : Port) (body : List Octet) (s : State) : Result := request .role serveRole p body s

/-- A queued strip carries the product code (R22, check 3). -/
def State.codeQueued (s : State) (c : ProductCode) : Bool :=
  s.lanes.a.strips.any (fun st => st.product == c) || s.lanes.b.strips.any (fun st => st.product == c)

/-- R22: the checks of PRODUCT in order. -/
def serveProduct (p : Port) (body : List Octet) (s : State) : State :=
  match productCode (u8 body 0) with
  | none => reply p (resp .range []) s
  | some c =>
    if !(productOfBody body).inRange then reply p (resp .range []) s
    else if s.codeQueued c then reply p (resp .busy []) s
    else reply p (okResp [u8 body 0]) { s with products := s.products.set c.val (some (productOfBody body)) c.isLt }

/-- PRODUCT. -/
def execProduct (p : Port) (body : List Octet) (s : State) : Result := request .product serveProduct p body s

/-- R24: the lane a code names on this part: lane B is none on a single-lane part. -/
def State.laneOf (s : State) (o : Octet) : Option Lane :=
  match laneOfCode o with
  | some .B => if s.dualLane then some .B else none
  | x => x

/-- R23: the checks of LANE in order. -/
def serveLane (p : Port) (body : List Octet) (s : State) : State :=
  let limit := (u8 body 1).toNat
  let deadline := (u16 body 2).toNat
  match s.laneOf (u8 body 0) with
  | none => reply p (resp .range []) s
  | some l =>
    if !(1 ≤ limit && limit ≤ 16 && 100 ≤ deadline && deadline ≤ 10000) then reply p (resp .range []) s
    else if (s.lane l).strips ≠ [] then reply p (resp .busy []) s
    else reply p (okResp []) (s.setLane l { s.lane l with wetLimit := limit, dotDeadlineMs := deadline })

/-- LANE. -/
def execLane (p : Port) (body : List Octet) (s : State) : Result := request .lane serveLane p body s

/-- R79, R162: a REACH lane mask is one of 1, 2 and 3. -/
def maskOfCode (o : Octet) : Option (Bool × Bool) :=
  if o = 1 then some (true, false) else if o = 2 then some (false, true) else if o = 3 then some (true, true) else none

/-- R79: the reach record a REACH body carries, where its codes name values. -/
def reachOfBody (body : List Octet) : Option Reach :=
  match windowAt body 1, windowAt body 6, maskOfCode (u8 body 11) with
  | some w1, some w2, some m => some { w1 := w1, w2 := w2, laneA := m.1, laneB := m.2 }
  | _, _, _ => none

/-- R79: the checks of REACH in order; in RUN an arbiter pass follows the change (outside RUN the list is empty). -/
def serveReach (p : Port) (body : List Octet) (s : State) : State :=
  match stationPort (u8 body 0), reachOfBody body with
  | some q, some r =>
    if r.laneB && !s.dualLane then reply p (resp .range []) s
    else
      let s := { s with reach := s.reach.set q.val r q.isLt }
      reply p (okResp [portOct q]) (if s.line = .run then arbiterPass s else s)
  | _, _ => reply p (resp .range []) s

/-- REACH. -/
def execReach (p : Port) (body : List Octet) (s : State) : Result := request .reach serveReach p body s

/-- R129: the roles START needs, in order. -/
def requiredRoles (s : State) : List Role :=
  [.head, .indexer, .wafer, .dispenser .A] ++ (if s.dualLane then [.dispenser .B] else [])

/-- R129: the required roles that no port holds. -/
def missingRoles (s : State) : List Role := (requiredRoles s).filter (fun r => (s.holder r).isNone)

/-- R129: the checks of START in order, LINE_STATE, and an arbiter pass. The missing roles are answered as a bare list of
role codes (log entry 18). -/
def serveStart (p : Port) (_body : List Octet) (s : State) : State :=
  if s.line ≠ .setup then reply p (resp .state [s.line.code]) s
  else if missingRoles s ≠ [] then reply p (resp .state ((missingRoles s).map Role.code)) s
  else reply p (okResp []) (arbiterPass (raiseLineState .start { s with line := .run }))

/-- START. -/
def execStart (p : Port) (body : List Octet) (s : State) : Result := request .start serveStart p body s

/-- R132: PAUSED moves to RUN, with LINE_STATE, an arbiter pass and the re-examination of each lane. -/
def serveResume (p : Port) (_body : List Octet) (s : State) : State :=
  if s.line ≠ .paused then reply p (resp .state [s.line.code]) s
  else reply p (okResp []) (reexamine .B (reexamine .A (arbiterPass (raiseLineState .resume { s with line := .run }))))

/-- RESUME. -/
def execResume (p : Port) (body : List Octet) (s : State) : Result := request .resume serveResume p body s

/-- R133: PAUSED moves to SETUP when no pairing is in flight and no site is DISPENSING. -/
def serveLineEnd (p : Port) (_body : List Octet) (s : State) : State :=
  if s.line ≠ .paused then reply p (resp .state [s.line.code]) s
  else if s.pairings ≠ [] || s.laneDispensing .A || s.laneDispensing .B then
    reply p (resp .busy [oct s.pairings.length, laneSetCode (s.laneDispensing .A) (s.laneDispensing .B)]) s
  else reply p (okResp []) (raiseLineState .lineEnd { s with line := .setup })

/-- END. -/
def execLineEnd (p : Port) (body : List Octet) (s : State) : Result := request .lineEnd serveLineEnd p body s

/-- R137, step 4: a lane's dot waiter is answered CLEARED and its assignment dropped without DOT_ENDED (R71). -/
def clearGate (l : Lane) (s : State) : State := dropAssignment l (answerWaiter l (resp .cleared []) s)

/-- R137, step 5 (R40): every strip of a lane is removed without a summary. -/
def clearLane (l : Lane) (s : State) : State := s.setLane l { s.lane l with strips := [], wetAhead := 0 }

/-- R137, step 6: a LOADING bank becomes EMPTY. -/
def clearBank (b : BankId) (s : State) : State := if (s.bank b).state = .loading then s.setBank b .blank else s

/-- R137: the parts of the line clear, in order. -/
def lineClear (s : State) : State :=
  let s := { s with line := .setup }
  let s := answerAllEntries .cleared s
  let s := clearPairings s.pairings s
  let s := clearGate .B (clearGate .A s)
  let s := clearLane .B (clearLane .A s)
  let s := clearBank .b1 (clearBank .b0 s)
  let s := resetLastPicks s
  raiseLineState .clear s

/-- A pairing is in PICKED. -/
def Pairing.isPicked (pr : Pairing) : Bool := pr.phase != .claimed

/-- R137: held requests answered, pairings ended, LOSS records written, strips removed. -/
def clearCounts (s : State) : List Octet :=
  [oct (s.waitList.length + (if s.gates.a.waiter.isSome then 1 else 0) + (if s.gates.b.waiter.isSome then 1 else 0)),
   oct s.pairings.length, oct (s.pairings.filter Pairing.isPicked).length,
   oct (s.lanes.a.strips.length + s.lanes.b.strips.length)]

/-- R137: the line clear and its counts. -/
def serveClear (p : Port) (_body : List Octet) (s : State) : State := reply p (okResp (clearCounts s)) (lineClear s)

/-- CLEAR. -/
def execClear (p : Port) (body : List Octet) (s : State) : Result := request .clear serveClear p body s

/-- The lane, slot and site index of a sweep position (Table 3-4). -/
def sweepLane (pos : BitVec 9) : Lane := if pos.toNat < 256 then .A else .B
def sweepSlot (pos : BitVec 9) : Nat := pos.toNat / 64 % 4
def sweepSite (pos : BitVec 9) : Nat := pos.toNat % 64

/-- R136: the status snapshot, in the order the rule lists it. -/
def statusBody (s : State) : List Octet :=
  [s.line.code] ++
  (s.banks.b0.state.code :: (be32 s.banks.b0.waferId ++ nat16 s.banks.b0.available)) ++
  (s.banks.b1.state.code :: (be32 s.banks.b1.waferId ++ nat16 s.banks.b1.available)) ++
  [oct s.lanes.a.strips.length, oct s.lanes.a.wetAhead,
   (if s.dualLane then oct s.lanes.b.strips.length else 0), (if s.dualLane then oct s.lanes.b.wetAhead else 0),
   oct s.pairings.length, oct s.waitList.length] ++
  nat16 s.trace.records.length ++
  [laneCode (sweepLane s.sweepPos), oct (sweepSlot s.sweepPos), oct (sweepSite s.sweepPos)] ++
  be32 s.clock ++ [boolOct s.dualLane]

/-- R136: LINE_STATUS changes no state. -/
def serveLineStatus (p : Port) (_body : List Octet) (s : State) : State := reply p (okResp (statusBody s)) s

/-- LINE_STATUS. -/
def execLineStatus (p : Port) (body : List Octet) (s : State) : Result := request .lineStatus serveLineStatus p body s

end Sys2Proof.Machine
end

