-- ==== Sys2Proof/Machine/StripCmds.lean ====
section
/-! DEFINITION. StripCmds.lean: STRIP_IN (R26, R27) and STRIP_OUT (R35 to R37). -/

namespace Sys2Proof.Machine

open Sys2Proof

/-- The lowest-numbered free slot of a lane (R26). -/
def freeSlot (strips : List Strip) : Option (Fin 4) :=
  ([0, 1, 2, 3] : List (Fin 4)).find? (fun k => strips.all (fun st => st.slot != k))

/-- R26: the site records of a new strip: SKIPPED where the index is listed, EMPTY elsewhere. -/
def newSites (count : Nat) (bad : List Octet) : List Site :=
  (List.range count).map (fun i => if bad.any (fun o => o.toNat == i) then .skipped else .empty)

/-- How many sites of a list satisfy a condition. -/
def countSites (f : Site → Bool) (sites : List Site) : Nat := (sites.filter f).length

/-- R26: the strip that a STRIP_IN enters. -/
def newStrip (s : State) (l : Lane) (id : Tag) (c : ProductCode) (slot : Fin 4) (bad : List Octet) : Strip :=
  let sites := newSites (s.product c).siteCount bad
  { id := id, product := c, arrival := (s.lane l).arrivalCounter, slot := slot, sites := sites,
    unsettled := countSites (fun x => !x.settled) sites }

/-- R25, R26: the strip joins the newest end and the arrival counter advances. -/
def enterStrip (l : Lane) (st : Strip) (s : State) : State :=
  s.setLane l { s.lane l with strips := (s.lane l).strips ++ [st], arrivalCounter := (s.lane l).arrivalCounter + 1 }

/-- R26, R27: the checks of STRIP_IN in order, the settlement of a strip all of whose sites are SKIPPED, and the
re-examination of the lane's dot waiter. -/
def serveStripIn (p : Port) (body : List Octet) (s : State) : State :=
  match s.laneOf (u8 body 0) with
  | none => reply p (resp .range []) s
  | some l =>
    if Config.maxStrips ≤ (s.lane l).strips.length then reply p (resp .full []) s
    else
      match productCode (u8 body 5), freeSlot (s.lane l).strips with
      | some c, some slot =>
        if (s.products[c]).isNone || u32 body 1 = 0 then reply p (resp .range []) s
        else
          let st := newStrip s l (u32 body 1) c slot (badSitesOfBody body)
          reply p (okResp (be32 st.arrival ++ [oct slot.val, oct (countSites (fun x => x == .skipped) st.sites)]))
            (reexamine l (settlementCheck l st.arrival (enterStrip l st s)))
      | _, _ => reply p (resp .range []) s

/-- STRIP_IN. -/
def execStripIn (p : Port) (body : List Octet) (s : State) : Result := request .stripIn serveStripIn p body s

/-- R37: strip id, arrival number and the eight counts; a site in WETTED, DISPENSING or PAIRED counts as spoiled (R36).
The width of the counts is log entry 19. -/
def summaryBody (st : Strip) : List Octet :=
  be32 st.id ++ be32 st.arrival ++
  [oct (countSites (fun x => match x with | .bonded _ => true | _ => false) st.sites),
   oct (countSites (fun x => match x with | .late _ => true | _ => false) st.sites),
   oct (countSites (fun x => match x with | .misplaced _ => true | _ => false) st.sites),
   oct (countSites (fun x => match x with | .spoiled _ => true | x => x.countsWet) st.sites),
   oct (countSites (fun x => x == .badDot) st.sites),
   oct (countSites (fun x => x == .skipped) st.sites),
   oct (countSites (fun x => match x with | .suspect _ => true | _ => false) st.sites),
   oct (countSites (fun x => x == .empty) st.sites)]

/-- R102: revoke the pairing of one departing site, and count the passes its end asks for. -/
def revokeSite (x : Site) (acc : Nat × State) : Nat × State :=
  match x with
  | .paired _ t =>
    match acc.2.pairing t with
    | some pr =>
      (acc.1 + endSignals pr (revocationEnd pr acc.2) acc.2, endPairing pr (revocationEnd pr acc.2) acc.2)
    | none => acc
  | _ => acc

/-- R36: the pairings of a departing strip are revoked in ascending site index. -/
def revokeSites (sites : List Site) (s : State) : Nat × State := sites.foldl (fun acc x => revokeSite x acc) (0, s)

/-- R36: the assignment on a departing site ends, with DOT_ENDED to the lane's dispenser. -/
def endDepartingDot (l : Lane) (st : Strip) (s : State) : State :=
  match (s.gate l).assignment with
  | none => s
  | some a =>
    if a.arrival = st.arrival then
      raiseTo (.dispenser l) (.dotEnded a.stripId a.site .stripGone) (dropAssignment l s)
    else s

/-- R35: the oldest strip is removed and the wet-ahead count falls by its counted sites. -/
def removeOldest (l : Lane) (s : State) : State :=
  match (s.lane l).strips with
  | [] => s
  | st :: t => s.setLane l { s.lane l with
      strips := t, wetAhead := (s.lane l).wetAhead - countSites Site.countsWet st.sites }

/-- R36: the departing sites are settled, the strip is removed, and the three hand-ons follow in order. -/
def departStrip (l : Lane) (st : Strip) (s : State) : State :=
  let rev := revokeSites st.sites s
  arbiterPasses rev.1 (settlementCheckOldest l (reexamine l (removeOldest l (endDepartingDot l st rev.2))))

/-- R35 to R37. -/
def serveStripOut (p : Port) (body : List Octet) (s : State) : State :=
  match s.laneOf (u8 body 0) with
  | none => reply p (resp .range []) s
  | some l =>
    match (s.lane l).strips with
    | [] => reply p (resp .noneHere []) s
    | st :: _ => reply p (okResp (summaryBody st)) (departStrip l st s)

/-- STRIP_OUT. -/
def execStripOut (p : Port) (body : List Octet) (s : State) : Result := request .stripOut serveStripOut p body s

end Sys2Proof.Machine
end

