-- ==== Sys2Proof/Machine/TraceCmds.lean ====
section
/-! DEFINITION. TraceCmds.lean: TRACE_READ (R121) and TRACE_LEVEL, the request (R124). -/

namespace Sys2Proof.Machine

open Sys2Proof

/-- R121: the requested count, 0 taken as 1 and above 8 as 8. -/
def traceReadCount (n : Octet) : Nat := min (max n.toNat 1) Config.maxTraceRead

/-- R121: the oldest records leave the queue. -/
def dropRecords (n : Nat) (s : State) : State :=
  reevalTraceLevel { s with trace := { s.trace with records := s.trace.records.drop n } }

/-- R121: record count, records oldest first, level after the removal. -/
def traceReadBody (taken : List TraceRecord) (level : Nat) : List Octet :=
  oct taken.length :: (taken.flatMap TraceRecord.octets ++ nat16 level)

/-- R121: the removal, and an arbiter pass where a record was removed. -/
def serveTraceRead (p : Port) (body : List Octet) (s : State) : State :=
  let taken := s.trace.records.take (traceReadCount (u8 body 0))
  let s' := dropRecords taken.length s
  reply p (okResp (traceReadBody taken s'.trace.records.length)) (if taken = [] then s' else arbiterPass s')

/-- TRACE_READ. -/
def execTraceRead (p : Port) (body : List Octet) (s : State) : Result := request .traceRead serveTraceRead p body s

/-- R124: the threshold after clamping to 1–512. -/
def clampThreshold (x : Half) : Nat := min (max x.toNat 1) Config.traceCapacity

/-- R124: the threshold is set and the notice condition evaluated again. -/
def serveTraceLevel (p : Port) (body : List Octet) (s : State) : State :=
  let n := clampThreshold (u16 body 0)
  reply p (okResp (nat16 n ++ nat16 s.trace.records.length)) (reevalTraceLevel { s with trace := { s.trace with threshold := n } })

/-- TRACE_LEVEL. -/
def execTraceLevel (p : Port) (body : List Octet) (s : State) : Result := request .traceLevel serveTraceLevel p body s

end Sys2Proof.Machine
end

