-- ==== Sys2Proof/Machine/LinkCmds.lean ====
section
/-! DEFINITION. LinkCmds.lean: the events of a station link port (Chapter 11): SEL's edges, SCLK's rising edge, the frame
idle expiry, and the frames that reach no owner. -/

namespace Sys2Proof.Machine

open Sys2Proof

/-- Table 11-4: the owner's part of a request of each kind. -/
def serve (k : Kind) : Port → List Octet → State → State :=
  match k with
  | .ident => serveIdent
  | .clockRead => serveClockRead
  | .noticeTake => serveNoticeTake
  | .noticeEnd => serveNoticeEnd
  | .noticeMask => serveNoticeMask
  | .pause => servePause
  | .role => serveRole
  | .product => serveProduct
  | .lane => serveLane
  | .reach => serveReach
  | .start => serveStart
  | .resume => serveResume
  | .lineEnd => serveLineEnd
  | .clear => serveClear
  | .lineStatus => serveLineStatus
  | .mapOpen => serveMapOpen
  | .mapRows => serveMapRows
  | .mapClose => serveMapClose
  | .mapAbort => serveMapAbort
  | .dieMark => serveDieMark
  | .traceRead => serveTraceRead
  | .traceLevel => serveTraceLevel
  | .pair => servePair
  | .picked => servePicked
  | .bonded => serveBonded
  | .pickFail => servePickFail
  | .discard => serveDiscard
  | .dot => serveDot
  | .dotAbort => serveDotAbort
  | .stripIn => serveStripIn
  | .stripOut => serveStripOut
  | .waferIn => serveWaferIn
  | .waferOut => serveWaferOut

/-- R153: a completed frame, its kind octet read. -/
def completeFrame (p : Port) (kind : Octet) (body : List Octet) (s : State) : State :=
  match kindOfCode kind with
  | none => answerFormat p kind s
  | some k => frameCheck k p body (serve k) s

/-- UNKNOWN_KIND_FRAME (R153, check 1). -/
def execUnknownKindFrame (p : Port) (kind : Octet) (body : List Octet) (s : State) : Result :=
  if !((kindOfCode kind).isNone && bodyFits body) then .refused .notAnEvent
  else whenLive (fun s => if s.receives p (frameOctets kind body) then answerFormat p kind s else s) s

/-- FORMAT_AT_HEADER (R151, item 1). -/
def execFormatAtHeader (p : Port) (kind : Octet) (declared : Half) (s : State) : Result :=
  if declared.toNat ≤ Config.maxBody then .refused .notAnEvent
  else whenLive (fun s => if s.receives p (kind :: be16 declared) then answerFormat p kind s else s) s

/-- SEL_FALL (R151): from IDLE the port moves to RECEIVING. While RESET is asserted only the pin moves (R159). -/
def execSelFall (p : Port) (s : State) : Result :=
  .next
    (if s.ports[p].selLow then s
     else
       let s := s.setPort p { s.ports[p] with selLow := true }
       if s.resetAsserted then s
       else if s.link p = .idle then s.setLink p (.receiving [] [] s.clock) else s)

/-- R157: a grant mark that a release hands over withdraws its grant. -/
def withdraw (m : Option GrantMark) (s : State) : State :=
  match m with
  | none => s
  | some (.pair t q g) => withdrawPair t q g s
  | some m => withdrawDot m s

/-- R156: a request held at a port is removed: a PAIR from the wait list (R113), a DOT from its waiter position (R61). -/
def releaseHeld (p : Port) (s : State) : State :=
  let drop := fun l (s : State) =>
    match (s.gate l).waiter with
    | some w => if w.port = p then s.setGate l { s.gate l with waiter := none } else s
    | none => s
  drop .B (drop .A (removeEntry p s))

/-- R155 to R157: what a rise of SEL does in each link state. -/
def closeLink (p : Port) (s : State) : State :=
  match s.link p with
  | .idle => s
  | .receiving _ _ _ => s.setLink p .idle
  | .holding _ => releaseHeld p (s.setLink p .idle)
  | .decided _ _ mark => withdraw mark (s.setLink p .idle)
  | .answering _ r bitsOut mark =>
    if r.bitCount ≤ bitsOut then s.setLink p .idle else withdraw mark (s.setLink p .idle)
  | .draining => s.setLink p .idle

/-- SEL_RISE (R155 to R157). While RESET is asserted only the pin moves (R159). -/
def execSelRise (p : Port) (s : State) : Result :=
  .next
    (if !s.ports[p].selLow then s
     else
       let s := s.setPort p { s.ports[p] with selLow := false }
       if s.resetAsserted then s else closeLink p s)

/-- R152: the frame idle timer's expiry, where it runs and is due. -/
def expireFrame (p : Port) (s : State) : State :=
  match s.link p with
  | .receiving _ _ start => if due start Config.frameIdleTicks s.clock then s.setLink p .draining else s
  | _ => s

/-- FRAME_IDLE_EXPIRY (R152). -/
def execFrameIdleExpiry (p : Port) (s : State) : Result := whenLive (expireFrame p) s

/-- R151, R154: the port stays in HOLDING with the response that has just been decided (log entry 30). -/
def keepInHand (p : Port) (s : State) : State :=
  match s.link p with
  | .answering k r 0 mark => s.setLink p (.decided k r mark)
  | _ => s

/-- R154: a decided response is handed over, and the port moves to ANSWERING. -/
def handOverDecided (p : Port) (s : State) : State :=
  match s.link p with
  | .decided k r mark => s.setLink p (.answering k r 0 mark)
  | _ => s

/-- R151: an octet has been appended to the partial frame. An edge that completes a frame has the effect of the frame's row,
but that the response is still to be handed over (log entries 5, 30). -/
def appendOctet (p : Port) (octets : List Octet) (s : State) : State :=
  match frameProgress octets with
  | .more => s.setLink p (.receiving octets [] s.clock)
  | .badHeader kind => keepInHand p (answerFormat p kind s)
  | .complete kind body => keepInHand p (completeFrame p kind body s)

/-- R151, R154, R155: a rising edge of SCLK in each link state. In HOLDING it is ignored, so the bits in excess of a frame have no
effect. -/
def clockEdge (p : Port) (sdi : Bool) (s : State) : State :=
  match s.link p with
  | .receiving octets bits _ =>
    if bits.length < 7 then s.setLink p (.receiving octets (bits ++ [sdi]) s.clock)
    else appendOctet p (octets ++ [octetOfBits (bits ++ [sdi])]) s
  | .answering k r bitsOut mark => s.setLink p (.answering k r (bitsOut + 1) mark)
  | _ => s

/-- SCLK_RISING_EDGE (R151, R155). -/
def execSclkRisingEdge (p : Port) (sdi : Bool) (s : State) : Result := whenLive (clockEdge p sdi) s

end Sys2Proof.Machine
end

