-- ==== Sys2Proof/Machine/EventCmds.lean ====
section
/-! DEFINITION. EventCmds.lean: the events that arrive as no frame: the hand-over of decided responses (R154), the sweep
visit (R49 to R52), the expiries of the part's timers (R60, R67, R101, R112), the clock tick (R41), the gate inputs (R63 to
R66) and the RESET pin (R138, R159). -/

namespace Sys2Proof.Machine

open Sys2Proof

/-! ## The sweep -/

/-- R51, R52: the sweep spoils a site, with SITE_SPOILED to S0, the dot waiter's re-examination and the settlement check. -/
def spoilSite (l : Lane) (st : Strip) (i : Nat) (w : Reading) (s : State) : State :=
  handOnSettled l st.arrival
    (raiseAt 0 (.siteSpoiled l st.id i 1) (changeSite l st.arrival i (.spoiled w) s))

/-- R50: a visit to a position; only a WETTED site whose age is T or more is spoiled. -/
def sweepVisit (pos : BitVec 9) (s : State) : State :=
  let l := sweepLane pos
  if l = .B && !s.dualLane then s
  else
    match (s.lane l).strips.find? (fun st => st.slot.val == sweepSlot pos) with
    | none => s
    | some st =>
      match st.sites[sweepSite pos]? with
      | some (.wetted w) =>
        if (s.product st.product).openTicks ≤ elapsed w s.clock then spoilSite l st (sweepSite pos) w s else s
      | _ => s

/-- R49: the visit owed at the present reading, to the position before the one the sweep holds; without effect where none is
owed. -/
def takeVisit (s : State) : State :=
  if s.visitOwed then sweepVisit (s.sweepPos - 1) { s with visitOwed := false } else s

/-! ## Timers

An expiry is taken when its command comes and, where none has come, before the clock leaves the reading (log entry 16). -/

/-- R101: the lease of the pairing that holds the ticket, where it is due. -/
def expireLease (t : Ticket) (s : State) : State :=
  match s.pairing t with
  | none => s
  | some pr => if due pr.leaseStart pr.leaseLength s.clock then endAndPass pr (expiryEnd pr s) s else s

/-- LEASE_EXPIRY (R101). -/
def execLeaseExpiry (t : Ticket) (s : State) : Result := whenLive (expireLease t) s

/-- R67: the deadline of the lane's assignment, where it runs and is due: ignored while a bound pulse is in progress. -/
def expireDeadline (l : Lane) (s : State) : State :=
  match (s.gate l).assignment with
  | none => s
  | some a =>
    if a.deadlineRuns && deadlineReached a.deadline s.clock then
      (if (s.gate l).measurement.isBound then
         s.setGate l { s.gate l with assignment := some { a with deadlineRuns := false } }
       else raiseTo (.dispenser l) (.dotEnded a.stripId a.site .timeout) (takeBackSite l a s))
    else s

/-- DOT_DEADLINE_EXPIRY (R67). -/
def execDotDeadlineExpiry (l : Lane) (s : State) : Result := whenLive (expireDeadline l) s

/-- R112: the wait of a port's entry, where it is due. -/
def expirePairWait (p : Port) (s : State) : State :=
  match s.entry p with
  | none => s
  | some e => if due e.start e.length s.clock then answerEntry p s else s

/-- PAIR_WAIT_EXPIRY (R112). -/
def execPairWaitExpiry (p : Port) (s : State) : Result := whenLive (expirePairWait p) s

/-- R60: the wait of a lane's dot waiter, where it is due. -/
def expireDotWait (l : Lane) (s : State) : State :=
  match (s.gate l).waiter with
  | none => s
  | some w => if due w.start w.length s.clock then answerWaiter l (resp .noneHere []) s else s

/-- DOT_WAIT_EXPIRY (R60). -/
def execDotWaitExpiry (l : Lane) (s : State) : Result := whenLive (expireDotWait l) s

/-! ## The clock -/

/-- Every expiry that is due at the present reading is taken, in a fixed order (log entry 16). -/
def takeExpiries (s : State) : State :=
  let s := allPorts.foldl (fun s p => expireFrame p s) s
  let s := allPorts.foldl (fun s p => expirePairWait p s) s
  let s := expireDotWait .B (expireDotWait .A s)
  let s := expireDeadline .B (expireDeadline .A s)
  (s.pairings.map (fun pr => pr.ticket)).foldl (fun s t => expireLease t s) s

/-- R154: every decided response is handed over. -/
def handOverAll (s : State) : State := allPorts.foldl (fun s p => handOverDecided p s) s

/-- R49, R154: what the part does of its own at a reading: it hands over the decided responses and takes the visit owed. -/
def catchUp (s : State) : State := takeVisit (handOverAll s)

/-- R45, R49, R154: what belongs to the present reading and has not come yet, taken before the clock leaves the reading: the
hand-overs and the visit owed, then the expiries that are due. -/
def settle (s : State) : State := takeExpiries (catchUp s)

/-- R41, R49: the reading and the sweep position advance, and the visit at the new reading is owed; by now each gate input has
been sampled (R63). -/
def advanceClock (s : State) : State :=
  { s with
    clock := s.clock + 1
    sweepPos := s.sweepPos + 1
    visitOwed := true
    gates := ⟨s.gates.a.sample, s.gates.b.sample⟩ }

/-- R41, R45, R49: the part finishes its reading and the clock moves on. -/
def tick (s : State) : State := advanceClock (settle s)

/-- CLOCK_TICK (R41). The visit at the new reading has no row of its own: it comes in a step on an empty queue, or before the
clock leaves the reading (log entry 28). -/
def execClockTick (s : State) : Result := whenLive tick s

/-- What the part does when no command waits (log entries 2, 28, 30). -/
def idle (s : State) : State := if s.resetAsserted then s else catchUp s

/-! ## Gate inputs -/

/-- R66: an orphan pulse is counted, with PULSE_ORPHAN to the lane's dispenser. -/
def countOrphan (l : Lane) (s : State) : State :=
  let n := min Config.maxOctetCount ((s.gate l).orphans + 1)
  raiseTo (.dispenser l) (.pulseOrphan n) (s.setGate l { s.gate l with orphans := n })

/-- R65: the width lies in the product's dot window. -/
def Product.dotGood (pr : Product) (width : Nat) : Bool := pr.dotMin ≤ width && width ≤ pr.dotMax

/-- R65: a completed bound pulse is judged: a good dot wets its site at the present reading and asks for a pass; a bad dot
settles it, is handed on, and is reported with DOT_REJECTED. -/
def judgeDot (l : Lane) (a : Assignment) (width : Nat) (s : State) : State :=
  let s' := s.setGate l { s.gate l with assignment := none }
  if (s.productOf l a.arrival).dotGood width then arbiterPass (changeSite l a.arrival a.site (.wetted s.clock) s')
  else
    raiseTo (.dispenser l) (.dotRejected a.stripId a.site width)
      (handOnSettled l a.arrival (changeSite l a.arrival a.site .badDot s'))

/-- R63 to R66: a pulse has completed with this width: bound, it is judged; unbound, it is an orphan. -/
def completePulse (l : Lane) (width : Nat) (bound : Bool) (s : State) : State :=
  match bound, (s.gate l).assignment with
  | true, some a => judgeDot l a width s
  | _, _ => countOrphan l s

/-- R63: the gate input becomes active: a sample had found it inactive, so the gate ready flag is set and a measurement
starts. While RESET is asserted only the pin moves (R71). -/
def gateRises (l : Lane) (s : State) : State :=
  let g := s.gate l
  if g.gateActive then s
  else if s.resetAsserted then s.setGate l { g with gateActive := true }
  else s.setGate l { g.sample with gateActive := true, measurement := .started }

/-- MEASUREMENT_START (R63). -/
def execMeasurementStart (l : Lane) (s : State) : Result := .next (gateRises l s)

/-- R63, R64: the width reaches 1: a pulse is in progress, bound where the lane has an assignment. -/
def pulseBegins (l : Lane) (s : State) : State :=
  match (s.gate l).measurement with
  | .started => s.setGate l { s.gate l with measurement := .inProgress 1 (s.gate l).assignment.isSome }
  | _ => s

/-- PULSE_IN_PROGRESS (R63, R64). -/
def execPulseInProgress (l : Lane) (s : State) : Result := whenLive (pulseBegins l) s

/-- The binding of the pulse that completes (R64): the one taken when it came into progress. A pulse whose coming into
progress no command told takes it at its completion (log entry 6). -/
def GateMonitor.pulseBinding (g : GateMonitor) : Option Bool :=
  match g.measurement with
  | .idle => none
  | .started => some g.assignment.isSome
  | .inProgress _ bound => some bound

/-- R63, item 5: the pulse completes at saturation; the gate ready flag stays clear until the gate is seen inactive. -/
def pulseSaturates (l : Lane) (s : State) : State :=
  match (s.gate l).pulseBinding with
  | some bound =>
    completePulse l Config.saturatedWidth bound (s.setGate l { s.gate l with measurement := .idle, ready := false })
  | none => s

/-- PULSE_SATURATION (R63). -/
def execPulseSaturation (l : Lane) (s : State) : Result := whenLive (pulseSaturates l) s

/-- The width with which a falling edge ends a measurement: the whole µs counted, at least those already told. -/
def Measurement.widthAt (m : Measurement) (width : Nat) : Nat :=
  match m with
  | .inProgress w _ => max w width
  | _ => width

/-- R63: the gate input falls inactive: a pulse in progress completes with the width counted, an activity of width 0 is
ignored, and the edge is a sample that sets the gate ready flag. While RESET is asserted only the pin moves (R71). -/
def gateFalls (l : Lane) (width : Nat) (s : State) : State :=
  let g := s.gate l
  if !g.gateActive then s
  else if s.resetAsserted then s.setGate l { g with gateActive := false }
  else
    let s' := s.setGate l { g with gateActive := false, measurement := .idle, ready := true }
    match g.pulseBinding with
    | some bound => if g.measurement.widthAt width = 0 then s' else completePulse l (g.measurement.widthAt width) bound s'
    | none => s'

/-- GATE_FALLING_EDGE (R63). -/
def execGateFallingEdge (l : Lane) (width : Half) (s : State) : Result := .next (gateFalls l width.toNat s)

/-! ## RESET -/

/-- R138: every block at its reset values, held there; the input pins keep their levels, and the sampled strap holds until
the release samples it again (R24). -/
def holdReset (s : State) : State :=
  { State.reset with
    resetAsserted := true
    dualLane := s.dualLane
    gates := ⟨.blank s.gates.a.gateActive, .blank s.gates.b.gateActive⟩
    ports := tabulate (fun p => { selLow := s.ports[p].selLow, link := .idle })
    pending := s.pending }

/-- RESET_ASSERT (R138). -/
def execResetAssert (s : State) : Result := .next (holdReset s)

/-- R138, R159: the strap is sampled, each gate input is sampled, and each port is in IDLE, or in DRAINING where its SEL is
low. Without effect where RESET is not asserted (R24). -/
def releaseReset (dual : Bool) (s : State) : State :=
  if !s.resetAsserted then s
  else
    { s with
      resetAsserted := false
      dualLane := dual
      gates := ⟨s.gates.a.sample, s.gates.b.sample⟩
      ports := tabulate (fun p =>
        { selLow := s.ports[p].selLow, link := if s.ports[p].selLow then .draining else .idle }) }

/-- RESET_RELEASE (R138, R159). -/
def execResetRelease (dual : Bool) (s : State) : Result := .next (releaseReset dual s)

end Sys2Proof.Machine
end

