-- ==== Sys2Proof/Machine/Dispatch.lean ====
section
/-! DEFINITION. Dispatch.lean: the meaning of each command, one arm per row of spec/opcode_table.json. -/

namespace Sys2Proof.Machine

open Sys2Proof

def exec (i : Instr) (s : State) : Host.Outcome State Fault Refusal :=
  match i with
  | .ident p body => Sys2Proof.Machine.execIdent p body s
  | .clockRead p body => Sys2Proof.Machine.execClockRead p body s
  | .noticeTake p body => Sys2Proof.Machine.execNoticeTake p body s
  | .noticeEnd p body => Sys2Proof.Machine.execNoticeEnd p body s
  | .noticeMask p body => Sys2Proof.Machine.execNoticeMask p body s
  | .pause p body => Sys2Proof.Machine.execPause p body s
  | .role p body => Sys2Proof.Machine.execRole p body s
  | .product p body => Sys2Proof.Machine.execProduct p body s
  | .lane p body => Sys2Proof.Machine.execLane p body s
  | .reach p body => Sys2Proof.Machine.execReach p body s
  | .start p body => Sys2Proof.Machine.execStart p body s
  | .resume p body => Sys2Proof.Machine.execResume p body s
  | .lineEnd p body => Sys2Proof.Machine.execLineEnd p body s
  | .clear p body => Sys2Proof.Machine.execClear p body s
  | .lineStatus p body => Sys2Proof.Machine.execLineStatus p body s
  | .mapOpen p body => Sys2Proof.Machine.execMapOpen p body s
  | .mapRows p body => Sys2Proof.Machine.execMapRows p body s
  | .mapClose p body => Sys2Proof.Machine.execMapClose p body s
  | .mapAbort p body => Sys2Proof.Machine.execMapAbort p body s
  | .dieMark p body => Sys2Proof.Machine.execDieMark p body s
  | .traceRead p body => Sys2Proof.Machine.execTraceRead p body s
  | .traceLevel p body => Sys2Proof.Machine.execTraceLevel p body s
  | .pair p body => Sys2Proof.Machine.execPair p body s
  | .picked p body => Sys2Proof.Machine.execPicked p body s
  | .bonded p body => Sys2Proof.Machine.execBonded p body s
  | .pickFail p body => Sys2Proof.Machine.execPickFail p body s
  | .discard p body => Sys2Proof.Machine.execDiscard p body s
  | .dot p body => Sys2Proof.Machine.execDot p body s
  | .dotAbort p body => Sys2Proof.Machine.execDotAbort p body s
  | .stripIn p body => Sys2Proof.Machine.execStripIn p body s
  | .stripOut p body => Sys2Proof.Machine.execStripOut p body s
  | .waferIn p body => Sys2Proof.Machine.execWaferIn p body s
  | .waferOut p body => Sys2Proof.Machine.execWaferOut p body s
  | .unknownKindFrame p kind body => Sys2Proof.Machine.execUnknownKindFrame p kind body s
  | .formatAtHeader p kind declared => Sys2Proof.Machine.execFormatAtHeader p kind declared s
  | .selFall p => Sys2Proof.Machine.execSelFall p s
  | .selRise p => Sys2Proof.Machine.execSelRise p s
  | .frameIdleExpiry p => Sys2Proof.Machine.execFrameIdleExpiry p s
  | .resetAssert => Sys2Proof.Machine.execResetAssert s
  | .resetRelease dual => Sys2Proof.Machine.execResetRelease dual s
  | .clockTick => Sys2Proof.Machine.execClockTick s
  | .leaseExpiry t => Sys2Proof.Machine.execLeaseExpiry t s
  | .dotDeadlineExpiry l => Sys2Proof.Machine.execDotDeadlineExpiry l s
  | .pairWaitExpiry p => Sys2Proof.Machine.execPairWaitExpiry p s
  | .dotWaitExpiry l => Sys2Proof.Machine.execDotWaitExpiry l s
  | .measurementStart l => Sys2Proof.Machine.execMeasurementStart l s
  | .pulseInProgress l => Sys2Proof.Machine.execPulseInProgress l s
  | .pulseSaturation l => Sys2Proof.Machine.execPulseSaturation l s
  | .gateFallingEdge l width => Sys2Proof.Machine.execGateFallingEdge l width s
  | .sclkRisingEdge p sdi => Sys2Proof.Machine.execSclkRisingEdge p sdi s

end Sys2Proof.Machine
end

