-- ==== Sys2Proof/Safety.lean ====
section
/-! DEFINITION. Safety.lean: the laws of the device, as the manual states them block by block, over one state, and the parts
of a state by which a claim says what a command leaves alone. -/

namespace Sys2Proof.Safety

open Sys2Proof Sys2Proof.Machine

/-! ## The parts of the state -/

/-- The parts of `State` by which frames are stated, the queue of commands apart. -/
inductive Part where
  | reset | clock | sweep | visit | strap | line | roles | products | banks | lanes | gates | pairings | lastTicket | ring | reach
  | lastPick | waitList | trace | notices | ports
  deriving DecidableEq, Repr

/-- A part is the same in two states. -/
def Part.same : Part → State → State → Prop
  | .reset, s, t => t.resetAsserted = s.resetAsserted
  | .clock, s, t => t.clock = s.clock
  | .sweep, s, t => t.sweepPos = s.sweepPos
  | .visit, s, t => t.visitOwed = s.visitOwed
  | .strap, s, t => t.dualLane = s.dualLane
  | .line, s, t => t.line = s.line
  | .roles, s, t => t.roles = s.roles
  | .products, s, t => t.products = s.products
  | .banks, s, t => t.banks = s.banks
  | .lanes, s, t => t.lanes = s.lanes
  | .gates, s, t => t.gates = s.gates
  | .pairings, s, t => t.pairings = s.pairings
  | .lastTicket, s, t => t.lastTicket = s.lastTicket
  | .ring, s, t => t.ring = s.ring
  | .reach, s, t => t.reach = s.reach
  | .lastPick, s, t => t.lastPick = s.lastPick
  | .waitList, s, t => t.waitList = s.waitList
  | .trace, s, t => t.trace = s.trace
  | .notices, s, t => t.notices = s.notices
  | .ports, s, t => t.ports = s.ports

/-- The parts, in the order of their declaration. -/
def Part.list : List Part :=
  [.reset, .clock, .sweep, .visit, .strap, .line, .roles, .products, .banks, .lanes, .gates, .pairings, .lastTicket, .ring,
   .reach, .lastPick, .waitList, .trace, .notices, .ports]

/-- Nothing outside the named parts has changed, the queue of commands included. -/
def OnlyChanges (parts : List Part) (s t : State) : Prop :=
  t.pending = s.pending ∧ ∀ part ∈ Part.list, part ∉ parts → part.same s t

/-- The ports outside a list are as they were. -/
def PortsKept (moved : List Port) (s t : State) : Prop := ∀ q : Port, q ∉ moved → t.ports[q] = s.ports[q]

/-- The ports whose PAIR waits on the wait list. -/
def waitPorts (s : State) : List Port := s.waitList.map (fun e => e.port)

/-- The ports whose DOT a lane holds. -/
def dotPorts (s : State) : List Port :=
  (s.gates.a.waiter.map (fun w => w.port)).toList ++ (s.gates.b.waiter.map (fun w => w.port)).toList

/-- The lanes. -/
def bothLanes : List Lane := [.A, .B]

/-- The map banks. -/
def bothBanks : List BankId := [.b0, .b1]

/-- What an arbiter pass may change. -/
def passParts : List Part := [.banks, .lanes, .pairings, .lastTicket, .waitList, .trace, .notices, .ports]

/-- What the end of a pairing and the passes after it may change. -/
def endParts : List Part := .gates :: .ring :: passParts

/-! ## Requests -/

/-- A frame of the kind with this body completes on a port of a part that is not held in reset (R151). -/
def Arrives (k : Kind) (p : Port) (body : List Octet) (s : State) : Prop :=
  s.resetAsserted = false ∧ s.receives p (frameOctets k.code body) = true

/-- An arriving frame that passes the port's checks, so that its owner takes the request (R153). -/
def Taken (k : Kind) (p : Port) (body : List Octet) (s : State) : Prop :=
  Arrives k p body s ∧ lengthOk k body = true ∧ kindPermits k (s.role p) = true

/-- A port answers the request in its hand with a response of which nothing has been shifted out; its SEL level stands. -/
def AnsweredAt (p : Port) (k : Kind) (r : Response) (mark : Option GrantMark) (s t : State) : Prop :=
  t.ports[p] = { selLow := s.ports[p].selLow, link := .answering (some k) r 0 mark }

/-- A port answers, no other port moves, and of the rest of the state only the named parts change. -/
def AnswersWith (p : Port) (k : Kind) (r : Response) (parts : List Part) (s t : State) : Prop :=
  AnsweredAt p k r none s t ∧ PortsKept [p] s t ∧ OnlyChanges (.ports :: parts) s t

/-- The notice state of a port after a source has been raised there: without effect where its role does not own the source
(R141). -/
def afterRaise (x : Notice) (q : Port) (s : State) : NoticeState :=
  match (s.role q).rankOf x.source with
  | some k => (s.notice q).raise k x
  | none => s.notice q

/-- R154: the port holds a decided response that it has not handed over (log entry 30). -/
def inHandAt (p : Port) (s : State) : Bool :=
  match s.link p with
  | .decided _ _ _ => true
  | _ => false

/-- No port holds a decided response that it has not handed over. -/
abbrev NoneInHand (s : State) : Prop := ∀ p : Port, inHandAt p s = false

/-- The state with every decided response handed over: its port is in ANSWERING and has shifted nothing out (R154). -/
def handedOver (s : State) : State :=
  { s with ports := tabulate (fun p =>
      { s.ports[p] with link := match s.link p with
          | .decided k r mark => .answering k r 0 mark
          | other => other }) }

/-- The state with the response that a port has just been handed back in the port's hand (log entry 30). -/
def inHand (p : Port) (s : State) : State :=
  match s.link p with
  | .answering k r 0 mark => s.setLink p (.decided k r mark)
  | _ => s

/-- The command of a completed frame of a known kind. -/
def requestOf (k : Kind) (p : Port) (body : List Octet) : Instr :=
  match k with
  | .ident => .ident p body
  | .clockRead => .clockRead p body
  | .noticeTake => .noticeTake p body
  | .noticeEnd => .noticeEnd p body
  | .noticeMask => .noticeMask p body
  | .pause => .pause p body
  | .role => .role p body
  | .product => .product p body
  | .lane => .lane p body
  | .reach => .reach p body
  | .start => .start p body
  | .resume => .resume p body
  | .lineEnd => .lineEnd p body
  | .clear => .clear p body
  | .lineStatus => .lineStatus p body
  | .mapOpen => .mapOpen p body
  | .mapRows => .mapRows p body
  | .mapClose => .mapClose p body
  | .mapAbort => .mapAbort p body
  | .dieMark => .dieMark p body
  | .traceRead => .traceRead p body
  | .traceLevel => .traceLevel p body
  | .pair => .pair p body
  | .picked => .picked p body
  | .bonded => .bonded p body
  | .pickFail => .pickFail p body
  | .discard => .discard p body
  | .dot => .dot p body
  | .dotAbort => .dotAbort p body
  | .stripIn => .stripIn p body
  | .stripOut => .stripOut p body
  | .waferIn => .waferIn p body
  | .waferOut => .waferOut p body

/-- The command of a completed frame of any kind octet (R153). -/
def commandOf (kind : Octet) (p : Port) (body : List Octet) : Instr :=
  match kindOfCode kind with
  | some k => requestOf k p body
  | none => .unknownKindFrame p kind body

/-- Run commands one after the other. -/
def execAll : List Instr → State → Result
  | [], s => .next s
  | c :: rest, s =>
    match exec c s with
    | .next t => execAll rest t
    | .fault f => .fault f
    | .refused r => .refused r

/-- The SCLK edges that shift octets in at a port, most significant bit first (R161). -/
def edgesOf (p : Port) (octets : List Octet) : List Instr :=
  (octets.flatMap octetBits).map (fun b => .sclkRisingEdge p b)

/-- A lane octet names a lane of this part (R24). -/
def NamesLane (o : Octet) (s : State) (l : Lane) : Prop := o = laneCode l ∧ (l = .B → s.dualLane = true)

/-- R131: LINE_STATE has been raised at every port of S1 to S7. -/
def LineStateRaised (c : LineCause) (st : LineState) (s t : State) : Prop :=
  ∀ q : Port, t.notice q = if q = 0 then s.notice q else afterRaise (.lineState c st) q s

/-- The command has no effect. -/
def NoEffect (c : Instr) (s : State) : Prop := exec c s = .next s

/-! ## Time -/

/-- No timer is due at the present reading. -/
def NoTimerDue (s : State) : Prop :=
  (∀ p : Port, ∀ octets bits start, s.link p = .receiving octets bits start → elapsed start s.clock < Config.frameIdleTicks) ∧
    (∀ e ∈ s.waitList, elapsed e.start s.clock < e.length) ∧
    (∀ l ∈ bothLanes, ∀ w ∈ (s.gate l).waiter, elapsed w.start s.clock < w.length) ∧
    (∀ l ∈ bothLanes, ∀ a ∈ (s.gate l).assignment, a.deadlineRuns = true → Config.halfRange ≤ elapsed a.deadline s.clock) ∧
    ∀ pr ∈ s.pairings, elapsed pr.leaseStart s.clock < pr.leaseLength

/-- The commands of every expiry that can be due, in the order in which a tick takes those that have not come (log entry
16). -/
def dueCommands (s : State) : List Instr :=
  allPorts.map Instr.frameIdleExpiry ++ allPorts.map Instr.pairWaitExpiry ++
    [.dotWaitExpiry .A, .dotWaitExpiry .B, .dotDeadlineExpiry .A, .dotDeadlineExpiry .B] ++
    s.pairings.map (fun pr => .leaseExpiry pr.ticket)

/-- R46: every WETTED or PAIRED site has an age below 36,000,000 + 1,200,000 + 512 ticks. -/
def AgesBounded (s : State) : Prop :=
  ∀ l ∈ bothLanes, ∀ st ∈ (s.lane l).strips, ∀ x ∈ st.sites,
    match x with
    | .wetted w | .paired w _ => elapsed w s.clock < 37200512
    | _ => True

/-! ## Ends of pairings -/

/-- The ended-ticket ring gains an entry at its newest end and keeps the newest 16 (R91). -/
def RingGains (e : RingEntry) (s t : State) : Prop :=
  t.ring = (s.ring ++ [e]).drop (s.ring.length + 1 - Config.ringSize)

/-- The trace gains a record at its newest end, under the next sequence number (R118). -/
def TraceGains (r : TraceRecord) (s t : State) : Prop :=
  t.trace.records = s.trace.records ++ [r] ∧ r.seq = s.trace.nextSeq ∧ t.trace.nextSeq = s.trace.nextSeq + 1

/-- The records and the sequence number of the trace are as they were. -/
def TraceKept (s t : State) : Prop := t.trace.records = s.trace.records ∧ t.trace.nextSeq = s.trace.nextSeq

/-- R2: the bank is EMPTY with every header field 0; its die records are left open here (log entry 17). -/
def Emptied (b : MapBank) : Prop := { b with dies := [] } = MapBank.blank

/-- The die of an ended pairing is as the end left it, or claimed again from AVAILABLE by a pass of the same event, or gone
with its RETIRING bank, of which this was the last pairing (R14). -/
def DieLeft (pr : Pairing) (r : DieRecord) (s t : State) : Prop :=
  if (s.bank pr.bank).state = .retiring ∧ (s.bank pr.bank).refs = 1 then Emptied (t.bank pr.bank)
  else
    dieAt (t.bank pr.bank).dies (pr.dieIndex s) = r ∨
      (r.state = .available ∧ (s.bank pr.bank).state = .active ∧
        dieAt (t.bank pr.bank).dies (pr.dieIndex s) = r.to .claimed)

/-- The site of an ended pairing is WETTED with its wet time kept, or paired again by a pass of the same event. -/
def SiteWetAgain (pr : Pairing) (s t : State) : Prop :=
  match t.site pr.lane pr.arrival pr.site with
  | some (.wetted w) => w = pr.wetTime s
  | some (.paired w k) => w = pr.wetTime s ∧ k ≠ pr.ticket
  | _ => False

/-- R60: the DOT that a lane holds has been re-examined while the lane had these strips and this wet-ahead count. Below the
wet-ahead limit it is granted the lowest-indexed EMPTY site of the oldest strip that has one (R57, R58), and it stays held at
the limit and where no strip has one. -/
def DotServed (l : Lane) (strips : List Strip) (wet : Nat) (s t : State) : Prop :=
  ∀ w ∈ (s.gate l).waiter,
    ((s.lane l).wetLimit ≤ wet ∨ (∀ st ∈ strips, Site.empty ∉ st.sites) →
      t.gates = s.gates ∧ (t.lane l).wetAhead = wet ∧ t.ports[w.port] = s.ports[w.port]) ∧
    (wet < (s.lane l).wetLimit →
      ∀ (older newer : List Strip) (st : Strip) (i : Nat), strips = older ++ st :: newer →
        (∀ x ∈ older, Site.empty ∉ x.sites) → st.sites[i]? = some .empty → (∀ j < i, st.sites[j]? ≠ some .empty) →
        let a : Assignment :=
          { slot := st.slot, arrival := st.arrival, stripId := st.id, site := i
            deadline := s.clock + BitVec.ofNat 32 (10 * (s.lane l).dotDeadlineMs), deadlineRuns := true }
        AnsweredAt w.port .dot
            (okResp (laneCode l :: (be32 st.id ++ oct i :: (nat16 (s.product st.product).dotMin ++
              nat16 (s.product st.product).dotMax)))) (some (.dot l a.slot a.arrival a.stripId a.site a.deadline)) s t ∧
          t.gates = s.gates.set l { s.gate l with waiter := none, assignment := some a } ∧
          t.site l st.arrival i = some .dispensing ∧ (t.lane l).wetAhead = wet + 1)

/-- R30, R60: one site of the lane has settled, which lowers its wet-ahead count by 1, and the DOT that the lane holds has been
re-examined. -/
def DotReexamined (l : Lane) (s t : State) : Prop :=
  ((s.gate l).waiter = none → t.gates = s.gates ∧ (t.lane l).wetAhead = (s.lane l).wetAhead - 1) ∧
    DotServed l (s.lane l).strips ((s.lane l).wetAhead - 1) s t

/-- R33, R34: one site of a strip has settled, and STRIP_SETTLED has been raised to the INDEXER port exactly where that settled
the oldest strip of its lane. -/
def SettlementAnnounced (l : Lane) (arrival : BitVec 32) (s t : State) : Prop :=
  ∀ q : Port, s.role q = .indexer → t.notice q =
    if (s.lane l).strips.head?.map (fun st => (st.arrival, st.unsettled)) = some (arrival, 1) then
      afterRaise (.stripSettled (t.oldestSettled .A) (t.oldestSettled .B)) q s else s.notice q

/-- R85: the corner of a reach record before it is clipped: that of window 1 where it is enabled, else that of window 2 where it
is enabled, else (0, 0). -/
def cornerOf (r : Reach) : Pos :=
  if r.w1.enabled = true then { col := r.w1.colLo, row := r.w1.rowLo }
  else if r.w2.enabled = true then { col := r.w2.colLo, row := r.w2.rowLo }
  else { col := 0, row := 0 }

/-- R85: a corner clipped to the map of a bank. -/
def clippedTo (b : MapBank) (q : Pos) : Pos := { col := min q.col (b.cols - 1), row := min q.row (b.rows - 1) }

/-- The trace record of a pairing that ends in PICKED (R119, Table 8-2). -/
def endRecord (pr : Pairing) (kind : TraceKind) (pickTime : Reading) (s : State) : TraceRecord where
  seq := s.trace.nextSeq
  kind := kind
  port := pr.port
  ticket := pr.ticket
  lane := pr.lane
  stripId := pr.stripId
  site := pr.site
  waferId := pr.waferId
  col := pr.col
  row := pr.row
  grade := pr.grade
  grantTime := pr.grantTime
  pickTime := pickTime
  endTime := s.clock

/-! ## Laws of the device -/

/-- R49: the position held at a reading is the reading modulo 512. -/
abbrev SweepFollowsClock (s : State) : Prop := s.sweepPos.toNat = s.clock.toNat % 512

/-- R24: lane B of a single-lane part holds no strip, and no lane holds one while the RESET pin is asserted. -/
abbrev SingleLaneLaw (s : State) : Prop :=
  (s.dualLane = false → s.lanes.b.strips = []) ∧ (s.resetAsserted = true → s.lanes.a.strips = [] ∧ s.lanes.b.strips = [])

/-- How many ports hold a role. -/
def roleCount (s : State) (r : Role) : Nat := (allPorts.filter (fun p => s.role p == r)).length

/-- R134: S0 alone is SUPERVISOR, at most 4 ports hold HEAD, and at most one holds each other assignable role. -/
abbrev RoleLaw (s : State) : Prop :=
  s.role 0 = .supervisor ∧ roleCount s .supervisor = 1 ∧ roleCount s .head ≤ Config.maxHeads ∧
    roleCount s .indexer ≤ 1 ∧ roleCount s .wafer ≤ 1 ∧ roleCount s (.dispenser .A) ≤ 1 ∧ roleCount s (.dispenser .B) ≤ 1

/-! ### Ranges of what is kept -/

/-- R21: every defined product entry has its fields in range. -/
abbrev ProductLaw (s : State) : Prop := ∀ c : ProductCode, ∀ pr ∈ s.products[c], pr.inRange = true

/-- Table 2-2, R25: a lane's parameters lie in their ranges, and at most 4 strips are queued. -/
abbrev LaneRangeLaw (t : LaneTable) : Prop :=
  1 ≤ t.wetLimit ∧ t.wetLimit ≤ 16 ∧ 100 ≤ t.dotDeadlineMs ∧ t.dotDeadlineMs ≤ 10000 ∧ t.strips.length ≤ Config.maxStrips

/-- Tables 2-1, 2-2, 4-1, 8-1, 9-3 and R91: what the part keeps lies in its range. -/
structure RangeInv (s : State) : Prop where
  products : ProductLaw s
  laneA : LaneRangeLaw s.lanes.a
  laneB : LaneRangeLaw s.lanes.b
  levels : ∀ p : Port, s.roles[p].level ≤ 3
  threshold : 1 ≤ s.trace.threshold ∧ s.trace.threshold ≤ Config.traceCapacity
  orphansA : s.gates.a.orphans ≤ Config.maxOctetCount
  orphansB : s.gates.b.orphans ≤ Config.maxOctetCount
  ring : s.ring.length ≤ Config.ringSize

/-! ### Ports and held requests -/

/-- Table 11-3: SEL is high in IDLE and low in every other link state; while RESET is asserted every port is IDLE. -/
abbrev LinkLaw (s : State) : Prop :=
  ∀ p : Port, (s.resetAsserted = false → (s.ports[p].selLow = false ↔ s.link p = .idle)) ∧
    (s.resetAsserted = true → s.link p = .idle)

/-- R114: outside RUN the wait list and both dot waiters are empty. -/
abbrev WaitersOnlyInRun (s : State) : Prop :=
  s.line ≠ .run → s.waitList = [] ∧ s.gates.a.waiter = none ∧ s.gates.b.waiter = none

/-- R106: the wait list is in level order, with one entry for each of its ports, each of which holds HEAD and its PAIR. -/
abbrev WaitListLaw (s : State) : Prop :=
  s.waitList.Pairwise (fun a b => b.level ≤ a.level) ∧ (waitPorts s).Nodup ∧
    ∀ e ∈ s.waitList, s.role e.port = .head ∧ s.link e.port = .holding .pair

/-- R55, R59: the port of a lane's dot waiter holds the lane's dispenser role and its DOT. -/
abbrev DotWaiterLaw (s : State) : Prop :=
  ∀ l ∈ bothLanes, ∀ w ∈ (s.gate l).waiter, s.role w.port = .dispenser l ∧ s.link w.port = .holding .dot

/-- The laws of the ports and of the requests they hold. -/
structure LinkInv (s : State) : Prop where
  links : LinkLaw s
  onlyInRun : WaitersOnlyInRun s
  waitList : WaitListLaw s
  dotWaiters : DotWaiterLaw s

/-! ### The trace -/

/-- R120: one reservation for each pairing in flight, and the sum of level and reservations stays within the queue. -/
abbrev TraceRoomLaw (s : State) : Prop :=
  s.trace.reservations = s.pairings.length ∧ s.trace.records.length + s.trace.reservations ≤ Config.traceCapacity

/-- Each sequence number is followed by the next one, the last by `next`, modulo 2^32. -/
abbrev consecutive (records : List TraceRecord) (next : BitVec 32) : Prop :=
  ∀ e ∈ records.zipIdx, e.1.seq = next - BitVec.ofNat 32 (records.length - e.2)

/-- R118: the queued records carry consecutive sequence numbers, up to the next one to be given. -/
abbrev TraceOrderLaw (s : State) : Prop := consecutive s.trace.records s.trace.nextSeq

/-- The laws of the Trace Queue. -/
structure TraceInv (s : State) : Prop where
  room : TraceRoomLaw s
  order : TraceOrderLaw s

/-! ### The map banks -/

/-- R1: at most one bank is LOADING, and at most one is ACTIVE or RETIRING. -/
abbrev BankLaw (s : State) : Prop :=
  ¬ (s.banks.b0.state = .loading ∧ s.banks.b1.state = .loading) ∧ ¬ (s.banks.b0.onTable = true ∧ s.banks.b1.onTable = true)

/-- R2: the die table is in its canonical form and the AVAILABLE count is the number of AVAILABLE die; an EMPTY bank has
every header field 0. -/
abbrev DieCountLaw (b : MapBank) : Prop :=
  dieTableWf b.dies ∧ b.available = (b.dies.filter (fun e => e.2.isAvailable)).length ∧ (b.state = .empty → b = .blank)

/-- R1, R2, R14: a bank's pairing references are the pairings in flight on its die, each of them on an ACTIVE or RETIRING
bank, and a RETIRING bank has one. -/
abbrev BankRefLaw (s : State) : Prop :=
  (∀ b ∈ bothBanks, (s.bank b).refs = (s.pairings.filter (fun pr => pr.bank == b)).length ∧
    ((s.bank b).state = .retiring → 0 < (s.bank b).refs)) ∧
    ∀ pr ∈ s.pairings, (s.bank pr.bank).onTable = true

/-- The laws of the map banks. -/
structure MapInv (s : State) : Prop where
  states : BankLaw s
  die0 : DieCountLaw s.banks.b0
  die1 : DieCountLaw s.banks.b1
  references : BankRefLaw s

/-! ### The lanes -/

/-- The number of sites of a lane that count toward its wet-ahead count. -/
def wetSites (t : LaneTable) : Nat := (t.strips.map (fun st => countSites Site.countsWet st.sites)).sum

/-- R29, R31: the wet-ahead count and every unsettled count are the numbers they stand for. -/
abbrev SiteCountLaw (t : LaneTable) : Prop :=
  t.wetAhead = wetSites t ∧ ∀ st ∈ t.strips, st.unsettled = countSites (fun x => !x.settled) st.sites

/-- R25: the strips of a lane lie in distinct slots, each with its product's site count, with consecutive arrival numbers
that end just before the arrival counter. -/
abbrev StripQueueLaw (s : State) (t : LaneTable) : Prop :=
  t.strips.length ≤ Config.maxStrips ∧ (t.strips.map (fun st => st.slot)).Nodup ∧
    (∀ st ∈ t.strips, ∃ pr ∈ s.products[st.product], st.sites.length = pr.siteCount) ∧
    ∀ e ∈ t.strips.zipIdx, e.1.arrival = t.arrivalCounter - BitVec.ofNat 32 (t.strips.length - e.2)

/-- The bond fields of a settled site that holds a die. -/
def Site.bond : Site → Option BondFields
  | .bonded f | .late f | .misplaced f => some f
  | _ => none

/-- R97: a LATE site's age at bond has reached its product's open time, and no BONDED or MISPLACED site's has. -/
def bondAgeOk (pr : Product) : Site → Bool
  | .late f => pr.openTicks ≤ f.ageAtBond.toNat
  | .bonded f | .misplaced f => f.ageAtBond.toNat < pr.openTicks
  | _ => true

/-- R97: the law of the device for bond age. -/
abbrev BondAgeLaw (s : State) : Prop :=
  ∀ l ∈ bothLanes, ∀ st ∈ (s.lane l).strips, ∀ x ∈ st.sites, bondAgeOk (s.product st.product) x = true

/-! ### The notices -/

/-- R140: each pending source stands at the rank its port's role gives it, and ranks beyond the role's sources are neither
masked nor in service. -/
abbrev NoticeLaw (s : State) : Prop :=
  ∀ p : Port, ∀ k : RankIx,
    (∀ x ∈ (s.notice p).pending[k], (s.role p).sourceAt k = some x.source) ∧
    ((s.role p).sourceAt k = none → (s.notice p).mask[k] = false ∧ (s.notice p).inService[k] = false)

/-- R125, R143: TRACE_LEVEL is pending at S0, with the level as detail, exactly while the level is at or above the threshold
and the source is not in service. -/
abbrev TraceLevelLaw (s : State) : Prop :=
  s.role 0 = .supervisor ∧ (s.notice 0).pending[(2 : RankIx)] =
    if s.trace.threshold ≤ s.trace.records.length ∧ (s.notice 0).inService[(2 : RankIx)] = false then
      some (.traceLevel s.trace.records.length) else none

/-- The laws of the notices. -/
structure NoticeInv (s : State) : Prop where
  ranks : NoticeLaw s
  traceLevel : TraceLevelLaw s

/-! ### The dispensing assignments -/

/-- R55: a lane's assignment and its dot waiter never exist together. -/
abbrev AssignmentLaw (s : State) : Prop :=
  ∀ l ∈ bothLanes, (s.gate l).assignment.isSome = true → (s.gate l).waiter = none

/-- R64: a pulse is bound only while its lane has an assignment. -/
abbrev BoundLaw (s : State) : Prop :=
  ∀ l ∈ bothLanes, (s.gate l).measurement.isBound = true → (s.gate l).assignment.isSome = true

/-- R55: the assignment and the DISPENSING site of a lane go together. -/
abbrev DispensingLaw (s : State) : Prop :=
  ∀ l ∈ bothLanes,
    (∀ a ∈ (s.gate l).assignment, ∃ st ∈ (s.lane l).strips, st.arrival = a.arrival ∧ st.id = a.stripId ∧ st.slot = a.slot ∧
      st.sites[a.site]? = some .dispensing) ∧
    ∀ st ∈ (s.lane l).strips, ∀ e ∈ st.sites.zipIdx, e.1 = .dispensing →
      ∃ a ∈ (s.gate l).assignment, a.arrival = st.arrival ∧ a.site = e.2

/-- R57: the wet-ahead count never exceeds the limit. -/
abbrev WetLimitLaw (t : LaneTable) : Prop := t.wetAhead ≤ t.wetLimit

/-! ### The pairings -/

/-- R89: tickets in flight and tickets in the ring are distinct, and ticket 0 is never in flight. -/
abbrev TicketLaw (s : State) : Prop :=
  (s.pairings.map (fun pr => pr.ticket) ++ s.ring.map (fun e => e.ticket)).Nodup ∧ ∀ pr ∈ s.pairings, pr.ticket ≠ 0

/-- R73, R89: at most 2 pairings per port, fewer while the port's PAIR waits; a pairing's port holds HEAD, and in SETUP no
pairing is in flight. -/
abbrev HeadLaw (s : State) : Prop :=
  (∀ p : Port, s.pairingsOf p ≤ Config.maxPairingsPerHead) ∧
    (∀ e ∈ s.waitList, s.pairingsOf e.port < Config.maxPairingsPerHead) ∧
    (∀ pr ∈ s.pairings, s.role pr.port = .head) ∧ (s.line = .setup → s.pairings = [])

/-- The ticket under which a site is PAIRED. -/
def pairedUnder : Site → Option Ticket
  | .paired _ t => some t
  | _ => none

/-- R28: a site is PAIRED under a ticket exactly when the pairing in flight of that ticket names the site. -/
abbrev PairedSiteLaw (s : State) : Prop :=
  (∀ pr ∈ s.pairings, ∃ st ∈ (s.lane pr.lane).strips, st.arrival = pr.arrival ∧ st.id = pr.stripId ∧
      (st.sites[pr.site]?).bind pairedUnder = some pr.ticket) ∧
    ∀ l ∈ bothLanes, ∀ st ∈ (s.lane l).strips, ∀ e ∈ st.sites.zipIdx, ∀ t ∈ pairedUnder e.1,
      ∃ pr ∈ s.pairings, pr.ticket = t ∧ pr.lane = l ∧ pr.arrival = st.arrival ∧ pr.site = e.2

/-- R4: each pairing in flight references a die of its own, in the state of its phase, and a die is CLAIMED or PICKED only
where a pairing in flight references it. -/
abbrev PairedDieLaw (s : State) : Prop :=
  (∀ pr ∈ s.pairings, (s.bank pr.bank).waferId = pr.waferId ∧ (pr.dieRecord s).grade = pr.grade ∧
      (pr.dieRecord s).state = if pr.isPicked then .picked else .claimed) ∧
    s.pairings.Pairwise (fun a b => ¬ (a.bank = b.bank ∧ a.dieIndex s = b.dieIndex s)) ∧
    ∀ b ∈ bothBanks, ∀ e ∈ (s.bank b).dies, e.2.state = .claimed ∨ e.2.state = .picked →
      ∃ pr ∈ s.pairings, pr.bank = b ∧ pr.dieIndex s = e.1

/-- R81: the grade of a pairing's die is one its strip's product accepts. -/
abbrev PairingGradeLaw (s : State) : Prop :=
  ∀ pr ∈ s.pairings, (s.productOf pr.lane pr.arrival).gradeSet.getLsbD pr.grade.toNat = true

/-- R98: the law of the device for bonded grades. -/
abbrev BondGradeLaw (s : State) : Prop :=
  ∀ l ∈ bothLanes, ∀ st ∈ (s.lane l).strips, ∀ x ∈ st.sites, ∀ f ∈ Site.bond x,
    (s.product st.product).gradeSet.getLsbD f.grade.toNat = true

/-! ### Time -/

/-- R152: the frame idle timer of a receiving port has not run past its length. -/
def idleInTime (now : Reading) : Link → Bool
  | .receiving _ _ start => elapsed start now ≤ Config.frameIdleTicks
  | _ => true

/-- R92, R96: the lease of a pairing runs from its grant, and once picked from a pick time within the pick lease. -/
def leaseFollows (pr : Pairing) : Bool :=
  match pr.phase with
  | .claimed => pr.leaseStart == pr.grantTime
  | .picked pickTime => pr.leaseStart == pickTime && elapsed pr.grantTime pickTime ≤ Config.maxLeaseTicks

/-- The age of a WETTED site is below a bound. -/
def ageBelow (bound : Nat) (now : Reading) : Site → Bool
  | .wetted w => elapsed w now < bound
  | _ => true

/-- R45, R46: no timer has run past its length, and none is longer than the manual lets it be. -/
abbrev TimerLaw (s : State) : Prop :=
  (∀ p : Port, idleInTime s.clock (s.link p) = true) ∧
    (∀ e ∈ s.waitList, elapsed e.start s.clock ≤ e.length ∧ e.length ≤ 10 * Config.maxWaitMs) ∧
    (∀ l ∈ bothLanes, ∀ w ∈ (s.gate l).waiter, elapsed w.start s.clock ≤ w.length ∧ w.length ≤ 10 * Config.maxWaitMs) ∧
    (∀ l ∈ bothLanes, ∀ a ∈ (s.gate l).assignment, a.deadlineRuns = true → elapsed s.clock a.deadline ≤ 100000) ∧
    ∀ pr ∈ s.pairings, elapsed pr.leaseStart s.clock ≤ pr.leaseLength ∧ pr.leaseLength ≤ Config.maxLeaseTicks

/-- R46, R48, R92, R96: a pairing's site was eligible at its grant, and its leases have followed one on the other since. -/
abbrev PairTimeLaw (s : State) : Prop :=
  ∀ pr ∈ s.pairings, elapsed (pr.wetTime s) pr.grantTime < (pr.product s).openTicks ∧ leaseFollows pr = true

/-- The sweep position of a site (Table 3-4). -/
def positionOf (l : Lane) (slot : Fin 4) (site : Nat) : BitVec 9 :=
  BitVec.ofNat 9 ((match l with | .A => 0 | .B => 256) + 64 * slot.val + site)

/-- The ticks since the sweep last visited a position, up to 512 (R49). -/
def sinceVisit (s : State) (pos : BitVec 9) : Nat :=
  if s.visitOwed = true ∧ pos = s.sweepPos - 1 then 512 else (s.sweepPos - 1 - pos).toNat

/-- R46, R50: a WETTED site is past its open time by no more than a pairing and the ticks since the sweep last visited it. -/
abbrev AgeLaw (s : State) : Prop :=
  ∀ l ∈ bothLanes, ∀ st ∈ (s.lane l).strips, ∀ e ∈ st.sites.zipIdx,
    ageBelow ((s.product st.product).openTicks + 2 * Config.maxLeaseTicks + sinceVisit s (positionOf l st.slot e.2)) s.clock
      e.1 = true

/-- The laws of time. -/
structure TimeInv (s : State) : Prop where
  timers : TimerLaw s
  pairings : PairTimeLaw s
  ages : AgeLaw s

/-- All the laws of the device together. -/
structure DeviceInv (s : State) : Prop where
  sweep : SweepFollowsClock s
  singleLane : SingleLaneLaw s
  roles : RoleLaw s
  ranges : RangeInv s
  link : LinkInv s
  trace : TraceInv s
  map : MapInv s
  sitesA : SiteCountLaw s.lanes.a
  sitesB : SiteCountLaw s.lanes.b
  queueA : StripQueueLaw s s.lanes.a
  queueB : StripQueueLaw s s.lanes.b
  wetA : WetLimitLaw s.lanes.a
  wetB : WetLimitLaw s.lanes.b
  bondAge : BondAgeLaw s
  bondGrade : BondGradeLaw s
  notices : NoticeInv s
  assignments : AssignmentLaw s
  bound : BoundLaw s
  dispensing : DispensingLaw s
  tickets : TicketLaw s
  heads : HeadLaw s
  pairedSites : PairedSiteLaw s
  pairedDie : PairedDieLaw s
  pairingGrades : PairingGradeLaw s
  time : TimeInv s

/-! ### Waiting -/

/-- R110: no entry of the wait list can be served at this reading, so that a pass would grant nothing. -/
def Blocked (s : State) : Prop := (arbiterPass s).pairings = s.pairings

end Sys2Proof.Safety
end

