-- ==== Sys2Proof/Certificates/Slice0/Obligations.lean ====
section
/-! DEFINITION. Obligations.lean: the statements for the provers, each a formal reading of the manual's rules. A statement
about a command says in which state it completes, what it answers and what it leaves alone; the laws of the device stand in
Safety.lean, and each is kept by every step. -/

open Sys2Proof Sys2Proof.Machine Sys2Proof.Safety

/-! ## The queue and the steps -/

/-- A step runs the command at the front of the queue on the state with the queue's rest; on an empty queue the part idles
where it owes no sweep visit and has no decided response in hand. The queue, and what comes on an empty one, are the model's
own (log entries 1, 2, 28, 30). -/
def Obligations.StepTakesTheFront : Prop := ∀ (s : State),
  (∀ (c : Instr) (rest : List Instr), s.pending = c :: rest → step s = exec c { s with pending := rest }) ∧
    (s.pending = [] → s.visitOwed = false → NoneInHand s → step s = .next s)

/-- Every command that names an event of the part completes, in whatever state, and leaves the queue alone; a term that
names none is refused by name. That the manual stops nowhere is log entry 14. -/
def Obligations.EveryEventCompletes : Prop := ∀ (c : Instr) (s : State),
  (c.wellFormed = true → ∃ t, exec c s = .next t ∧ t.pending = s.pending) ∧
    (c.wellFormed = false → exec c s = .refused .notAnEvent)

/-! ## Reset -/

/-- R138: RESET_ASSERT brings every block to its reset values from any state; the input pins keep their levels, and the
sampled strap stands until the release. -/
def Obligations.ResetHoldsEveryBlock : Prop := ∀ (s : State),
  ∃ t, exec .resetAssert s = .next t ∧ t.resetAsserted = true ∧ t.dualLane = s.dualLane ∧ t.pending = s.pending ∧
    (∀ part ∈ Part.list, part ∉ [Part.reset, .strap, .gates, .ports] → part.same State.reset t) ∧
    (∀ l ∈ bothLanes, t.gate l =
      { assignment := none, measurement := .idle, ready := false, waiter := none, orphans := 0,
        gateActive := (s.gate l).gateActive }) ∧
    ∀ p : Port, t.ports[p] = { selLow := s.ports[p].selLow, link := .idle } ∧ t.rdy p = true ∧ t.attn p = false

/-- R138, R24, R159: at the release the strap is sampled, a gate seen inactive sets its ready flag, and each port is IDLE,
or DRAINING where its SEL is low. While RESET is asserted no other command does more than move an input pin (log entry 4).
That the release takes a gate sample is log entry 7. -/
def Obligations.ResetReleaseAndHold : Prop := ∀ (s : State), s.resetAsserted = true →
  (∀ dual : Bool, ∃ t, exec (.resetRelease dual) s = .next t ∧ OnlyChanges [.reset, .strap, .gates, .ports] s t ∧
    t.resetAsserted = false ∧ t.dualLane = dual ∧
    (∀ p : Port, t.ports[p] =
      { selLow := s.ports[p].selLow, link := if s.ports[p].selLow = true then .draining else .idle }) ∧
    ∀ l ∈ bothLanes, t.gate l = { s.gate l with ready := (s.gate l).ready || !(s.gate l).gateActive }) ∧
  ∀ c : Instr, c.wellFormed = true → c ≠ .resetAssert → (∀ dual : Bool, c ≠ .resetRelease dual) →
    ∃ t, exec c s = .next t ∧ OnlyChanges [.gates, .ports] s t ∧ (∀ p : Port, t.link p = s.link p) ∧
      ∀ l ∈ bothLanes, t.gate l = { s.gate l with gateActive := (t.gate l).gateActive }

/-- Table 9-4: what State.reset holds, and R128, R134: SETUP, S0 SUPERVISOR and S1 to S7 NONE at level 0. The
levels of the gate inputs, and so the ports in IDLE, are the model's choice (log entry 3). The header and the die records of an
EMPTY bank stand in the form of log entry 17, and that no visit is owed is log entry 28. -/
def Obligations.ResetValues : Prop :=
  State.reset.line = .setup ∧ State.reset.clock = 0 ∧ State.reset.sweepPos = 0 ∧ State.reset.visitOwed = false ∧
    (∀ p : Port, State.reset.roles[p] = { role := if p = 0 then .supervisor else .unassigned, level := 0 }) ∧
    (∀ c : ProductCode, State.reset.products[c] = none) ∧
    (∀ b ∈ bothBanks, State.reset.bank b =
        { state := .empty, waferId := 0, cols := 0, rows := 0, colPitch := 0, rowPitch := 0, received := 0, check := 0
          available := 0, refs := 0, dies := [] } ∧
      ∀ i : Nat, dieAt (State.reset.bank b).dies i = { grade := 15, state := .absent, retry := 0 }) ∧
    (∀ l ∈ bothLanes, State.reset.lane l =
      { strips := [], arrivalCounter := 0, wetAhead := 0, wetLimit := 4, dotDeadlineMs := 2000 }) ∧
    (∀ l ∈ bothLanes, State.reset.gate l =
      { assignment := none, measurement := .idle, ready := false, waiter := none, orphans := 0, gateActive := false }) ∧
    State.reset.pairings = [] ∧ State.reset.ring = [] ∧ State.reset.lastTicket = 0 ∧ State.reset.waitList = [] ∧
    (∀ p : Port, State.reset.reach[p] =
        { w1 := { enabled := false, colLo := 0, colHi := 0, rowLo := 0, rowHi := 0 }
          w2 := { enabled := false, colLo := 0, colHi := 0, rowLo := 0, rowHi := 0 }, laneA := true, laneB := true } ∧
      State.reset.lastPick[p] = { col := 0, row := 0 }) ∧
    State.reset.trace = { records := [], nextSeq := 0, reservations := 0, threshold := 256 } ∧
    ∀ p : Port, (∀ k : RankIx, State.reset.notices[p].pending[k] = none ∧ State.reset.notices[p].mask[k] = false ∧
        State.reset.notices[p].inService[k] = false) ∧
      State.reset.link p = .idle ∧ State.reset.attn p = false

/-- The laws of the device hold right after reset, with the pins as log entry 3 chooses them. -/
def Obligations.ResetMeetsTheLaws : Prop := DeviceInv State.reset ∧ Blocked State.reset

/-! ## The link of a port -/

/-- R151, R152: a fall of SEL in IDLE opens an empty partial frame whose idle timer runs from the fall; 200 ticks after the
last restart the expiry discards it, the port drains, and before that no expiry is taken. That an expiry
is a command, without effect where it is not due, is the model's choice (log entries 4, 16). -/
def Obligations.FrameOpensAndTimesOut : Prop := ∀ (p : Port) (s : State), s.resetAsserted = false →
  (s.ports[p] = { selLow := false, link := .idle } →
    ∃ t, exec (.selFall p) s = .next t ∧ OnlyChanges [.ports] s t ∧ PortsKept [p] s t ∧
      t.ports[p] = { selLow := true, link := .receiving [] [] s.clock }) ∧
  (∀ octets bits start, s.link p = .receiving octets bits start →
    (200 ≤ elapsed start s.clock →
      ∃ t, exec (.frameIdleExpiry p) s = .next t ∧ OnlyChanges [.ports] s t ∧ PortsKept [p] s t ∧
        t.ports[p] = { selLow := s.ports[p].selLow, link := .draining }) ∧
    (elapsed start s.clock < 200 → NoEffect (.frameIdleExpiry p) s)) ∧
  ((∀ octets bits start, s.link p ≠ .receiving octets bits start) → NoEffect (.frameIdleExpiry p) s)

/-- R151, R155: an SCLK edge is ignored in IDLE, HOLDING and DRAINING; HOLDING has a form in which the response is decided and
in the port's hand (log entry 30). In RECEIVING it samples a bit and restarts the idle
timer, every eighth bit making an octet, most significant bit first. In ANSWERING it shifts out the next bit of the status,
the length and the body, and 0 after the last. -/
def Obligations.ClockEdges : Prop := ∀ (p : Port) (sdi : Bool) (s : State), s.resetAsserted = false →
  (s.link p = .idle ∨ s.link p = .draining ∨ (∃ k ∈ Kind.list, s.link p = .holding k) ∨ inHandAt p s = true →
    NoEffect (.sclkRisingEdge p sdi) s) ∧
  (∀ octets bits start, s.link p = .receiving octets bits start → bits.length < 7 →
    ∃ t, exec (.sclkRisingEdge p sdi) s = .next t ∧ OnlyChanges [.ports] s t ∧ PortsKept [p] s t ∧
      t.ports[p] = { selLow := s.ports[p].selLow, link := .receiving octets (bits ++ [sdi]) s.clock }) ∧
  (∀ octets bits start (o : Octet), s.link p = .receiving octets bits start → octetBits o = bits ++ [sdi] →
    (octets.length < 2 ∨ ((u16 (octets ++ [o]) 1).toNat ≤ 512 ∧ octets.length < 2 + (u16 (octets ++ [o]) 1).toNat)) →
    ∃ t, exec (.sclkRisingEdge p sdi) s = .next t ∧ OnlyChanges [.ports] s t ∧ PortsKept [p] s t ∧
      t.ports[p] = { selLow := s.ports[p].selLow, link := .receiving (octets ++ [o]) [] s.clock }) ∧
  ∀ k r n mark, s.link p = .answering k r n mark →
    ∃ t, exec (.sclkRisingEdge p sdi) s = .next t ∧ OnlyChanges [.ports] s t ∧ PortsKept [p] s t ∧
      t.ports[p] = { selLow := s.ports[p].selLow, link := .answering k r (n + 1) mark } ∧
      t.sdo p = some (((r.status.code :: (nat16 r.body.length ++ r.body)).flatMap octetBits).getD n false)

/-- R151, R161: shifting a whole frame in, bit by bit, has the effect of the command of the frame's row, but that a response it
decides is still in the port's hand; and a header that declares more than 512 octets is the command FORMAT_AT_HEADER at its
third octet. Bits in excess of the frame have no effect. R154: a step on an empty queue first hands over what is in hand. When
the hand-over comes is the model's choice, for the row and for the bits (log entries 5, 30). -/
def Obligations.SerialReceptionIsTheFramesRow : Prop := ∀ (s : State), s.resetAsserted = false →
  (∀ (p : Port) (start : Reading), s.link p = .receiving [] [] start →
    let decidedBy := fun (octets : List Octet) (c : Instr) => ∃ t, exec c s = .next t ∧
      ∀ excess : List Bool,
        execAll (edgesOf p octets ++ excess.map (fun b => .sclkRisingEdge p b)) s = .next (inHand p t)
    (∀ (kind : Octet) (body : List Octet), body.length ≤ 512 →
      decidedBy (kind :: (nat16 body.length ++ body)) (commandOf kind p body)) ∧
    ∀ (kind : Octet) (declared : Half), 512 < declared.toNat →
      decidedBy (kind :: be16 declared) (.formatAtHeader p kind declared)) ∧
  (s.pending = [] → step s = step (handedOver s) ∧ NoneInHand (handedOver s) ∧
    (s.visitOwed = false → step s = .next (handedOver s)))

/-- R153, R163: a frame of unknown kind, a header above 512, and a frame whose body length or count octet is not one its
kind allows are answered FORMAT with the kind octet; a frame whose kind the port's role may not send is answered ROLE with
the port's role code. No owner is reached and nothing else changes. The lengths are those of Table 12-4 and the permitted
roles those of Table 11-4, both spelled out. A request command whose frame the port is not receiving is no event (log entry
4). -/
def Obligations.MalformedAndForbiddenFrames : Prop := ∀ (p : Port) (body : List Octet) (s : State),
  s.resetAsserted = false → body.length ≤ 512 →
  let fixedLengths : List (Nat × List Kind) :=
    [(0, [.ident, .clockRead, .noticeTake, .noticeEnd, .pause, .start, .resume, .lineEnd, .clear, .lineStatus, .mapAbort,
          .dotAbort, .waferOut]),
     (1, [.noticeMask, .traceRead, .picked, .discard, .stripOut]), (2, [.dot, .traceLevel, .pickFail]),
     (3, [.role, .pair]), (4, [.lane, .mapClose, .dieMark, .waferIn]), (5, [.bonded]), (12, [.mapOpen, .reach]),
     (20, [.product])]
  let countedList := fun (count low fixed : Nat) => low ≤ count ∧ count ≤ 64 ∧ body.length = fixed + count
  (∀ k ∈ Kind.list, lengthOk k body = true ↔
    (∃ row ∈ fixedLengths, k ∈ row.2 ∧ body.length = row.1) ∨
      (k = .mapRows ∧ countedList (u8 body 2).toNat 1 3) ∨ (k = .stripIn ∧ countedList (u8 body 6).toNat 0 7)) ∧
  (∀ k ∈ Kind.list, ∀ r : Role, kindPermits k r = true ↔
    k ∈ [Kind.ident, .clockRead, .noticeTake, .noticeEnd, .noticeMask] ∨ (k = .pause ∧ r ≠ .unassigned) ∨
    (k ∈ [Kind.role, .product, .lane, .reach, .start, .resume, .lineEnd, .clear, .lineStatus, .mapOpen, .mapRows, .mapClose,
        .mapAbort, .dieMark, .traceRead, .traceLevel] ∧ r = .supervisor) ∨
    (k ∈ [Kind.pair, .picked, .bonded, .pickFail, .discard] ∧ r = .head) ∨
    (k ∈ [Kind.dot, .dotAbort] ∧ (r = .dispenser .A ∨ r = .dispenser .B)) ∨
    (k ∈ [Kind.stripIn, .stripOut] ∧ r = .indexer) ∨ (k ∈ [Kind.waferIn, .waferOut] ∧ r = .wafer)) ∧
  (∀ kind : Octet, kindOfCode kind = none → s.receives p (frameOctets kind body) = true →
    ∃ t, exec (.unknownKindFrame p kind body) s = .next t ∧ OnlyChanges [.ports] s t ∧ PortsKept [p] s t ∧
      t.ports[p] = { selLow := s.ports[p].selLow, link := .answering none (resp .format [kind]) 0 none }) ∧
  (∀ (kind : Octet) (declared : Half), 512 < declared.toNat → s.receives p (kind :: be16 declared) = true →
    ∃ t, exec (.formatAtHeader p kind declared) s = .next t ∧ OnlyChanges [.ports] s t ∧ PortsKept [p] s t ∧
      t.ports[p] = { selLow := s.ports[p].selLow, link := .answering none (resp .format [kind]) 0 none }) ∧
  ∀ k ∈ Kind.list,
    (s.receives p (frameOctets k.code body) = false → NoEffect (requestOf k p body) s) ∧
    (s.receives p (frameOctets k.code body) = true → lengthOk k body = false →
      ∃ t, exec (requestOf k p body) s = .next t ∧ OnlyChanges [.ports] s t ∧ PortsKept [p] s t ∧
        t.ports[p] = { selLow := s.ports[p].selLow, link := .answering none (resp .format [k.code]) 0 none }) ∧
    (s.receives p (frameOctets k.code body) = true → lengthOk k body = true → kindPermits k (s.role p) = false →
      ∃ t, exec (requestOf k p body) s = .next t ∧ OnlyChanges [.ports] s t ∧ PortsKept [p] s t ∧
        t.ports[p] =
          { selLow := s.ports[p].selLow, link := .answering none (resp .role [(s.role p).code]) 0 none })

/-- R155 to R157, R61, R113: a rise of SEL ends the transaction. It discards a partial frame, leaves DRAINING, removes a held
PAIR from the wait list and a held DOT from its lane without a response, completes an answer read to its last octet, and
leaves every decision but a grant standing where the answer was not read to its end or not yet handed over (log entry 30). -/
def Obligations.SelRiseEndsTheTransaction : Prop := ∀ (p : Port) (s : State),
  LinkInv s → s.resetAsserted = false → s.ports[p].selLow = true →
  (∀ k r n mark, s.link p = .answering k r n mark → mark = none ∨ 8 * (3 + r.body.length) ≤ n) →
  (∀ k r mark, s.link p = .decided k r mark → mark = none) →
  ∃ t, exec (.selRise p) s = .next t ∧ OnlyChanges [.ports, .waitList, .gates] s t ∧ PortsKept [p] s t ∧
    t.ports[p] = { selLow := false, link := .idle } ∧
    t.waitList = s.waitList.filter (fun e => e.port != p) ∧
    ∀ l ∈ bothLanes, t.gate l =
      if (s.gate l).waiter.map (fun w => w.port) = some p then { s.gate l with waiter := none } else s.gate l

/-- R93, R156, R157: a PAIR grant that is not read to its last octet, or not yet handed over, is withdrawn where its pairing
is still the one the mark names: outcome WITHDRAWN, die AVAILABLE, site WETTED with its wet time, no record and no notice to
the head. Where that pairing has ended, only the port moves. When a grant is handed over is log entry 30. -/
def Obligations.PairGrantWithdrawn : Prop := ∀ (p : Port) (k : Option Kind) (r : Response) (n : Nat) (tk : Ticket)
    (g : Reading) (s : State),
  DeviceInv s → s.resetAsserted = false →
  ((s.link p = .answering k r n (some (.pair tk p g)) ∧ n < 8 * (3 + r.body.length)) ∨
    s.link p = .decided k r (some (.pair tk p g))) →
  (∀ pr ∈ s.pairings, pr.ticket = tk → pr.port = p → pr.grantTime = g → pr.phase = .claimed →
    ∃ t, exec (.selRise p) s = .next t ∧ OnlyChanges endParts s t ∧ PortsKept (p :: waitPorts s) s t ∧
      t.ports[p] = { selLow := false, link := .idle } ∧ t.pairing tk = none ∧
      RingGains { ticket := tk, port := p, outcome := .withdrawn } s t ∧ TraceKept s t ∧
      DieLeft pr { pr.dieRecord s with state := .available } s t ∧ SiteWetAgain pr s t ∧ t.gates = s.gates ∧
      t.notice p = s.notice p) ∧
  ((∀ pr ∈ s.pairings, pr.ticket = tk → pr.port = p → pr.grantTime = g → pr.phase ≠ .claimed) →
    ∃ t, exec (.selRise p) s = .next t ∧ OnlyChanges [.ports] s t ∧ PortsKept [p] s t ∧
      t.ports[p] = { selLow := false, link := .idle })

/-- R62, R156, R157: a DOT grant that is not read to its last octet, or not yet handed over, is withdrawn where the lane's
assignment is still the one the mark names: the site is EMPTY again, the assignment ends, a bound pulse becomes unbound. Any
other assignment stands. When a grant is handed over is log entry 30. -/
def Obligations.DotGrantWithdrawn : Prop := ∀ (p : Port) (k : Option Kind) (r : Response) (n : Nat) (l : Lane)
    (slot : Fin 4) (arrival : BitVec 32) (id : Tag) (site : Nat) (deadline : Reading) (s : State),
  DeviceInv s → s.resetAsserted = false →
  ((s.link p = .answering k r n (some (.dot l slot arrival id site deadline)) ∧ n < 8 * (3 + r.body.length)) ∨
    s.link p = .decided k r (some (.dot l slot arrival id site deadline))) →
  ((∃ a ∈ (s.gate l).assignment,
      a.slot = slot ∧ a.arrival = arrival ∧ a.stripId = id ∧ a.site = site ∧ a.deadline = deadline) →
    ∃ t, exec (.selRise p) s = .next t ∧ OnlyChanges [.ports, .lanes, .gates] s t ∧ PortsKept [p] s t ∧
      t.ports[p] = { selLow := false, link := .idle } ∧
      t.lanes = s.lanes.set l { s.lane l with
        strips := (s.lane l).strips.map
          (fun st => if st.arrival = arrival then { st with sites := st.sites.set site .empty } else st)
        wetAhead := (s.lane l).wetAhead - 1 } ∧
      t.gates = s.gates.set l
        { s.gate l with assignment := none, measurement := (s.gate l).measurement.unbind }) ∧
  ((∀ a ∈ (s.gate l).assignment,
      ¬ (a.slot = slot ∧ a.arrival = arrival ∧ a.stripId = id ∧ a.site = site ∧ a.deadline = deadline)) →
    ∃ t, exec (.selRise p) s = .next t ∧ OnlyChanges [.ports] s t ∧ PortsKept [p] s t ∧
      t.ports[p] = { selLow := false, link := .idle })

/-! ## Requests that read -/

/-- R158, R42, R136: IDENT, CLOCK_READ and LINE_STATUS answer with the values their rules list, in order and at the widths of
Table 12-2, and change nothing but the port. -/
def Obligations.ReadingRequests : Prop := ∀ (p : Port) (body : List Octet) (s : State),
  (Taken .ident p body s → ∃ t, exec (.ident p body) s = .next t ∧
    AnswersWith p .ident
      (okResp [16, 112, 3, oct p.val, (s.role p).code, oct s.roles[p].level, if s.dualLane = true then 1 else 0]) [] s t) ∧
  (Taken .clockRead p body s → ∃ t, exec (.clockRead p body) s = .next t ∧
    AnswersWith p .clockRead (okResp (be32 s.clock)) [] s t) ∧
  (Taken .lineStatus p body s → ∃ t, exec (.lineStatus p body) s = .next t ∧
    AnswersWith p .lineStatus (okResp
      ([s.line.code] ++
       (s.banks.b0.state.code :: (be32 s.banks.b0.waferId ++ nat16 s.banks.b0.available)) ++
       (s.banks.b1.state.code :: (be32 s.banks.b1.waferId ++ nat16 s.banks.b1.available)) ++
       [oct s.lanes.a.strips.length, oct s.lanes.a.wetAhead] ++
       (if s.dualLane = true then [oct s.lanes.b.strips.length, oct s.lanes.b.wetAhead] else [0, 0]) ++
       [oct s.pairings.length, oct s.waitList.length] ++ nat16 s.trace.records.length ++
       [oct (s.sweepPos.toNat / 256), oct (s.sweepPos.toNat / 64 % 4), oct (s.sweepPos.toNat % 64)] ++ be32 s.clock ++
       [if s.dualLane = true then 1 else 0])) [] s t)

/-! ## Notices -/

/-- R144, R66, R164: NOTICE_TAKE takes the pending unmasked source of the lowest rank number into service and answers with its
record; taking PULSE_ORPHAN resets the lane's orphan count. With no such source it is answered NONE. -/
def Obligations.NoticeTaken : Prop := ∀ (p : Port) (body : List Octet) (s : State), Taken .noticeTake p body s →
  ((∀ k : RankIx, (s.notice p).offers k = false) → ∃ t, exec (.noticeTake p body) s = .next t ∧
    AnswersWith p .noticeTake (resp .noneHere []) [] s t) ∧
  ∀ k : RankIx, ∀ x ∈ (s.notice p).pending[k], (s.notice p).mask[k] = false →
    (∀ j : RankIx, j < k → (s.notice p).offers j = false) →
    ∃ t, exec (.noticeTake p body) s = .next t ∧
      AnswersWith p .noticeTake
        (okResp (x.source.code :: oct (k.val + 1) ::
          oct (ranks.filter (fun j => j != k && (s.notice p).offers j)).length :: oct x.detail.length :: x.detail))
        [.notices, .gates] s t ∧
      t.notices = s.notices.set p.val
        { s.notice p with
          pending := (s.notice p).pending.set k.val none k.isLt
          inService := (s.notice p).inService.set k.val true k.isLt } p.isLt ∧
      (x.source ≠ .pulseOrphan → t.gates = s.gates) ∧
      ∀ l ∈ bothLanes, x.source = .pulseOrphan → s.role p = .dispenser l →
        t.gates = s.gates.set l { s.gate l with orphans := 0 }

/-- R145, R143, R146: NOTICE_END ends the in-service source of the lowest rank number, and TRACE_LEVEL is then pending again
where its condition holds; with nothing in service it is answered NONE. NOTICE_MASK replaces the mask whole, a rank beyond
the role's sources taken as clear. That an ended source is answered by its code is an inference (log entry 20). -/
def Obligations.NoticeEndedAndMasked : Prop := ∀ (p : Port) (body : List Octet) (s : State), RoleLaw s →
  (Taken .noticeEnd p body s →
    ((∀ k : RankIx, (s.notice p).inService[k] = false) → ∃ t, exec (.noticeEnd p body) s = .next t ∧
      AnswersWith p .noticeEnd (resp .noneHere []) [] s t) ∧
    ∀ k : RankIx, (s.notice p).inService[k] = true → (∀ j : RankIx, j < k → (s.notice p).inService[j] = false) →
      ∀ src ∈ (s.role p).sourceAt k, ∃ t, exec (.noticeEnd p body) s = .next t ∧
        AnswersWith p .noticeEnd (okResp [src.code]) [.notices] s t ∧
        t.notices = s.notices.set p.val
          { s.notice p with
            inService := (s.notice p).inService.set k.val false k.isLt
            pending :=
              if src = .traceLevel then
                (s.notice p).pending.set k.val
                  (if s.trace.threshold ≤ s.trace.records.length then some (.traceLevel s.trace.records.length) else none)
                  k.isLt
              else (s.notice p).pending } p.isLt) ∧
  (Taken .noticeMask p body s → ∃ t, exec (.noticeMask p body) s = .next t ∧
    AnsweredAt p .noticeMask
      (okResp [(if (t.notice p).mask[(0 : RankIx)] = true then 1 else 0) +
        (if (t.notice p).mask[(1 : RankIx)] = true then 2 else 0) +
        (if (t.notice p).mask[(2 : RankIx)] = true then 4 else 0) +
        (if (t.notice p).mask[(3 : RankIx)] = true then 8 else 0)]) none s t ∧
    PortsKept [p] s t ∧ OnlyChanges [.ports, .notices] s t ∧ (∀ q : Port, q ≠ p → t.notice q = s.notice q) ∧
    (t.notice p).pending = (s.notice p).pending ∧ (t.notice p).inService = (s.notice p).inService ∧
    ∀ k : RankIx, (t.notice p).mask[k] = ((u8 body 0).getLsbD k.val && ((s.role p).sourceAt k).isSome))

/-! ## Line Control -/

/-- R130, R114, R61, R131: PAUSE in RUN moves the line to PAUSED, answers every waiting PAIR and both held DOT requests PAUSED,
raises LINE_STATE at S1 to S7 and, where S0 did not send it, LINE_STOPPED at S0. Outside RUN it changes nothing. -/
def Obligations.PauseStopsTheLine : Prop := ∀ (p : Port) (body : List Octet) (s : State),
  LinkInv s → Taken .pause p body s →
  (s.line ≠ .run → ∃ t, exec (.pause p body) s = .next t ∧ AnswersWith p .pause (okResp [s.line.code]) [] s t) ∧
  (s.line = .run → ∃ t, exec (.pause p body) s = .next t ∧ OnlyChanges [.line, .waitList, .gates, .notices, .ports] s t ∧
    AnsweredAt p .pause (okResp [2]) none s t ∧ PortsKept (p :: waitPorts s ++ dotPorts s) s t ∧
    t.line = .paused ∧ t.waitList = [] ∧ (∀ l ∈ bothLanes, t.gate l = { s.gate l with waiter := none }) ∧
    (∀ q ∈ waitPorts s, AnsweredAt q .pair (resp .paused []) none s t) ∧
    (∀ q ∈ dotPorts s, AnsweredAt q .dot (resp .paused []) none s t) ∧
    ∀ q : Port, t.notice q =
      if q ≠ 0 then afterRaise (.lineState .pause .paused) q s
      else if p = 0 then s.notice q else afterRaise (.lineStopped p) q s)

/-- R129, R132, R133: START takes SETUP to RUN when every required role is held, RESUME takes PAUSED to RUN, and END takes
PAUSED to SETUP when no pairing is in flight and no site DISPENSING; each raises LINE_STATE. Otherwise each is refused, STATE
with the line state or the missing roles in order, or BUSY with the pairings in flight and the lanes DISPENSING. The
missing roles as a bare list of role codes are an inference (log entry 18). -/
def Obligations.LineStateRequests : Prop := ∀ (p : Port) (body : List Octet) (s : State), LinkInv s →
  (Taken .start p body s →
    let missing := ([Role.head, .indexer, .wafer, .dispenser .A] ++ if s.dualLane = true then [Role.dispenser .B] else []).filter
      (fun r => decide (∀ q : Port, s.role q ≠ r))
    (s.line ≠ .setup → ∃ t, exec (.start p body) s = .next t ∧
      AnswersWith p .start (resp .state [s.line.code]) [] s t) ∧
    (s.line = .setup → missing ≠ [] → ∃ t, exec (.start p body) s = .next t ∧
      AnswersWith p .start (resp .state (missing.map Role.code)) [] s t) ∧
    (s.line = .setup → missing = [] → ∃ t, exec (.start p body) s = .next t ∧
      AnswersWith p .start (okResp []) [.line, .notices] s t ∧ t.line = .run ∧ LineStateRaised .start .run s t)) ∧
  (Taken .resume p body s →
    (s.line ≠ .paused → ∃ t, exec (.resume p body) s = .next t ∧
      AnswersWith p .resume (resp .state [s.line.code]) [] s t) ∧
    (s.line = .paused → ∃ t, exec (.resume p body) s = .next t ∧
      AnswersWith p .resume (okResp []) [.line, .notices] s t ∧ t.line = .run ∧ LineStateRaised .resume .run s t)) ∧
  (Taken .lineEnd p body s →
    let dispensing := fun l => decide (∃ st ∈ (s.lane l).strips, Site.dispensing ∈ st.sites)
    (s.line ≠ .paused → ∃ t, exec (.lineEnd p body) s = .next t ∧
      AnswersWith p .lineEnd (resp .state [s.line.code]) [] s t) ∧
    (s.line = .paused → (s.pairings ≠ [] ∨ dispensing .A = true ∨ dispensing .B = true) →
      ∃ t, exec (.lineEnd p body) s = .next t ∧
        AnswersWith p .lineEnd
          (resp .busy [oct s.pairings.length,
            (if dispensing .A = true then 1 else 0) + (if dispensing .B = true then 2 else 0)]) [] s t) ∧
    (s.line = .paused → s.pairings = [] → dispensing .A = false → dispensing .B = false →
      ∃ t, exec (.lineEnd p body) s = .next t ∧
        AnswersWith p .lineEnd (okResp []) [.line, .notices] s t ∧ t.line = .setup ∧
        LineStateRaised .lineEnd .setup s t))

/-- R137, R40, R71, R103, R115: the line clear answers every held request CLEARED, ends every pairing CLEARED with its
ticket in the ring, drops both assignments, removes every strip, gives a LOADING and a RETIRING bank up, the RETIRING one
with WAFER_CLEAR, and returns the line to SETUP with LINE_STATE raised at S1 to S7; it keeps roles, products, lane
parameters, reach records, arrival counters, orphan counts, the clock, the sweep and the last issued ticket, and the notices
but TRACE_LEVEL of S0, and answers with its four counts. -/
def Obligations.LineClearAbandonsTheWork : Prop := ∀ (p : Port) (body : List Octet) (s : State),
  DeviceInv s → Taken .clear p body s →
  ∃ t, exec (.clear p body) s = .next t ∧
    OnlyChanges [.line, .waitList, .pairings, .ring, .trace, .banks, .lanes, .gates, .lastPick, .notices, .ports] s t ∧
    AnsweredAt p .clear
      (okResp [oct ((waitPorts s).length + (dotPorts s).length), oct s.pairings.length,
        oct (s.pairings.filter Pairing.isPicked).length, oct (s.lanes.a.strips.length + s.lanes.b.strips.length)])
      none s t ∧
    PortsKept (p :: waitPorts s ++ dotPorts s) s t ∧
    (∀ q ∈ waitPorts s, AnsweredAt q .pair (resp .cleared []) none s t) ∧
    (∀ q ∈ dotPorts s, AnsweredAt q .dot (resp .cleared []) none s t) ∧
    t.line = .setup ∧ t.waitList = [] ∧ t.pairings = [] ∧
    t.ring = (s.ring ++ s.pairings.map
        (fun pr => ({ ticket := pr.ticket, port := pr.port, outcome := .cleared } : RingEntry))).drop
      (s.ring.length + s.pairings.length - 16) ∧
    (∀ l ∈ bothLanes, t.lane l = { s.lane l with strips := [], wetAhead := 0 } ∧
      t.gate l = { s.gate l with
        assignment := none, waiter := none, measurement := (s.gate l).measurement.unbind }) ∧
    (∀ b ∈ bothBanks,
      ((s.bank b).state = .loading ∨ (s.bank b).state = .retiring → Emptied (t.bank b)) ∧
      ((s.bank b).state = .empty ∨ (s.bank b).state = .staged → t.bank b = s.bank b)) ∧
    (∀ q : Port, q ≠ 0 →
      (s.role q = .wafer → ∀ b ∈ bothBanks, (s.bank b).state = .retiring → t.notice q =
        afterRaise (.lineState .clear .setup) q (s.setNotice q (afterRaise (.waferClear (s.bank b).waferId) q s))) ∧
      ((s.role q = .wafer → ∀ b ∈ bothBanks, (s.bank b).state ≠ .retiring) →
        t.notice q = afterRaise (.lineState .clear .setup) q s)) ∧
    TraceLevelLaw t ∧ (t.notice 0).mask = (s.notice 0).mask ∧ (t.notice 0).inService = (s.notice 0).inService ∧
    ∀ k : RankIx, k ≠ 2 → (t.notice 0).pending[k] = (s.notice 0).pending[k]

/-- R20, R103, R126, R84, R85: what the line clear leaves of the ACTIVE bank and of the trace. A CLAIMED die is SUSPECT, a
PICKED die is LOST, every other record and the header but its references stand; each pairing in PICKED has written its LOSS
record, reason CLEARED, in the order of the tickets' issue, and no reservation is left. Each last-pick position is the
starting corner of its port, clipped where a bank is ACTIVE. -/
def Obligations.LineClearSettlesDieAndTrace : Prop := ∀ (p : Port) (body : List Octet) (s : State),
  DeviceInv s → Taken .clear p body s →
  ∃ t, exec (.clear p body) s = .next t ∧
    (∀ b ∈ bothBanks, (s.bank b).state = .active →
      t.bank b = { s.bank b with refs := 0, dies := (t.bank b).dies } ∧
      (∀ pr ∈ s.pairings, dieAt (t.bank b).dies (pr.dieIndex s) =
        { pr.dieRecord s with state := if pr.isPicked = true then .lost else .suspect }) ∧
      ∀ i < (s.bank b).size, (∀ pr ∈ s.pairings, pr.dieIndex s ≠ i) →
        dieAt (t.bank b).dies i = dieAt (s.bank b).dies i) ∧
    t.trace.reservations = 0 ∧ t.trace.threshold = s.trace.threshold ∧
    t.trace.nextSeq = s.trace.nextSeq + BitVec.ofNat 32 (s.pairings.filter Pairing.isPicked).length ∧
    t.trace.records.take s.trace.records.length = s.trace.records ∧
    (t.trace.records.drop s.trace.records.length).map
        (fun r => (r.ticket, r.port, r.kind, r.stripId, r.site, r.endTime)) =
      (s.pairings.filter Pairing.isPicked).map
        (fun pr => (pr.ticket, pr.port, TraceKind.loss .cleared, pr.stripId, pr.site, s.clock)) ∧
    ∀ q : Port,
      ((∀ b ∈ bothBanks, (s.bank b).state ≠ .active) → t.lastPick[q] = cornerOf s.reach[q]) ∧
      ∀ b ∈ bothBanks, (s.bank b).state = .active → t.lastPick[q] = clippedTo (s.bank b) (cornerOf s.reach[q])

/-- R135, R162, R66: the checks of ROLE in order, and an accepted ROLE: the entry takes the role and the level clamped to 3,
the port's notice state is cleared, and the orphan count of each lane whose dispenser role the port had or receives is 0. A
STATE without values, and the level that NONE keeps, are inferences (log entries 20, 21). -/
def Obligations.RoleAssigned : Prop := ∀ (p : Port) (body : List Octet) (s : State), RoleLaw s → Taken .role p body s →
  ((u8 body 0).toNat = 0 ∨ 7 < (u8 body 0).toNat ∨ assignableRole (u8 body 1) = none ∨
      (assignableRole (u8 body 1) = some (.dispenser .B) ∧ s.dualLane = false) →
    ∃ t, exec (.role p body) s = .next t ∧ AnswersWith p .role (resp .range []) [] s t) ∧
  ∀ q : Port, q ≠ 0 → (u8 body 0).toNat = q.val → ∀ r ∈ assignableRole (u8 body 1),
    (r = .dispenser .B → s.dualLane = true) →
    (s.line ≠ .setup → ∃ t, exec (.role p body) s = .next t ∧ AnswersWith p .role (resp .state []) [] s t) ∧
    (s.line = .setup → r ≠ .head → r ≠ .unassigned → ∀ x : Port, x ≠ q → s.role x = r →
      ∃ t, exec (.role p body) s = .next t ∧ AnswersWith p .role (resp .busy [oct x.val]) [] s t) ∧
    (s.line = .setup → r = .head → 4 ≤ (allPorts.filter (fun x => x != q && s.role x == .head)).length →
      ∃ t, exec (.role p body) s = .next t ∧ AnswersWith p .role (resp .full []) [] s t) ∧
    (s.line = .setup → (r = .head → (allPorts.filter (fun x => x != q && s.role x == .head)).length < 4) →
      (r ≠ .head → r ≠ .unassigned → ∀ x : Port, x ≠ q → s.role x ≠ r) →
      ∃ t, exec (.role p body) s = .next t ∧
        AnswersWith p .role (okResp [oct q.val, r.code, oct (min (u8 body 2).toNat 3)]) [.roles, .notices, .gates] s t ∧
        t.roles = s.roles.set q.val { role := r, level := min (u8 body 2).toNat 3 } q.isLt ∧
        t.notices = s.notices.set q.val .blank q.isLt ∧
        ∀ l ∈ bothLanes, t.gate l =
          if s.role q = .dispenser l ∨ r = .dispenser l then { s.gate l with orphans := 0 } else s.gate l)

/-! ## Products, lane parameters and reach -/

/-- R22, R23, R162: the checks of PRODUCT and of LANE in order. An accepted PRODUCT gives the entry every field of the body at
once; an accepted LANE gives the lane both parameters. A code that a queued strip carries, or a lane that holds a strip, is
BUSY. -/
def Obligations.ProductAndLaneSet : Prop := ∀ (p : Port) (body : List Octet) (s : State),
  (Taken .product p body s →
    let pr : Product :=
      { siteCount := (u8 body 1).toNat, gradeSet := u16 body 2, openTime := (u32 body 4).toNat
        marginMs := (u16 body 8).toNat, dotMin := (u16 body 10).toNat, dotMax := (u16 body 12).toNat
        tolerance := (u16 body 14).toNat, pickLeaseMs := (u16 body 16).toNat, bondLeaseMs := (u16 body 18).toNat }
    let valid := (u8 body 0).toNat ≤ 7 ∧ 1 ≤ pr.siteCount ∧ pr.siteCount ≤ 64 ∧
      pr.gradeSet ≠ 0 ∧ pr.gradeSet.getLsbD 0 = false ∧ pr.gradeSet.getLsbD 15 = false ∧
      1 ≤ pr.openTime ∧ pr.openTime ≤ 360000 ∧ pr.marginMs ≤ 60000 ∧ pr.marginMs * 10 < pr.openTime * 100 ∧
      1 ≤ pr.dotMin ∧ pr.dotMin ≤ pr.dotMax ∧ pr.dotMax ≤ 65534 ∧ 1 ≤ pr.tolerance ∧ pr.tolerance ≤ 1000 ∧
      100 ≤ pr.pickLeaseMs ∧ pr.pickLeaseMs ≤ 60000 ∧ 100 ≤ pr.bondLeaseMs ∧ pr.bondLeaseMs ≤ 60000
    (¬ valid → ∃ t, exec (.product p body) s = .next t ∧ AnswersWith p .product (resp .range []) [] s t) ∧
    (valid → ∀ c : ProductCode, c.val = (u8 body 0).toNat →
      ((∃ l ∈ bothLanes, ∃ st ∈ (s.lane l).strips, st.product = c) →
        ∃ t, exec (.product p body) s = .next t ∧ AnswersWith p .product (resp .busy []) [] s t) ∧
      ((∀ l ∈ bothLanes, ∀ st ∈ (s.lane l).strips, st.product ≠ c) →
        ∃ t, exec (.product p body) s = .next t ∧ AnswersWith p .product (okResp [u8 body 0]) [.products] s t ∧
          t.products = s.products.set c.val (some pr) c.isLt))) ∧
  (Taken .lane p body s →
    let limit := (u8 body 1).toNat
    let deadline := (u16 body 2).toNat
    let inRange := 1 ≤ limit ∧ limit ≤ 16 ∧ 100 ≤ deadline ∧ deadline ≤ 10000
    ((∀ l ∈ bothLanes, ¬ NamesLane (u8 body 0) s l) ∨ ¬ inRange →
      ∃ t, exec (.lane p body) s = .next t ∧ AnswersWith p .lane (resp .range []) [] s t) ∧
    ∀ l ∈ bothLanes, NamesLane (u8 body 0) s l → inRange →
      ((s.lane l).strips ≠ [] →
        ∃ t, exec (.lane p body) s = .next t ∧ AnswersWith p .lane (resp .busy []) [] s t) ∧
      ((s.lane l).strips = [] →
        ∃ t, exec (.lane p body) s = .next t ∧ AnswersWith p .lane (okResp []) [.lanes] s t ∧
          t.lanes = s.lanes.set l { s.lane l with wetLimit := limit, dotDeadlineMs := deadline }))

/-- R79, R162, R24: the checks of REACH in order, and an accepted REACH: the port's record takes every field of the body, the
last-pick position stands, and in RUN a pass follows. -/
def Obligations.ReachSet : Prop := ∀ (p : Port) (body : List Octet) (s : State), LinkInv s → Taken .reach p body s →
  let valid := 1 ≤ (u8 body 0).toNat ∧ (u8 body 0).toNat ≤ 7 ∧ (u8 body 1).toNat ≤ 1 ∧ (u8 body 6).toNat ≤ 1 ∧
    1 ≤ (u8 body 11).toNat ∧ (u8 body 11).toNat ≤ 3 ∧ ((u8 body 11).getLsbD 1 = true → s.dualLane = true)
  (¬ valid → ∃ t, exec (.reach p body) s = .next t ∧ AnswersWith p .reach (resp .range []) [] s t) ∧
  (valid → ∀ q : Port, q.val = (u8 body 0).toNat →
    ∃ t, exec (.reach p body) s = .next t ∧ AnsweredAt p .reach (okResp [u8 body 0]) none s t ∧
      PortsKept (p :: waitPorts s) s t ∧ OnlyChanges (.reach :: passParts) s t ∧
      t.reach = s.reach.set q.val
        { w1 := { enabled := u8 body 1 == 1, colLo := (u8 body 2).toNat, colHi := (u8 body 3).toNat,
                  rowLo := (u8 body 4).toNat, rowHi := (u8 body 5).toNat }
          w2 := { enabled := u8 body 6 == 1, colLo := (u8 body 7).toNat, colHi := (u8 body 8).toNat,
                  rowLo := (u8 body 9).toNat, rowHi := (u8 body 10).toNat }
          laneA := (u8 body 11).getLsbD 0, laneB := (u8 body 11).getLsbD 1 } q.isLt ∧
      (s.line ≠ .run → AnswersWith p .reach (okResp [u8 body 0]) [.reach] s t) ∧
      (s.line = .run → Blocked t))

/-! ## Maps, die and wafers -/

/-- R6, R9, R10, R2, R3: MAP_OPEN takes the lowest-numbered EMPTY bank with the header of its body and blank die records;
MAP_CLOSE stages a load that agrees in count, rows received and check and gives any other up with CHECK_FAIL; MAP_ABORT gives
the load up. That a bank given up has blank die records is the model's choice (log entry 17). -/
def Obligations.MapOpenedClosedAborted : Prop := ∀ (p : Port) (body : List Octet) (s : State), BankLaw s →
  (Taken .mapOpen p body s →
    let bank : MapBank :=
      { state := .loading, waferId := u32 body 0, cols := (u16 body 4).toNat, rows := (u16 body 6).toNat
        colPitch := (u16 body 8).toNat, rowPitch := (u16 body 10).toNat, received := 0, check := 0, available := 0
        refs := 0, dies := [] }
    let valid := bank.waferId ≠ 0 ∧ 1 ≤ bank.cols ∧ bank.cols ≤ 256 ∧ 1 ≤ bank.rows ∧ bank.rows ≤ 256 ∧
      bank.cols * bank.rows ≤ 16384 ∧ 100 ≤ bank.colPitch ∧ bank.colPitch ≤ 50000 ∧ 100 ≤ bank.rowPitch ∧
      bank.rowPitch ≤ 50000
    (¬ valid → ∃ t, exec (.mapOpen p body) s = .next t ∧ AnswersWith p .mapOpen (resp .range []) [] s t) ∧
    (valid → ((∃ b ∈ bothBanks, (s.bank b).state = .loading) ∨ ∀ b ∈ bothBanks, (s.bank b).state ≠ .empty) →
      ∃ t, exec (.mapOpen p body) s = .next t ∧ AnswersWith p .mapOpen (resp .busy []) [] s t) ∧
    (valid → (∀ b ∈ bothBanks, (s.bank b).state ≠ .loading) → ∀ b ∈ bothBanks, (s.bank b).state = .empty →
      (b = .b1 → s.banks.b0.state ≠ .empty) →
      ∃ t, exec (.mapOpen p body) s = .next t ∧ AnswersWith p .mapOpen (okResp [bankCode b]) [.banks] s t ∧
        t.banks = s.banks.set b bank)) ∧
  (Taken .mapClose p body s →
    ((∀ b ∈ bothBanks, (s.bank b).state ≠ .loading) →
      ∃ t, exec (.mapClose p body) s = .next t ∧ AnswersWith p .mapClose (resp .noMap []) [] s t) ∧
    ∀ b ∈ bothBanks, (s.bank b).state = .loading →
      let agrees := (u16 body 0).toNat = (s.bank b).cols * (s.bank b).rows ∧
        (s.bank b).received = (s.bank b).cols * (s.bank b).rows ∧ u16 body 2 = (s.bank b).check
      (agrees → ∃ t, exec (.mapClose p body) s = .next t ∧
        AnswersWith p .mapClose (okResp (bankCode b :: nat16 (s.bank b).available)) [.banks] s t ∧
        t.banks = s.banks.set b { s.bank b with state := .staged }) ∧
      (¬ agrees → ∃ t, exec (.mapClose p body) s = .next t ∧
        AnswersWith p .mapClose (resp .checkFail (nat16 (s.bank b).received ++ be16 (s.bank b).check)) [.banks] s t ∧
        t.banks = s.banks.set b .blank)) ∧
  (Taken .mapAbort p body s →
    ((∀ b ∈ bothBanks, (s.bank b).state ≠ .loading) →
      ∃ t, exec (.mapAbort p body) s = .next t ∧ AnswersWith p .mapAbort (resp .noneHere []) [] s t) ∧
    ∀ b ∈ bothBanks, (s.bank b).state = .loading →
      ∃ t, exec (.mapAbort p body) s = .next t ∧ AnswersWith p .mapAbort (okResp [bankCode b]) [.banks] s t ∧
        t.banks = s.banks.set b .blank)

/-- R7, R8, R5: MAP_ROWS writes its grades at the next indices, a die of grade 0 REJECT, of grade 15 ABSENT, of any other
AVAILABLE and counted; each adds (i + 1) × grade to the running check modulo 65,536, and rows received rises by the length. -/
def Obligations.MapRowsLoaded : Prop := ∀ (p : Port) (body : List Octet) (s : State),
  MapInv s → Taken .mapRows p body s →
  let start := (u16 body 0).toNat
  let grades := body.drop 3
  ((∀ b ∈ bothBanks, (s.bank b).state ≠ .loading) →
    ∃ t, exec (.mapRows p body) s = .next t ∧ AnswersWith p .mapRows (resp .noMap []) [] s t) ∧
  ∀ b ∈ bothBanks, (s.bank b).state = .loading →
    let refused := (∃ g ∈ grades, 15 < g.toNat) ∨ start ≠ (s.bank b).received ∨
      (s.bank b).cols * (s.bank b).rows < start + grades.length
    (refused → ∃ t, exec (.mapRows p body) s = .next t ∧ AnswersWith p .mapRows (resp .range []) [] s t) ∧
    (¬ refused →
      let check := (s.bank b).check +
        BitVec.ofNat 16 ((grades.zipIdx.map (fun e => (start + e.2 + 1) * e.1.toNat)).sum)
      ∃ t, exec (.mapRows p body) s = .next t ∧
        AnswersWith p .mapRows (okResp (nat16 (start + grades.length) ++ be16 check)) [.banks] s t ∧
        t.banks = s.banks.set b { s.bank b with
          received := start + grades.length, check := check
          available := ((t.bank b).dies.filter (fun e => e.2.state == .available)).length, dies := (t.bank b).dies } ∧
        (∀ e ∈ grades.zipIdx, dieAt (t.bank b).dies (start + e.2) =
          { grade := e.1.setWidth 4
            state := if e.1 = 0 then .reject else if e.1 = 15 then .absent else .available, retry := 0 }) ∧
        ∀ i < (s.bank b).size, (i < start ∨ start + grades.length ≤ i) →
          dieAt (t.bank b).dies i = dieAt (s.bank b).dies i)

/-- R17, R18, R5, R16: the checks of DIE_MARK in order, and its actions: REJECT of an AVAILABLE or SUSPECT die, the count
lowered and WAFER_EXHAUSTED raised where the ACTIVE bank's last AVAILABLE die goes; READMIT of a SUSPECT die of grade 1 to 14
with retry count 0, the count raised, followed by its passes, which lower the ACTIVE bank's count by the grants they make; every
other combination is answered NONE. That the answer to a READMIT carries AVAILABLE even where a pass has claimed the die is
the model's choice (log entry 29). -/
def Obligations.DieMarked : Prop := ∀ (p : Port) (body : List Octet) (s : State), DeviceInv s → Taken .dieMark p body s →
  let i := (u16 body 1).toNat
  let action := u8 body 3
  ((∀ b ∈ bothBanks, u8 body 0 ≠ bankCode b) ∨ (action ≠ 1 ∧ action ≠ 2) →
    ∃ t, exec (.dieMark p body) s = .next t ∧ AnswersWith p .dieMark (resp .range []) [] s t) ∧
  ∀ b ∈ bothBanks, u8 body 0 = bankCode b → (action = 1 ∨ action = 2) →
    let r := dieAt (s.bank b).dies i
    let holds := (s.bank b).state = .staged ∨ (s.bank b).state = .active ∨ (s.bank b).state = .retiring
    (¬ holds → ∃ t, exec (.dieMark p body) s = .next t ∧ AnswersWith p .dieMark (resp .noMap []) [] s t) ∧
    (holds → (s.bank b).cols * (s.bank b).rows ≤ i →
      ∃ t, exec (.dieMark p body) s = .next t ∧ AnswersWith p .dieMark (resp .range []) [] s t) ∧
    (holds → i < (s.bank b).cols * (s.bank b).rows →
      (r.state = .claimed ∨ r.state = .picked → ∃ t, exec (.dieMark p body) s = .next t ∧
        AnswersWith p .dieMark (resp .busy [r.state.code, r.grade.setWidth 8]) [] s t) ∧
      (action = 1 → r.state = .available ∨ r.state = .suspect → ∃ t, exec (.dieMark p body) s = .next t ∧
        AnswersWith p .dieMark (okResp [1, r.grade.setWidth 8]) [.banks, .notices] s t ∧
        t.banks = s.banks.set b { s.bank b with
          dies := putDie (s.bank b).dies i { r with state := .reject }
          available := (s.bank b).available - if r.state = .available then 1 else 0 } ∧
        ∀ q : Port, t.notice q =
          if s.role q = .wafer ∧ (s.bank b).state = .active ∧ r.state = .available ∧ (s.bank b).available = 1 then
            afterRaise (.waferExhausted (s.bank b).waferId) q s else s.notice q) ∧
      (action = 2 → r.state = .suspect → r.grade ≠ 0 → r.grade ≠ 15 → ∃ t, exec (.dieMark p body) s = .next t ∧
        AnsweredAt p .dieMark (okResp [2, r.grade.setWidth 8]) none s t ∧ PortsKept (p :: waitPorts s) s t ∧
        OnlyChanges passParts s t ∧ Blocked t ∧
        (t.bank b).available + (if (s.bank b).state = .active then t.pairings.length - s.pairings.length else 0) =
          (s.bank b).available + 1 ∧
        (dieAt (t.bank b).dies i = { r with state := .available, retry := 0 } ∨
          ((s.bank b).state = .active ∧ dieAt (t.bank b).dies i = { r with state := .claimed, retry := 0 }))) ∧
      (r.state ≠ .claimed → r.state ≠ .picked →
        ¬ (action = 1 ∧ (r.state = .available ∨ r.state = .suspect)) →
        ¬ (action = 2 ∧ r.state = .suspect ∧ r.grade ≠ 0 ∧ r.grade ≠ 15) →
        ∃ t, exec (.dieMark p body) s = .next t ∧
          AnswersWith p .dieMark (resp .noneHere [r.state.code, r.grade.setWidth 8]) [] s t))

/-- R11, R12, R84, R85, R16: the checks of WAFER_IN in order, and the activation of the lowest-numbered STAGED bank that
holds the wafer id: every last-pick position at its starting corner, clipped to the bank, WAFER_EXHAUSTED where it has no
AVAILABLE die, then a pass. -/
def Obligations.WaferArrives : Prop := ∀ (p : Port) (body : List Octet) (s : State),
  DeviceInv s → Taken .waferIn p body s →
  let staged := fun b => (s.bank b).state = .staged
  let idOf := fun b => if (s.bank b).state = .staged then be32 (s.bank b).waferId else be32 0
  ((∃ b ∈ bothBanks, (s.bank b).state = .active ∨ (s.bank b).state = .retiring) →
    ∃ t, exec (.waferIn p body) s = .next t ∧ AnswersWith p .waferIn (resp .busy []) [] s t) ∧
  ((∀ b ∈ bothBanks, (s.bank b).state ≠ .active ∧ (s.bank b).state ≠ .retiring) →
    ((∀ b ∈ bothBanks, ¬ staged b) →
      ∃ t, exec (.waferIn p body) s = .next t ∧ AnswersWith p .waferIn (resp .noMap []) [] s t) ∧
    ((∃ b ∈ bothBanks, staged b) → (∀ b ∈ bothBanks, staged b → (s.bank b).waferId ≠ u32 body 0) →
      ∃ t, exec (.waferIn p body) s = .next t ∧
        AnswersWith p .waferIn (resp .wrongWafer (idOf .b0 ++ idOf .b1)) [] s t) ∧
    ∀ b ∈ bothBanks, staged b → (s.bank b).waferId = u32 body 0 →
      (b = .b1 → ¬ (staged .b0 ∧ s.banks.b0.waferId = u32 body 0)) →
      ∃ t, exec (.waferIn p body) s = .next t ∧
        AnsweredAt p .waferIn (okResp (bankCode b :: nat16 (s.bank b).available)) none s t ∧
        PortsKept (p :: waitPorts s) s t ∧ OnlyChanges (.lastPick :: passParts) s t ∧ Blocked t ∧
        (t.bank b).state = .active ∧ (∀ b' ∈ bothBanks, b' ≠ b → t.bank b' = s.bank b') ∧
        (∀ q : Port, t.lastPick[q] = clippedTo (s.bank b) (cornerOf s.reach[q])) ∧
        ((s.bank b).available = 0 → t.bank b = { s.bank b with state := .active } ∧
          ∀ q : Port, s.role q = .wafer → t.notice q = afterRaise (.waferExhausted (s.bank b).waferId) q s))

/-- R13, R14, R2: WAFER_OUT makes the ACTIVE bank RETIRING and answers with its wafer id and references; with no pairing in
flight on it the bank is EMPTY at once, with WAFER_CLEAR. With no ACTIVE bank it is answered NONE. The
one octet of the references and the blank die records of an EMPTY bank are the model's (log entries 19, 17). -/
def Obligations.WaferLeaves : Prop := ∀ (p : Port) (body : List Octet) (s : State), DeviceInv s → Taken .waferOut p body s →
  ((∀ b ∈ bothBanks, (s.bank b).state ≠ .active) →
    ∃ t, exec (.waferOut p body) s = .next t ∧ AnswersWith p .waferOut (resp .noneHere []) [] s t) ∧
  ∀ b ∈ bothBanks, (s.bank b).state = .active →
    ∃ t, exec (.waferOut p body) s = .next t ∧
      AnswersWith p .waferOut (okResp (be32 (s.bank b).waferId ++ [oct (s.bank b).refs])) [.banks, .notices] s t ∧
      ((s.bank b).refs ≠ 0 →
        t.banks = s.banks.set b { s.bank b with state := .retiring } ∧ t.notices = s.notices) ∧
      ((s.bank b).refs = 0 → t.banks = s.banks.set b .blank ∧
        ∀ q : Port, t.notice q =
          if s.role q = .wafer then afterRaise (.waferClear (s.bank b).waferId) q s else s.notice q)

/-! ## The trace requests -/

/-- R121, R125: TRACE_READ takes the oldest records, as many as asked for within 1 to 8 and within the level, and answers with
them and the level left; TRACE_LEVEL is pending again exactly while its condition holds, and a removal is followed by a pass.
R124: the threshold request clamps to 1 to 512 and evaluates the condition again. -/
def Obligations.TraceRequests : Prop := ∀ (p : Port) (body : List Octet) (s : State), DeviceInv s →
  (Taken .traceRead p body s →
    let m := min (min (max (u8 body 0).toNat 1) 8) s.trace.records.length
    let left := s.trace.records.drop m
    ∃ t, exec (.traceRead p body) s = .next t ∧
      AnsweredAt p .traceRead
        (okResp (oct m :: ((s.trace.records.take m).flatMap TraceRecord.octets ++ nat16 left.length))) none s t ∧
      PortsKept (p :: waitPorts s) s t ∧ OnlyChanges passParts s t ∧
      t.trace.records = left ∧ t.trace.nextSeq = s.trace.nextSeq ∧ t.trace.threshold = s.trace.threshold ∧
      TraceLevelLaw t ∧ (m = 0 → AnswersWith p .traceRead (okResp [0, 0, 0]) [] s t) ∧ (0 < m → Blocked t)) ∧
  (Taken .traceLevel p body s →
    let n := min (max (u16 body 0).toNat 1) 512
    ∃ t, exec (.traceLevel p body) s = .next t ∧
      AnswersWith p .traceLevel (okResp (nat16 n ++ nat16 s.trace.records.length)) [.trace, .notices] s t ∧
      t.trace = { s.trace with threshold := n } ∧ TraceLevelLaw t ∧
      (∀ q : Port, q ≠ 0 → t.notice q = s.notice q) ∧ (t.notice 0).mask = (s.notice 0).mask ∧
      (t.notice 0).inService = (s.notice 0).inService ∧
      ∀ k : RankIx, k ≠ 2 → (t.notice 0).pending[k] = (s.notice 0).pending[k])

/-! ## PAIR -/

/-- R73, R107: the checks of PAIR in order. A PAIR that passes them is placed behind every entry of its level or a higher one
and before every entry of a lower one, with no obstacle and its wait clamped to 10,000 ms, and a pass is made; with a wait of
0 its entry is then answered. That STATE carries no body is an inference (log entry 20). -/
def Obligations.PairRefusedOrPlaced : Prop := ∀ (p : Port) (body : List Octet) (s : State),
  DeviceInv s → Taken .pair p body s →
  let choice : Option LaneChoice :=
    if u8 body 0 = 0 then some (.only .A)
    else if u8 body 0 = 1 ∧ s.dualLane = true then some (.only .B)
    else if u8 body 0 = 2 then some .either else none
  (choice = none → ∃ t, exec (.pair p body) s = .next t ∧ AnswersWith p .pair (resp .range []) [] s t) ∧
  (choice ≠ none → s.line = .setup →
    ∃ t, exec (.pair p body) s = .next t ∧ AnswersWith p .pair (resp .state []) [] s t) ∧
  (choice ≠ none → s.line = .paused →
    ∃ t, exec (.pair p body) s = .next t ∧ AnswersWith p .pair (resp .paused []) [] s t) ∧
  (choice ≠ none → s.line = .run → (s.pairings.filter (fun pr => pr.port == p)).length = 2 →
    ∃ t, exec (.pair p body) s = .next t ∧ AnswersWith p .pair (resp .limit []) [] s t) ∧
  ∀ c ∈ choice, s.line = .run → (s.pairings.filter (fun pr => pr.port == p)).length < 2 →
    let e : WaitEntry :=
      { port := p, level := s.roles[p].level, choice := c, start := s.clock,
        length := 10 * min (u16 body 1).toNat 10000, obstacle := none }
    let placed := { s.setLink p (.holding .pair) with
      waitList := s.waitList.filter (fun d => decide (e.level ≤ d.level)) ++
        e :: s.waitList.filter (fun d => decide (d.level < e.level)) }
    let after := arbiterPass placed
    exec (.pair p body) s = .next (if e.length = 0 then answerEntry p after else after) ∧
      OnlyChanges passParts s after ∧ PortsKept (p :: waitPorts s) s after ∧ Blocked after

/-- R74, R83, R92, R111: a PAIR that nobody waits beside. Without trace room, or where its selection fails, it is answered
TRACE_FULL or NONE at once with a wait of 0, and held with that obstacle otherwise; where a selection finds a site and a die,
it is granted them under the next ticket. -/
def Obligations.PairServedAlone : Prop := ∀ (p : Port) (body : List Octet) (c : LaneChoice) (s : State),
  DeviceInv s → Taken .pair p body s → s.choiceOf (u8 body 0) = some c → s.line = .run → s.waitList = [] →
  (s.pairings.filter (fun pr => pr.port == p)).length < 2 →
  let wait := 10 * min (u16 body 1).toNat 10000
  let room := s.trace.records.length + s.pairings.length < 512
  let entry : WaitEntry :=
    { port := p, level := s.roles[p].level, choice := c, start := s.clock, length := wait, obstacle := none }
  let heldWith := fun (o : Obstacle) (t : State) =>
    t.ports[p] = { selLow := s.ports[p].selLow, link := .holding .pair } ∧
      t.waitList = [{ entry with obstacle := some o }] ∧ PortsKept [p] s t ∧ OnlyChanges [.ports, .waitList] s t
  (¬ room → wait = 0 → ∃ t, exec (.pair p body) s = .next t ∧
    AnswersWith p .pair (resp .traceFull (nat16 s.trace.records.length ++ [oct s.pairings.length])) [] s t) ∧
  (¬ room → wait ≠ 0 → ∃ t, exec (.pair p body) s = .next t ∧
    heldWith (.trace s.trace.records.length s.pairings.length) t) ∧
  (room → ∀ cause : Cause, select s p c = .failed cause →
    (wait = 0 → ∃ t, exec (.pair p body) s = .next t ∧ AnswersWith p .pair (resp .noneHere [cause.code]) [] s t) ∧
    (wait ≠ 0 → ∃ t, exec (.pair p body) s = .next t ∧ heldWith (.selection cause) t)) ∧
  (room → ∀ f : Found, select s p c = .found f → ∀ tk ∈ nextTicket s,
    exec (.pair p body) s = .next (grantPair p f tk (s.setLink p (.holding .pair))))

/-! ## The head reports -/

/-- R95, Table 6-4: the ticket check comes first: NOT_OWNER, STALE with the entry's outcome, or UNKNOWN. A report on a pairing
of its own port then meets its field check, and BUSY with the phase where its phase is not the report's. None changes more
than the port. -/
def Obligations.ReportsCheckTheirTicket : Prop := ∀ (k : Kind) (p : Port) (body : List Octet) (s : State),
  k ∈ [Kind.picked, .bonded, .pickFail, .discard] → DeviceInv s → Taken k p body s →
  let tk := u8 body 0
  let reasonOk := k = .pickFail → 1 ≤ (u8 body 1).toNat ∧ (u8 body 1).toNat ≤ 3
  ((∃ pr ∈ s.pairings, pr.ticket = tk ∧ pr.port ≠ p) ∨ (∃ e ∈ s.ring, e.ticket = tk ∧ e.port ≠ p) →
    ∃ t, exec (requestOf k p body) s = .next t ∧ AnswersWith p k (resp .notOwner []) [] s t) ∧
  (∀ e ∈ s.ring, e.ticket = tk → e.port = p →
    ∃ t, exec (requestOf k p body) s = .next t ∧ AnswersWith p k (resp .stale [e.outcome.code]) [] s t) ∧
  ((∀ pr ∈ s.pairings, pr.ticket ≠ tk) → (∀ e ∈ s.ring, e.ticket ≠ tk) →
    ∃ t, exec (requestOf k p body) s = .next t ∧ AnswersWith p k (resp .unknown []) [] s t) ∧
  ∀ pr ∈ s.pairings, pr.ticket = tk → pr.port = p →
    (¬ reasonOk → ∃ t, exec (requestOf k p body) s = .next t ∧ AnswersWith p k (resp .range []) [] s t) ∧
    (reasonOk → k ∈ [Kind.bonded, .discard] → pr.phase = .claimed →
      ∃ t, exec (requestOf k p body) s = .next t ∧ AnswersWith p k (resp .busy [1]) [] s t) ∧
    (reasonOk → k ∈ [Kind.picked, .pickFail] → pr.phase ≠ .claimed →
      ∃ t, exec (requestOf k p body) s = .next t ∧ AnswersWith p k (resp .busy [2]) [] s t)

/-- R96, R84: PICKED taken in CLAIMED: the die is PICKED, the pairing's bond lease runs from the report's reading, and the
last-pick position is the die's. The answer carries the lease deadline and the remaining open time. -/
def Obligations.PickedReport : Prop := ∀ (p : Port) (body : List Octet) (s : State),
  DeviceInv s → Taken .picked p body s →
  ∀ pr ∈ s.pairings, pr.ticket = u8 body 0 → pr.port = p → pr.phase = .claimed →
    let lease := 10 * (pr.product s).bondLeaseMs
    let left := (pr.product s).openTime * 100 - elapsed (pr.wetTime s) s.clock
    ∃ t, exec (.picked p body) s = .next t ∧
      AnswersWith p .picked (okResp (be32 (s.clock + BitVec.ofNat 32 lease) ++ be32 (BitVec.ofNat 32 left)))
        [.banks, .pairings, .lastPick] s t ∧
      t.pairings = s.pairings.map (fun q => if q.ticket = pr.ticket then
        { pr with phase := .picked s.clock, leaseStart := s.clock, leaseLength := lease } else q) ∧
      t.lastPick = s.lastPick.set p.val ⟨pr.col, pr.row⟩ p.isLt ∧
      t.banks = s.banks.set pr.bank { s.bank pr.bank with
        dies := putDie (s.bank pr.bank).dies (pr.dieIndex s) { pr.dieRecord s with state := .picked } }

/-- R97, R98: BONDED taken in PICKED is LATE at an age of T or more, else MISPLACED where an offset exceeds the tolerance,
else BONDED; the die is PLACED, the site takes its bond fields, the BOND record with both flags and the ring entry are
written. R30, R33: the settled site lowers the wet-ahead count, has the lane's held DOT re-examined and its strip checked
for STRIP_SETTLED. -/
def Obligations.BondedReport : Prop := ∀ (p : Port) (body : List Octet) (s : State),
  DeviceInv s → Taken .bonded p body s →
  ∀ pr ∈ s.pairings, pr.ticket = u8 body 0 → pr.port = p → ∀ pickTime, pr.phase = .picked pickTime →
    let dx := u16 body 1
    let dy := u16 body 3
    let age := s.clock - pr.wetTime s
    let late := decide ((pr.product s).openTime * 100 ≤ age.toNat)
    let off := decide ((pr.product s).tolerance < dx.toInt.natAbs ∨ (pr.product s).tolerance < dy.toInt.natAbs)
    let fields : BondFields :=
      { wetTime := pr.wetTime s, bondTime := s.clock, ageAtBond := age, waferId := pr.waferId, col := pr.col,
        row := pr.row, grade := pr.grade, headPort := p }
    ∃ t, exec (.bonded p body) s = .next t ∧
      AnsweredAt p .bonded
        (okResp (pr.ticket :: (be32 age ++ [if late then 5 else if off then 6 else 4]))) none s t ∧
      PortsKept (p :: waitPorts s ++ dotPorts s) s t ∧ OnlyChanges endParts s t ∧ Blocked t ∧
      t.pairing pr.ticket = none ∧ (∀ q ∈ s.pairings, q.ticket ≠ pr.ticket → q ∈ t.pairings) ∧
      RingGains { ticket := pr.ticket, port := p,
                  outcome := if late then .late else if off then .misplaced else .bonded } s t ∧
      TraceGains (endRecord pr (.bond late off age dx dy) pickTime s) s t ∧
      DieLeft pr { pr.dieRecord s with state := .placed } s t ∧
      t.site pr.lane pr.arrival pr.site =
        some (if late then .late fields else if off then .misplaced fields else .bonded fields) ∧
      DotReexamined pr.lane s t ∧ SettlementAnnounced pr.lane pr.arrival s t ∧
      ∀ q : Port, q ≠ 0 → s.role q ≠ .wafer → s.role q ≠ .indexer → t.notice q = s.notice q

/-- R99: PICK_FAIL taken in CLAIMED: the die is FAILED, ABSENT, AVAILABLE with its retry count raised, or SUSPECT at retry
count 2, and the site is WETTED with its wet time; no record is written, and another reason is refused RANGE. R100: DISCARD
taken in PICKED: the die is LOST, the site WETTED, the LOSS record written. Both answer, enter the ring and make their
passes. That the answer to reason TOOL carries AVAILABLE even where a pass has claimed the die is the model's choice (log
entry 29). -/
def Obligations.FailedAndDiscardedPicks : Prop := ∀ (p : Port) (body : List Octet) (s : State), DeviceInv s →
  ∀ pr ∈ s.pairings, pr.ticket = u8 body 0 → pr.port = p →
    let common := fun (o : PairOutcome) (t : State) =>
      PortsKept (p :: waitPorts s) s t ∧ OnlyChanges (.ring :: passParts) s t ∧ Blocked t ∧
      t.pairing pr.ticket = none ∧ (∀ q ∈ s.pairings, q.ticket ≠ pr.ticket → q ∈ t.pairings) ∧
      RingGains { ticket := pr.ticket, port := p, outcome := o } s t ∧ SiteWetAgain pr s t ∧
      (t.lane pr.lane).wetAhead = (s.lane pr.lane).wetAhead ∧ t.trace.reservations = t.pairings.length ∧
      ∀ q : Port, q ≠ 0 → s.role q ≠ .wafer → t.notice q = s.notice q
    (Taken .pickFail p body s → ¬ (1 ≤ (u8 body 1).toNat ∧ (u8 body 1).toNat ≤ 3) →
      ∃ t, exec (.pickFail p body) s = .next t ∧ AnswersWith p .pickFail (resp .range []) [] s t) ∧
    (Taken .pickFail p body s → pr.phase = .claimed → 1 ≤ (u8 body 1).toNat → (u8 body 1).toNat ≤ 3 →
      let old := pr.dieRecord s
      let die : DieRecord :=
        if u8 body 1 = 1 then { old with state := .failed }
        else if u8 body 1 = 2 then { old with state := .absent }
        else if old.retry < 2 then { old with state := .available, retry := old.retry + 1 }
        else { old with state := .suspect }
      ∃ t, exec (.pickFail p body) s = .next t ∧
        AnsweredAt p .pickFail (okResp [die.state.code, oct die.retry]) none s t ∧ common .pickFailed t ∧
        TraceKept s t ∧ DieLeft pr die s t) ∧
    (Taken .discard p body s → ∀ pickTime : Reading, pr.phase = .picked pickTime →
      ∃ t, exec (.discard p body) s = .next t ∧ AnsweredAt p .discard (okResp [pr.ticket]) none s t ∧
        common .discarded t ∧ TraceGains (endRecord pr (.loss .discarded) pickTime s) s t ∧
        DieLeft pr { pr.dieRecord s with state := .lost } s t)

/-! ## DOT and DOT_ABORT -/

/-- R56 to R60: DOT is refused STATE in SETUP, PAUSED in PAUSED, and BUSY with the DISPENSING site. A lane below its wet-ahead
limit with an EMPTY site is served: the lowest-indexed EMPTY site of its oldest strip that holds one becomes DISPENSING under
an assignment with its deadline, and the grant carries lane, strip id, site and dot window. Any other lane answers NONE to a
wait of 0 and holds a longer one as its dot waiter. A re-examination serves the waiter in the same way or leaves it held. That
STATE carries no body is an inference (log entry 20). -/
def Obligations.DotServedRefusedOrHeld : Prop := ∀ (p : Port) (body : List Octet) (l : Lane) (s : State), DeviceInv s →
  let wait := 10 * min (u16 body 0).toNat 10000
  let room := (s.lane l).wetAhead < (s.lane l).wetLimit
  let served := room ∧ ∃ st ∈ (s.lane l).strips, Site.empty ∈ st.sites
  let granted := fun (q : Port) (older newer : List Strip) (st : Strip) (i : Nat) (t : State) =>
    let a : Assignment :=
      { slot := st.slot, arrival := st.arrival, stripId := st.id, site := i
        deadline := s.clock + BitVec.ofNat 32 (10 * (s.lane l).dotDeadlineMs), deadlineRuns := true }
    OnlyChanges [.ports, .lanes, .gates] s t ∧ PortsKept [q] s t ∧
      AnsweredAt q .dot
        (okResp (laneCode l :: (be32 st.id ++ oct i :: (nat16 (s.product st.product).dotMin ++
          nat16 (s.product st.product).dotMax)))) (some (.dot l a.slot a.arrival a.stripId a.site a.deadline)) s t ∧
      t.lanes = s.lanes.set l { s.lane l with
        strips := older ++ { st with sites := st.sites.set i .dispensing } :: newer
        wetAhead := (s.lane l).wetAhead + 1 } ∧
      t.gates = s.gates.set l { s.gate l with waiter := none, assignment := some a }
  (Taken .dot p body s → s.role p = .dispenser l →
    (s.line = .setup → ∃ t, exec (.dot p body) s = .next t ∧ AnswersWith p .dot (resp .state []) [] s t) ∧
    (s.line = .paused → ∃ t, exec (.dot p body) s = .next t ∧ AnswersWith p .dot (resp .paused []) [] s t) ∧
    (s.line = .run → ∀ a ∈ (s.gate l).assignment, ∃ t, exec (.dot p body) s = .next t ∧
      AnswersWith p .dot (resp .busy (be32 a.stripId ++ [oct a.site])) [] s t) ∧
    (s.line = .run → (s.gate l).assignment = none → ¬ served →
      (wait = 0 → ∃ t, exec (.dot p body) s = .next t ∧ AnswersWith p .dot (resp .noneHere []) [] s t) ∧
      (wait ≠ 0 → ∃ t, exec (.dot p body) s = .next t ∧ OnlyChanges [.ports, .gates] s t ∧ PortsKept [p] s t ∧
        t.ports[p] = { selLow := s.ports[p].selLow, link := .holding .dot } ∧
        t.gates = s.gates.set l
          { s.gate l with waiter := some { port := p, start := s.clock, length := wait } })) ∧
    (s.line = .run → (s.gate l).assignment = none → room →
      ∀ (older newer : List Strip) (st : Strip) (i : Nat), (s.lane l).strips = older ++ st :: newer →
        (∀ x ∈ older, Site.empty ∉ x.sites) → st.sites[i]? = some .empty → (∀ j < i, st.sites[j]? ≠ some .empty) →
        ∃ t, exec (.dot p body) s = .next t ∧ granted p older newer st i t)) ∧
  ∀ w ∈ (s.gate l).waiter, (¬ served → reexamine l s = s) ∧
    (room → ∀ (older newer : List Strip) (st : Strip) (i : Nat), (s.lane l).strips = older ++ st :: newer →
      (∀ x ∈ older, Site.empty ∉ x.sites) → st.sites[i]? = some .empty → (∀ j < i, st.sites[j]? ≠ some .empty) →
      granted w.port older newer st i (reexamine l s))

/-- R68, R67: DOT_ABORT gives the DISPENSING site back as EMPTY unless a bound pulse is in progress, which refuses it BUSY;
with no assignment it is answered NONE. A dot deadline that has come does the same with DOT_ENDED to the dispenser, reason
TIMEOUT; while a bound pulse is in progress it is ignored, and the assignment stays with no further deadline. When a
deadline has come, and that a command before it has no effect, are the model's (log entries 8, 16). -/
def Obligations.SiteTakenBack : Prop := ∀ (p : Port) (body : List Octet) (l : Lane) (s : State), DeviceInv s →
  (Taken .dotAbort p body s → s.role p = .dispenser l →
    ((s.gate l).assignment = none →
      ∃ t, exec (.dotAbort p body) s = .next t ∧ AnswersWith p .dotAbort (resp .noneHere []) [] s t) ∧
    ∀ a ∈ (s.gate l).assignment,
      ((∃ w, (s.gate l).measurement = .inProgress w true) → ∃ t, exec (.dotAbort p body) s = .next t ∧
        AnswersWith p .dotAbort (resp .busy (be32 a.stripId ++ [oct a.site])) [] s t) ∧
      ((∀ w, (s.gate l).measurement ≠ .inProgress w true) → ∃ t, exec (.dotAbort p body) s = .next t ∧
        AnswersWith p .dotAbort (okResp (be32 a.stripId ++ [oct a.site])) [.lanes, .gates] s t ∧
        t.lanes = s.lanes.set l { s.lane l with
          strips := (s.lane l).strips.map
            (fun st => if st.arrival = a.arrival then { st with sites := st.sites.set a.site .empty } else st)
          wetAhead := (s.lane l).wetAhead - 1 } ∧
        t.gates = s.gates.set l { s.gate l with assignment := none })) ∧
  (s.resetAsserted = false →
    ((s.gate l).assignment = none → NoEffect (.dotDeadlineExpiry l) s) ∧
    ∀ a ∈ (s.gate l).assignment,
      let due := a.deadlineRuns = true ∧ elapsed a.deadline s.clock < 2 ^ 31
      (¬ due → NoEffect (.dotDeadlineExpiry l) s) ∧
      (due → (s.gate l).measurement.isBound = true →
        ∃ t, exec (.dotDeadlineExpiry l) s = .next t ∧ OnlyChanges [.gates] s t ∧
          t.gates = s.gates.set l { s.gate l with assignment := some { a with deadlineRuns := false } }) ∧
      (due → (s.gate l).measurement.isBound = false →
        ∃ t, exec (.dotDeadlineExpiry l) s = .next t ∧ OnlyChanges [.gates, .lanes, .notices] s t ∧
          t.gates = s.gates.set l { s.gate l with assignment := none } ∧
          t.lanes = s.lanes.set l { s.lane l with
            strips := (s.lane l).strips.map
              (fun st => if st.arrival = a.arrival then { st with sites := st.sites.set a.site .empty } else st)
            wetAhead := (s.lane l).wetAhead - 1 } ∧
          ∀ q : Port, t.notice q =
            if s.role q = .dispenser l then afterRaise (.dotEnded a.stripId a.site .timeout) q s else s.notice q))

/-! ## Strips -/

/-- R26, R27, R31, R33: the checks of STRIP_IN in order, and the entry of a strip at the newest end: the lowest free slot, the
next arrival number, the listed sites SKIPPED and the rest EMPTY. An all-SKIPPED strip in an empty lane raises STRIP_SETTLED.
The lane's held DOT is re-examined: it is given the site to dot where the lane can now serve it, and stays held where the lane
is at its wet-ahead limit or has no EMPTY site. The octet of the skipped count is an inference (log entry 19). -/
def Obligations.StripEnters : Prop := ∀ (p : Port) (body : List Octet) (s : State), DeviceInv s → Taken .stripIn p body s →
  ((∀ l ∈ bothLanes, ¬ NamesLane (u8 body 0) s l) →
    ∃ t, exec (.stripIn p body) s = .next t ∧ AnswersWith p .stripIn (resp .range []) [] s t) ∧
  ∀ l ∈ bothLanes, NamesLane (u8 body 0) s l →
    ((s.lane l).strips.length = 4 →
      ∃ t, exec (.stripIn p body) s = .next t ∧ AnswersWith p .stripIn (resp .full []) [] s t) ∧
    ((s.lane l).strips.length < 4 →
      ((∀ c : ProductCode, c.val = (u8 body 5).toNat → s.products[c] = none) ∨ u32 body 1 = 0) →
      ∃ t, exec (.stripIn p body) s = .next t ∧ AnswersWith p .stripIn (resp .range []) [] s t) ∧
    ∀ (c : ProductCode) (slot : Fin 4), (s.lane l).strips.length < 4 → c.val = (u8 body 5).toNat → u32 body 1 ≠ 0 →
      ∀ pr ∈ s.products[c], (∀ st ∈ (s.lane l).strips, st.slot ≠ slot) →
      (∀ j : Fin 4, j < slot → ∃ st ∈ (s.lane l).strips, st.slot = j) →
      let listed := fun i : Nat => decide (∃ o ∈ body.drop 7, o.toNat = i)
      let sites := (List.range pr.siteCount).map (fun i => if listed i then Site.skipped else Site.empty)
      let free := (List.range pr.siteCount).filter (fun i => !listed i)
      let strip : Strip := { id := u32 body 1, product := c, arrival := (s.lane l).arrivalCounter, slot := slot
                             sites := sites, unsettled := free.length }
      ∃ t, exec (.stripIn p body) s = .next t ∧ OnlyChanges [.ports, .lanes, .gates, .notices] s t ∧
        AnsweredAt p .stripIn
          (okResp (be32 strip.arrival ++ [oct slot.val, oct (pr.siteCount - free.length)])) none s t ∧
        PortsKept (p :: dotPorts s) s t ∧
        (t.lane l).strips.map (fun st => st.arrival) =
          (s.lane l).strips.map (fun st => st.arrival) ++ [strip.arrival] ∧
        (t.lane l).arrivalCounter = (s.lane l).arrivalCounter + 1 ∧
        (∀ q : Port, t.notice q =
          if q = p ∧ (s.lane l).strips = [] ∧ free = [] then
            afterRaise (.stripSettled (t.oldestSettled .A) (t.oldestSettled .B)) q s else s.notice q) ∧
        ((s.gate l).waiter = none ∨ (s.lane l).wetLimit ≤ (s.lane l).wetAhead ∨
            (free = [] ∧ ∀ st ∈ (s.lane l).strips, Site.empty ∉ st.sites) →
          t.gates = s.gates ∧ t.lanes = s.lanes.set l { s.lane l with
            strips := (s.lane l).strips ++ [strip], arrivalCounter := (s.lane l).arrivalCounter + 1 }) ∧
        DotServed l ((s.lane l).strips ++ [strip]) (s.lane l).wetAhead s t

/-- R35 to R37, R60, R33: STRIP_OUT is refused RANGE for a lane the part has not, and answered NONE for an empty lane; otherwise the
oldest strip leaves, and the answer is its summary. Its DISPENSING site ends its assignment with DOT_ENDED, the wet-ahead
count falls by its counted sites, the lane's held DOT is re-examined, and a settled new oldest strip is announced with
STRIP_SETTLED. The octets of the counts are an inference (log entry 19). -/
def Obligations.StripLeaves : Prop := ∀ (p : Port) (body : List Octet) (s : State),
  DeviceInv s → Blocked s → Taken .stripOut p body s →
  ((∀ l ∈ bothLanes, ¬ NamesLane (u8 body 0) s l) →
    ∃ t, exec (.stripOut p body) s = .next t ∧ AnswersWith p .stripOut (resp .range []) [] s t) ∧
  ∀ l ∈ bothLanes, NamesLane (u8 body 0) s l →
    ((s.lane l).strips = [] →
      ∃ t, exec (.stripOut p body) s = .next t ∧ AnswersWith p .stripOut (resp .noneHere []) [] s t) ∧
    ∀ (st : Strip) (rest : List Strip), (s.lane l).strips = st :: rest →
      let count := fun (f : Nat) => oct (st.sites.filter (fun x => x.code.toNat == f)).length
      ∃ t, exec (.stripOut p body) s = .next t ∧ OnlyChanges endParts s t ∧ Blocked t ∧
        AnsweredAt p .stripOut
          (okResp (be32 st.id ++ be32 st.arrival ++
            [count 4, count 5, count 6, count 7 + count 1 + count 2 + count 3, count 8, count 9, count 10, count 0]))
          none s t ∧
        PortsKept (p :: waitPorts s ++ dotPorts s) s t ∧
        (t.lane l).strips.map (fun x => (x.arrival, x.id, x.slot)) = rest.map (fun x => (x.arrival, x.id, x.slot)) ∧
        (t.lane l).arrivalCounter = (s.lane l).arrivalCounter ∧
        t.notice p =
          (if rest.head?.map (fun x => x.unsettled) = some 0 then
            afterRaise (.stripSettled (t.oldestSettled .A) (t.oldestSettled .B)) p s else s.notice p) ∧
        DotServed l rest ((s.lane l).wetAhead - (st.sites.filter Site.countsWet).length) s t ∧
        ((s.gate l).waiter = none →
          (t.lane l).wetAhead = (s.lane l).wetAhead - (st.sites.filter Site.countsWet).length ∧
          ((∀ a ∈ (s.gate l).assignment, a.arrival ≠ st.arrival) → t.gates = s.gates) ∧
          ∀ a ∈ (s.gate l).assignment, a.arrival = st.arrival →
            t.gates = s.gates.set l
              { s.gate l with assignment := none, measurement := (s.gate l).measurement.unbind } ∧
            ∀ q : Port, s.role q = .dispenser l →
              t.notice q = afterRaise (.dotEnded a.stripId a.site .stripGone) q s)

/-- R102, R36, R91: STRIP_OUT revokes the pairings of the departing strip in ascending site index: tickets to the ring with
outcome REVOKED, a CLAIMED die AVAILABLE and a PICKED one LOST with its LOSS record, PAIRING_ENDED to each head. R142: a
head that loses both its pairings finds the two as its two latest entries, and its end count 2 higher. Pairings elsewhere
stay. -/
def Obligations.DepartureRevokes : Prop := ∀ (p : Port) (body : List Octet) (l : Lane) (st : Strip) (rest : List Strip)
    (s : State),
  DeviceInv s → Taken .stripOut p body s → NamesLane (u8 body 0) s l → (s.lane l).strips = st :: rest →
  let revoked := (st.sites.filterMap pairedUnder).filterMap s.pairing
  ∃ t, exec (.stripOut p body) s = .next t ∧
    (∀ pr ∈ s.pairings, pr ∉ revoked → pr ∈ t.pairings) ∧
    t.ring = (s.ring ++ revoked.map
      (fun pr => ({ ticket := pr.ticket, port := pr.port, outcome := .revoked } : RingEntry))).drop
        (s.ring.length + revoked.length - 16) ∧
    t.trace.records.take s.trace.records.length = s.trace.records ∧
    (t.trace.records.drop s.trace.records.length).map (fun r => (r.ticket, r.kind, r.site, r.endTime)) =
      (revoked.filter Pairing.isPicked).map (fun pr => (pr.ticket, TraceKind.loss .revoked, pr.site, s.clock)) ∧
    (∀ (q : Port) (pr pr' : Pairing), revoked.filter (fun x => x.port == q) = [pr, pr'] →
      let both : List (Ticket × PairOutcome) := [(pr.ticket, .revoked), (pr'.ticket, .revoked)]
      (t.notice q).mask = (s.notice q).mask ∧ (t.notice q).inService = (s.notice q).inService ∧
        (∀ k : RankIx, k ≠ 0 → (t.notice q).pending[k] = (s.notice q).pending[k]) ∧
        ((s.notice q).pending[(0 : RankIx)] = none →
          (t.notice q).pending[(0 : RankIx)] = some (.pairingEnded 2 both)) ∧
        ∀ (n : Nat) (es : List (Ticket × PairOutcome)), (s.notice q).pending[(0 : RankIx)] = some (.pairingEnded n es) →
          es.length ≤ 2 → (t.notice q).pending[(0 : RankIx)] = some (.pairingEnded (min 255 (n + 2)) both)) ∧
    ∀ pr ∈ revoked, pr.lane = l ∧ pr.arrival = st.arrival ∧ t.pairing pr.ticket = none ∧
      (if (s.bank pr.bank).state = .retiring ∧ ∀ q ∈ s.pairings, q ∈ revoked then Emptied (t.bank pr.bank)
       else if pr.isPicked = true then
         dieAt (t.bank pr.bank).dies (pr.dieIndex s) = { pr.dieRecord s with state := .lost }
       else dieAt (t.bank pr.bank).dies (pr.dieIndex s) = { pr.dieRecord s with state := .available } ∨
         ((s.bank pr.bank).state = .active ∧
           dieAt (t.bank pr.bank).dies (pr.dieIndex s) = { pr.dieRecord s with state := .claimed })) ∧
      ((∀ q ∈ revoked, q.port = pr.port → q = pr) →
        t.notice pr.port = afterRaise (.pairingEnded 1 [(pr.ticket, .revoked)]) pr.port s)

/-! ## The clock, the sweep and the timers -/

/-- R41, R45, R49 to R52, R33: a tick first takes what its reading still has in hand, the hand-overs, the visit owed and every
expiry due, and then advances the reading and the sweep position by 1, samples both gates and owes the visit at the new reading. The
visit, which comes on an empty queue, spoils the WETTED site at its position whose age has reached its product's open time,
with SITE_SPOILED to S0; any other visit does nothing. The gate samples are log entry 7, the expiries log entry 16, the
visit owed log entries 2 and 28, the hand-overs log entry 30. -/
def Obligations.ClockTickVisitsOneSite : Prop := ∀ (s : State), DeviceInv s → s.resetAsserted = false →
  let sampled := fun (g : GateMonitor) => { g with ready := g.ready || !g.gateActive }
  let n := (s.sweepPos - 1).toNat
  let l : Lane := if n < 256 then .A else .B
  (∃ u, step { s with pending := [] } = .next u ∧ ∃ v, execAll (dueCommands u) { u with pending := s.pending } = .next v ∧
    v.clock = s.clock ∧ v.visitOwed = false ∧ NoneInHand v ∧ NoTimerDue v ∧
    exec .clockTick s = exec .clockTick v) ∧
  (s.visitOwed = false → NoneInHand s → NoTimerDue s → ∃ t, exec .clockTick s = .next t ∧
    OnlyChanges [.clock, .sweep, .visit, .gates] s t ∧ t.clock = s.clock + 1 ∧ t.sweepPos = s.sweepPos + 1 ∧ t.visitOwed = true ∧
    t.gates = ⟨sampled s.gates.a, sampled s.gates.b⟩) ∧
  (s.visitOwed = true → NoneInHand s → s.pending = [] → ∃ t, step s = .next t ∧ t.visitOwed = false ∧
    OnlyChanges [.visit, .gates, .lanes, .notices, .ports] s t ∧
    ((∀ st ∈ (s.lane l).strips, st.slot.val = n / 64 % 4 → ∀ w, st.sites[n % 64]? = some (.wetted w) →
        elapsed w s.clock < (s.product st.product).openTime * 100) → OnlyChanges [.visit] s t) ∧
    ∀ st ∈ (s.lane l).strips, st.slot.val = n / 64 % 4 → ∀ w, st.sites[n % 64]? = some (.wetted w) →
      (s.product st.product).openTime * 100 ≤ elapsed w s.clock →
      t.site l st.arrival (n % 64) = some (.spoiled w) ∧ PortsKept (dotPorts s) s t ∧
      t.notice 0 = afterRaise (.siteSpoiled l st.id (n % 64) 1) 0 s ∧
      DotReexamined l s t ∧ SettlementAnnounced l st.arrival s t ∧
      (∀ q : Port, q ≠ 0 → s.role q ≠ .indexer → t.notice q = s.notice q) ∧
      ((s.gate l).waiter = none →
        t.lanes = s.lanes.set l { s.lane l with
          strips := (s.lane l).strips.map (fun x => if x.arrival = st.arrival then
            { x with sites := x.sites.set (n % 64) (.spoiled w), unsettled := x.unsettled - 1 } else x)
          wetAhead := (s.lane l).wetAhead - 1 }))

/-- R101, R45: a lease that is due ends its pairing EXPIRED with PAIRING_ENDED to its head: in CLAIMED the die is SUSPECT
and the site WETTED; in PICKED the die is LOST, the site SUSPECT, and the LOSS record is written, and the settled site is
handed on by R30 and R33: the lane's held DOT is re-examined and its strip checked for STRIP_SETTLED. A lease that is not
due, or a ticket with no pairing, is no event (log entries 4, 16). -/
def Obligations.LeaseExpires : Prop := ∀ (tk : Ticket) (s : State), DeviceInv s → s.resetAsserted = false →
  ((∀ pr ∈ s.pairings, pr.ticket ≠ tk) → NoEffect (.leaseExpiry tk) s) ∧
  ∀ pr ∈ s.pairings, pr.ticket = tk →
    (elapsed pr.leaseStart s.clock < pr.leaseLength → NoEffect (.leaseExpiry tk) s) ∧
    (pr.leaseLength ≤ elapsed pr.leaseStart s.clock →
      ∃ t, exec (.leaseExpiry tk) s = .next t ∧ OnlyChanges endParts s t ∧ Blocked t ∧
        PortsKept (waitPorts s ++ dotPorts s) s t ∧ t.pairing tk = none ∧
        (∀ q ∈ s.pairings, q.ticket ≠ tk → q ∈ t.pairings) ∧
        RingGains { ticket := tk, port := pr.port, outcome := .expired } s t ∧
        t.notice pr.port = afterRaise (.pairingEnded 1 [(tk, .expired)]) pr.port s ∧
        (pr.phase = .claimed → DieLeft pr { pr.dieRecord s with state := .suspect } s t ∧ SiteWetAgain pr s t ∧
          TraceKept s t ∧ t.gates = s.gates ∧ (t.lane pr.lane).wetAhead = (s.lane pr.lane).wetAhead ∧
          ∀ q : Port, s.role q = .indexer → t.notice q = s.notice q) ∧
        (∀ q : Port, q ≠ 0 → q ≠ pr.port → s.role q ≠ .wafer → s.role q ≠ .indexer → t.notice q = s.notice q) ∧
        ∀ pickTime, pr.phase = .picked pickTime → DieLeft pr { pr.dieRecord s with state := .lost } s t ∧
          t.site pr.lane pr.arrival pr.site = some (.suspect (pr.wetTime s)) ∧
          TraceGains (endRecord pr (.loss .expired) pickTime s) s t ∧
          DotReexamined pr.lane s t ∧ SettlementAnnounced pr.lane pr.arrival s t)

/-- R112, R60: the wait of a PAIR that is due leaves the list with its obstacle as answer, TRACE_FULL with its two counts or
NONE with the cause; the wait of a held DOT that is due is answered NONE. A wait that is not due is no event (log
entries 4, 16), and TRACE_FULL carries the counts of the trace check (log entry 23). -/
def Obligations.WaitsExpire : Prop := ∀ (p : Port) (l : Lane) (s : State), LinkInv s → s.resetAsserted = false →
  ((∀ e ∈ s.waitList, e.port ≠ p) → NoEffect (.pairWaitExpiry p) s) ∧
  (∀ e ∈ s.waitList, e.port = p →
    (elapsed e.start s.clock < e.length → NoEffect (.pairWaitExpiry p) s) ∧
    (e.length ≤ elapsed e.start s.clock → ∀ o ∈ e.obstacle,
      ∃ t, exec (.pairWaitExpiry p) s = .next t ∧ OnlyChanges [.waitList, .ports] s t ∧ PortsKept [p] s t ∧
        t.waitList = s.waitList.filter (fun d => d.port != p) ∧
        AnsweredAt p .pair (match o with
          | .trace queued inFlight => resp .traceFull (nat16 queued ++ [oct inFlight])
          | .selection cause => resp .noneHere [cause.code]) none s t)) ∧
  ((s.gate l).waiter = none → NoEffect (.dotWaitExpiry l) s) ∧
  ∀ w ∈ (s.gate l).waiter,
    (elapsed w.start s.clock < w.length → NoEffect (.dotWaitExpiry l) s) ∧
    (w.length ≤ elapsed w.start s.clock →
      ∃ t, exec (.dotWaitExpiry l) s = .next t ∧ OnlyChanges [.gates, .ports] s t ∧ PortsKept [w.port] s t ∧
        t.gates = s.gates.set l { s.gate l with waiter := none } ∧
        AnsweredAt w.port .dot (resp .noneHere []) none s t)

/-! ## The gate inputs -/

/-- R63, R64: a gate that becomes active starts a measurement; when its width reaches 1 a pulse is in progress, bound exactly
where the lane then has an assignment. That the activity shows an inactive sample before it is log entry 7, and that an
activity of an active gate, or a width without a measurement, is no event is log entry 4. -/
def Obligations.PulseComesIntoProgress : Prop := ∀ (l : Lane) (s : State), s.resetAsserted = false →
  ((s.gate l).gateActive = true → NoEffect (.measurementStart l) s) ∧
  ((s.gate l).gateActive = false →
    ∃ t, exec (.measurementStart l) s = .next t ∧ OnlyChanges [.gates] s t ∧
      t.gates = s.gates.set l { s.gate l with ready := true, gateActive := true, measurement := .started }) ∧
  ((s.gate l).measurement = .started →
    ∃ t, exec (.pulseInProgress l) s = .next t ∧ OnlyChanges [.gates] s t ∧
      t.gates = s.gates.set l { s.gate l with measurement := .inProgress 1 (s.gate l).assignment.isSome }) ∧
  ((s.gate l).measurement ≠ .started → NoEffect (.pulseInProgress l) s)

/-- R63, R65, R66: a falling edge or a saturation completes a pulse. A bound one is judged: inside its product's dot window its
site is WETTED at the present reading, outside it BAD_DOT with DOT_REJECTED. An unbound one is an orphan, counted up to 255,
with PULSE_ORPHAN. An activity of width 0 is ignored, and after a saturation the edge ends nothing. A measurement that no
PULSE_IN_PROGRESS told takes its binding at its completion, and a told width is the least one: log entry 6. That an edge of an
inactive gate, or a saturation without a measurement, is no event is log entry 4. -/
def Obligations.PulsesComplete : Prop := ∀ (l : Lane) (width : Half) (s : State), DeviceInv s → s.resetAsserted = false →
  let g := s.gate l
  let fallen := { g with gateActive := false, measurement := .idle, ready := true }
  let binding := match g.measurement with
    | .inProgress _ b => b
    | _ => g.assignment.isSome
  let counted := match g.measurement with
    | .inProgress w _ => max w width.toNat
    | _ => width.toNat
  let judged := fun (c : Instr) (w : Nat) (after : GateMonitor) => ∃ t, exec c s = .next t ∧
    (binding = false → OnlyChanges [.gates, .notices] s t ∧
      t.gates = s.gates.set l { after with orphans := min 255 (g.orphans + 1) } ∧
      ∀ q : Port, t.notice q =
        if s.role q = .dispenser l then afterRaise (.pulseOrphan (min 255 (g.orphans + 1))) q s else s.notice q) ∧
    (binding = true → ∀ a ∈ g.assignment, ∀ st ∈ (s.lane l).strips, st.arrival = a.arrival →
      let good := (s.product st.product).dotMin ≤ w ∧ w ≤ (s.product st.product).dotMax
      t.gates = s.gates.set l { after with assignment := none } ∧
      (good → OnlyChanges (.gates :: passParts) s t ∧ PortsKept (waitPorts s) s t ∧ Blocked t ∧
        (t.lane l).wetAhead = (s.lane l).wetAhead ∧
        (t.site l a.arrival a.site = some (.wetted s.clock) ∨
          ∃ pr ∈ t.pairings, t.site l a.arrival a.site = some (.paired s.clock pr.ticket))) ∧
      (¬ good → OnlyChanges [.gates, .lanes, .notices] s t ∧
        t.lanes = s.lanes.set l { s.lane l with
          strips := (s.lane l).strips.map (fun x => if x.arrival = a.arrival then
            { x with sites := x.sites.set a.site .badDot, unsettled := x.unsettled - 1 } else x)
          wetAhead := (s.lane l).wetAhead - 1 } ∧
        ∀ q : Port, t.notice q =
          if s.role q = .dispenser l then afterRaise (.dotRejected a.stripId a.site w) q s
          else if s.role q = .indexer ∧ (s.lane l).strips.head? = some st ∧ st.unsettled = 1 then
            afterRaise (.stripSettled (t.oldestSettled .A) (t.oldestSettled .B)) q s
          else s.notice q))
  (g.gateActive = false → NoEffect (.gateFallingEdge l width) s) ∧
  (g.gateActive = true → (g.measurement = .idle ∨ counted = 0) →
    ∃ t, exec (.gateFallingEdge l width) s = .next t ∧ OnlyChanges [.gates] s t ∧ t.gates = s.gates.set l fallen) ∧
  (g.gateActive = true → g.measurement ≠ .idle → counted ≠ 0 → judged (.gateFallingEdge l width) counted fallen) ∧
  (g.measurement = .idle → NoEffect (.pulseSaturation l) s) ∧
  (g.measurement ≠ .idle → judged (.pulseSaturation l) 65535 { g with measurement := .idle, ready := false })

/-! ## Selection, grants and passes -/

/-- R76, R77: the candidate sites are the WETTED and eligible sites of the allowed lanes, and site order is by age, oldest
first, then lane A before B, the earlier strip, the lower index. -/
def Obligations.CandidateSitesInOrder : Prop := ∀ (p : Port) (c : LaneChoice) (s : State), DeviceInv s →
  let before := fun (a b : Candidate) =>
    (a.lane = .A ∧ b.lane = .B) ∨ (a.lane = b.lane ∧
      let queue := (s.lane a.lane).strips.map (fun st => st.arrival)
      (queue.idxOf a.arrival < queue.idxOf b.arrival ∨ (a.arrival = b.arrival ∧ a.site < b.site)))
  (∀ x : Candidate, x ∈ candidates s p c ↔
    (c = .either ∨ c = .only x.lane) ∧ (if x.lane = .A then s.reach[p].laneA else s.reach[p].laneB) = true ∧
    ∃ st ∈ (s.lane x.lane).strips, x.arrival = st.arrival ∧ x.stripId = st.id ∧ x.product = st.product ∧
      ∃ w, st.sites[x.site]? = some (.wetted w) ∧ x.age = elapsed w s.clock ∧
        let left := (s.product st.product).openTime * 100 - x.age
        10 * (s.product st.product).marginMs ≤ left ∧ 0 < left) ∧
  (siteOrder (candidates s p c)).Perm (candidates s p c) ∧
  (siteOrder (candidates s p c)).Pairwise (fun a b => b.age < a.age ∨ (b.age = a.age ∧ before a b))

/-- R80, R81, R82: the die search finds the AVAILABLE die of an accepted grade within a clipped enabled window that has the
lowest travel cost, and among those the lowest index; it ends empty exactly where no die matches. -/
def Obligations.DieSearchIsCheapest : Prop := ∀ (b : MapBank) (r : Reach) (start : Pos) (grades : BitVec 16),
  dieTableWf b.dies →
  let inside := fun (w : Window) (i : Nat) => w.enabled = true ∧
    w.colLo ≤ i % b.cols ∧ i % b.cols ≤ min w.colHi (b.cols - 1) ∧
    w.rowLo ≤ i / b.cols ∧ i / b.cols ≤ min w.rowHi (b.rows - 1)
  let matching := fun (i : Nat) => (dieAt b.dies i).state = .available ∧
    grades.getLsbD (dieAt b.dies i).grade.toNat = true ∧ (inside r.w1 i ∨ inside r.w2 i)
  let cost := fun (i : Nat) =>
    max (((i % b.cols : Nat) - start.col : Int).natAbs * b.colPitch)
      (((i / b.cols : Nat) - start.row : Int).natAbs * b.rowPitch)
  (dieSearch b r start grades = none ↔ ∀ i : Nat, ¬ matching i) ∧
  ∀ (i : Nat) (d : DieRecord), dieSearch b r start grades = some (i, d) ↔
    matching i ∧ d = dieAt b.dies i ∧ ∀ j : Nat, matching j → cost i < cost j ∨ (cost i = cost j ∧ i ≤ j)

/-- R75, R83: with no ACTIVE bank a selection fails NO_WAFER, with no candidate site NO_SITE, with no matching die for any of
them NO_DIE; else it takes the first site in site order whose search finds a die, with that die. -/
def Obligations.SelectionTakesTheFirstServed : Prop := ∀ (p : Port) (c : LaneChoice) (s : State),
  ((∀ b ∈ bothBanks, (s.bank b).state ≠ .active) → select s p c = .failed .noWafer) ∧
  ∀ b ∈ bothBanks, (s.bank b).state = .active → (b = .b1 → s.banks.b0.state ≠ .active) →
    let search := fun (x : Candidate) =>
      dieSearch (s.bank b) s.reach[p] s.lastPick[p] (s.product x.product).gradeSet
    (candidates s p c = [] → select s p c = .failed .noSite) ∧
    (candidates s p c ≠ [] → (∀ x ∈ candidates s p c, search x = none) → select s p c = .failed .noDie) ∧
    ∀ (before after : List Candidate) (x : Candidate), siteOrder (candidates s p c) = before ++ x :: after →
      (∀ y ∈ before, search y = none) → ∀ d ∈ search x,
        select s p c = .found { bank := b, cand := x, die := d.1, record := d.2 }

/-- R89, R90: at most 8 pairings are in flight, and a ticket is always free: the first value after the last issued one,
counting up through 1 to 255 and from 255 back to 1, that neither a pairing in flight nor the ring holds. -/
def Obligations.NextTicketIsTheFirstFree : Prop := ∀ (s : State), DeviceInv s →
  let up := fun (x : Ticket) => if x = 255 then (1 : Ticket) else x + 1
  let held := fun (x : Ticket) => (∃ pr ∈ s.pairings, pr.ticket = x) ∨ ∃ e ∈ s.ring, e.ticket = x
  s.pairings.length ≤ 8 ∧
    ∃ n < 25, nextTicket s = some (up^[n + 1] s.lastTicket) ∧ ¬ held (up^[n + 1] s.lastTicket) ∧
      ∀ j < n, held (up^[j + 1] s.lastTicket)

/-- R92, Table 6-2, Table 12-6: a grant issues its ticket, claims the die, pairs the site with its wet time kept, makes the
reservation, enters the pairing with its pick lease running, takes the entry off the wait list and answers with the grant's
values; the ACTIVE bank's last AVAILABLE die raises WAFER_EXHAUSTED. -/
def Obligations.GrantMakesThePairing : Prop := ∀ (p : Port) (c : LaneChoice) (f : Found) (tk : Ticket) (s : State),
  DeviceInv s → s.link p = .holding .pair → select s p c = .found f → nextTicket s = some tk →
  let b := s.bank f.bank
  let prod := s.product f.cand.product
  let lease := 10 * prod.pickLeaseMs
  let pr : Pairing :=
    { ticket := tk, port := p, phase := .claimed, bank := f.bank, waferId := b.waferId, col := f.die % b.cols
      row := f.die / b.cols, grade := f.record.grade, lane := f.cand.lane, arrival := f.cand.arrival
      stripId := f.cand.stripId, site := f.cand.site, grantTime := s.clock, leaseStart := s.clock, leaseLength := lease }
  let t := grantPair p f tk s
  OnlyChanges passParts s t ∧ PortsKept [p] s t ∧ t.lastTicket = tk ∧ t.pairings = s.pairings ++ [pr] ∧
    t.trace = { s.trace with reservations := s.trace.reservations + 1 } ∧
    t.waitList = s.waitList.filter (fun e => e.port != p) ∧
    t.banks = s.banks.set f.bank { b with
      dies := putDie b.dies f.die { f.record with state := .claimed }, available := b.available - 1
      refs := b.refs + 1 } ∧
    (∃ w, s.site f.cand.lane f.cand.arrival f.cand.site = some (.wetted w) ∧
      t.lanes = s.lanes.set f.cand.lane { s.lane f.cand.lane with
        strips := (s.lane f.cand.lane).strips.map (fun st => if st.arrival = f.cand.arrival then
          { st with sites := st.sites.set f.cand.site (.paired w tk) } else st) }) ∧
    (∀ q : Port, t.notice q =
      if s.role q = .wafer ∧ b.available = 1 then afterRaise (.waferExhausted b.waferId) q s else s.notice q) ∧
    AnsweredAt p .pair (okResp
      ([tk] ++ be32 pr.waferId ++ [oct pr.col, oct pr.row, pr.grade.setWidth 8, laneCode pr.lane] ++ be32 pr.stripId ++
        be32 pr.arrival ++ [oct pr.site] ++ be32 (s.clock + BitVec.ofNat 32 lease) ++
        be32 (BitVec.ofNat 32 (prod.openTime * 100 - f.cand.age)))) (some (.pair tk p s.clock)) s t

/-- R108, R110, R74: a pass tries the entries in list order, each on the state the one before left: without trace room its
obstacle is TRACE, where its selection fails its obstacle is the cause, and else it is granted. A pass with an empty list
has no effect, and a second pass grants nothing. -/
def Obligations.PassServesInListOrder : Prop := ∀ (s : State), DeviceInv s →
  let t := arbiterPass s
  (s.waitList = [] → t = s) ∧ Blocked t ∧ OnlyChanges passParts s t ∧ PortsKept (waitPorts s) s t ∧
    t = walk s.waitList s ∧ (∀ v : State, walk [] v = v) ∧
    (∀ (e : WaitEntry) (rest : List WaitEntry) (v : State), TraceRoomLaw v → ∃ u, walk (e :: rest) v = walk rest u ∧
      let room := v.trace.records.length + v.pairings.length < 512
      let blockedBy := fun (o : Obstacle) =>
        { v with waitList := v.waitList.map (fun d => if d.port = e.port then { d with obstacle := some o } else d) }
      (¬ room → u = blockedBy (.trace v.trace.records.length v.pairings.length)) ∧
      (room → ∀ cause : Cause, select v e.port e.choice = .failed cause → u = blockedBy (.selection cause)) ∧
      (room → ∀ f : Found, select v e.port e.choice = .found f → ∀ tk ∈ nextTicket v, u = grantPair e.port f tk v)) ∧
    ∀ (e : WaitEntry) (rest : List WaitEntry), s.waitList = e :: rest →
      let room := s.trace.records.length + s.pairings.length < 512
      (¬ room → t.waitList.head? =
        some { e with obstacle := some (.trace s.trace.records.length s.pairings.length) }) ∧
      (room → ∀ cause : Cause, select s e.port e.choice = .failed cause →
        t.waitList.head? = some { e with obstacle := some (.selection cause) }) ∧
      (room → ∀ f : Found, select s e.port e.choice = .found f → ∀ tk ∈ nextTicket s,
        pairingFor s e.port f tk ∈ t.pairings ∧ (∀ d ∈ t.waitList, d.port ≠ e.port) ∧
        AnsweredAt e.port .pair (okResp (pairGrantBody s (pairingFor s e.port f tk) f))
          (some (.pair tk e.port s.clock)) s t)

/-! ## Notices and outputs -/

/-- R141, R142, R147, Tables 10-1 and 11-3: each role owns the sources of Table 10-1 at their ranks. A raising makes the source
pending where the port's role owns it; SITE_SPOILED counts the sites and PAIRING_ENDED keeps the two latest entries and their
count, and any other detail is replaced. ATTN is asserted while a pending unmasked source ranks above every source in service.
RDY is low in HOLDING alone, of which one form has the response decided and in hand (log entry 30). -/
def Obligations.RaisingAndOutputs : Prop := ∀ (p : Port) (x : Notice) (s : State),
  let t := raiseAt p x s
  (∀ (r : Role) (k : RankIx), r.sourceAt k =
    (match r with
      | .unassigned => ([] : List Source)
      | .supervisor => [.lineStopped, .siteSpoiled, .traceLevel]
      | .head => [.pairingEnded, .lineState]
      | .dispenser _ => [.dotRejected, .dotEnded, .pulseOrphan, .lineState]
      | .indexer => [.stripSettled, .lineState]
      | .wafer => [.waferClear, .waferExhausted, .lineState])[k.val]?) ∧
  OnlyChanges [.notices] s t ∧ (∀ q : Port, q ≠ p → t.notice q = s.notice q) ∧
    (t.notice p).mask = (s.notice p).mask ∧ (t.notice p).inService = (s.notice p).inService ∧
    (∀ k : RankIx, (s.role p).sourceAt k ≠ some x.source → (t.notice p).pending[k] = (s.notice p).pending[k]) ∧
    (∀ k : RankIx, (s.role p).sourceAt k = some x.source →
      ((s.notice p).pending[k] = none → (t.notice p).pending[k] = some x) ∧
      ∀ old ∈ (s.notice p).pending[k], old.source = x.source → (t.notice p).pending[k] = some
        (match old, x with
          | .siteSpoiled _ _ _ n, .siteSpoiled l id i _ => .siteSpoiled l id i (min 65535 (n + 1))
          | .pairingEnded n es, .pairingEnded _ new =>
            .pairingEnded (min 255 (n + 1)) ((if es.length < 2 then es else es.drop 1) ++ new)
          | _, _ => x)) ∧
    (s.attn p = true ↔ s.resetAsserted = false ∧ ∃ k : RankIx, (s.notice p).pending[k].isSome = true ∧
      (s.notice p).mask[k] = false ∧ ∀ j : RankIx, (s.notice p).inService[j] = true → k < j) ∧
    (s.rdy p = false ↔ inHandAt p s = true ∨ ∃ k ∈ Kind.list, s.link p = .holding k) ∧
    ((∀ k r n m, s.link p ≠ .answering k r n m) → s.sdo p = some false)

/-! ## Frame formats -/

/-- R161, R164, Tables 11-4, 11-5, 12-3 to 12-5, 12-7 and 12-8: the kind, status and source codes and those carried in
bodies, the bank numbers and loss reasons among them. A body built field by field in the order of its layout, high octet
first, reads back as those fields; the detail of a notice has the layout of its source; a trace record is 42 octets with its
fields at their offsets, and a LOSS record carries 0 in those it has not. -/
def Obligations.FrameLayouts : Prop :=
  (∀ o : Octet, octetOfBits (octetBits o) = o) ∧
  Kind.list.map Kind.code = [1, 2, 3, 4, 5, 6, 16, 17, 18, 19, 20, 21, 22, 23, 24, 32, 33, 34, 35, 36, 40, 41, 48, 49, 50, 51, 52,
    64, 65, 72, 73, 80, 81] ∧
  [Status.ok, .noneHere, .role, .state, .paused, .format, .range, .busy, .full, .limit, .traceFull, .unknown, .stale, .notOwner,
    .wrongWafer, .noMap, .checkFail, .cleared].map Status.code =
      [0, 1, 2, 3, 4, 5, 6, 7, 8, 9, 10, 11, 12, 13, 14, 15, 16, 17] ∧
  [Role.unassigned, .supervisor, .head, .dispenser .A, .dispenser .B, .indexer, .wafer].map Role.code = [0, 1, 2, 3, 4, 5, 6] ∧
  [Source.lineStopped, .siteSpoiled, .traceLevel, .pairingEnded, .lineState, .dotRejected, .dotEnded, .pulseOrphan, .stripSettled,
    .waferClear, .waferExhausted].map Source.code = [1, 2, 3, 4, 5, 6, 7, 8, 9, 10, 11] ∧
  [LineState.setup, .run, .paused].map LineState.code = [0, 1, 2] ∧
  [LineCause.start, .pause, .resume, .lineEnd, .clear].map LineCause.code = [1, 2, 3, 4, 5] ∧
  [BankState.empty, .loading, .staged, .active, .retiring].map BankState.code = [0, 1, 2, 3, 4] ∧
  [DieState.absent, .reject, .available, .claimed, .picked, .placed, .lost, .failed, .suspect].map DieState.code =
    [0, 1, 2, 3, 4, 5, 6, 7, 8] ∧
  (∀ (w : Reading) (tk : Ticket) (b : BondFields),
    [Site.empty, .dispensing, .wetted w, .paired w tk, .bonded b, .late b, .misplaced b, .spoiled w, .badDot, .skipped,
      .suspect w].map Site.code = [0, 1, 2, 3, 4, 5, 6, 7, 8, 9, 10]) ∧
  [PairOutcome.bonded, .late, .misplaced, .pickFailed, .discarded, .revoked, .expired, .cleared, .withdrawn].map
    PairOutcome.code = [1, 2, 3, 4, 5, 6, 7, 8, 9] ∧
  [Cause.noWafer, .noSite, .noDie].map Cause.code = [1, 2, 3] ∧
  [LossReason.discarded, .expired, .revoked, .cleared].map LossReason.code = [1, 2, 3, 4] ∧
  [BankId.b0, .b1].map bankCode = [0, 1] ∧ [Lane.A, .B].map laneCode = [0, 1] ∧
  (∀ x : Notice, x.detail = match x with
    | .lineStopped port => [oct port.val]
    | .siteSpoiled lane strip site count => [laneCode lane] ++ be32 strip ++ [oct site] ++ nat16 count
    | .traceLevel level => nat16 level
    | .pairingEnded count entries => [oct count, oct entries.length] ++ (entries.map (fun e => [e.1, e.2.code])).flatten
    | .lineState cause state => [cause.code, state.code]
    | .dotRejected strip site width => be32 strip ++ [oct site] ++ nat16 width
    | .dotEnded strip site reason => be32 strip ++ [oct site, if reason = .timeout then 1 else 2]
    | .pulseOrphan count => [oct count]
    | .stripSettled a b => [(if a = true then 1 else 0) + (if b = true then 2 else 0)]
    | .waferClear wafer | .waferExhausted wafer => be32 wafer) ∧
  (∀ (code sites : Octet) (grades : Half) (openTime : BitVec 32) (margin lo hi tolerance pick bond : Half),
    let body := RequestBody.product code sites grades openTime margin lo hi tolerance pick bond
    lengthOk .product body = true ∧ u8 body 0 = code ∧ productOfBody body =
      { siteCount := sites.toNat, gradeSet := grades, openTime := openTime.toNat, marginMs := margin.toNat
        dotMin := lo.toNat, dotMax := hi.toNat, tolerance := tolerance.toNat, pickLeaseMs := pick.toNat
        bondLeaseMs := bond.toNat }) ∧
  (∀ (wafer : Tag) (cols rows colPitch rowPitch : Half),
    let body := RequestBody.mapOpen wafer cols rows colPitch rowPitch
    lengthOk .mapOpen body = true ∧ u32 body 0 = wafer ∧ u16 body 4 = cols ∧ u16 body 6 = rows ∧
      u16 body 8 = colPitch ∧ u16 body 10 = rowPitch) ∧
  (∀ (start : Half) (grades : List Octet), 1 ≤ grades.length → grades.length ≤ 64 →
    let body := RequestBody.mapRows start grades
    lengthOk .mapRows body = true ∧ u16 body 0 = start ∧ gradesOfBody body = grades) ∧
  (∀ (lane : Octet) (strip : Tag) (code : Octet) (bad : List Octet), bad.length ≤ 64 →
    let body := RequestBody.stripIn lane strip code bad
    lengthOk .stripIn body = true ∧ u8 body 0 = lane ∧ u32 body 1 = strip ∧ u8 body 5 = code ∧
      badSitesOfBody body = bad) ∧
  (∀ (t : Ticket) (dx dy : Half),
    let body := RequestBody.bonded t dx dy
    lengthOk .bonded body = true ∧ u8 body 0 = t ∧ u16 body 1 = dx ∧ u16 body 3 = dy) ∧
  ∀ (r : TraceRecord),
  let b := r.octets
  b.length = 42 ∧ u32 b 0 = r.seq ∧ (u8 b 7).toNat = r.port.val ∧ u8 b 8 = r.ticket ∧ u8 b 9 = laneCode r.lane ∧
    u8 b 10 = oct r.site ∧ u32 b 11 = r.stripId ∧ u8 b 15 = r.grade.setWidth 8 ∧ u8 b 16 = oct r.col ∧
    u8 b 17 = oct r.row ∧ u32 b 18 = r.waferId ∧ u32 b 22 = r.grantTime ∧ u32 b 26 = r.pickTime ∧ u32 b 30 = r.endTime ∧
    match r.kind with
    | .bond late misplaced age dx dy => u8 b 4 = 1 ∧ u8 b 6 = 0 ∧ u32 b 34 = age ∧ u16 b 38 = dx ∧ u16 b 40 = dy ∧
        u8 b 5 = if late = true then (if misplaced = true then 3 else 1) else if misplaced = true then 2 else 0
    | .loss reason => u8 b 4 = 2 ∧ u8 b 5 = 0 ∧ u8 b 6 = reason.code ∧ u32 b 34 = 0 ∧ u16 b 38 = 0 ∧ u16 b 40 = 0

/-! ## Laws that every step keeps -/

/-- R134: S0 stays SUPERVISOR and every role stays within its number of ports. R21, Tables 2-2, 4-1, 8-1 and 9-3, R91: what the
part keeps stays in its range. -/
def Obligations.EveryStepKeepsRolesAndRanges : Prop := ∀ (s t : State), step s = .next t →
  (RoleLaw s → RoleLaw t) ∧ (RangeInv s → RangeInv t)

/-- R118, R120: one reservation for each pairing in flight, their sum with the level within 512, and the records carry
consecutive sequence numbers. R29, R31: the wet-ahead count of a lane and the unsettled counts of its strips stay the numbers
they stand for. -/
def Obligations.EveryStepKeepsTraceAndSiteCounts : Prop := ∀ (s t : State), step s = .next t →
  (TraceInv s → TraceInv t) ∧
    (SiteCountLaw s.lanes.a ∧ SiteCountLaw s.lanes.b → SiteCountLaw t.lanes.a ∧ SiteCountLaw t.lanes.b)

/-- R114, R106, Table 11-3: the wait list and both dot waiters are empty outside RUN, in order, and held by their ports. -/
def Obligations.EveryStepKeepsTheHeldRequests : Prop := ∀ (s t : State), LinkInv s → step s = .next t → LinkInv t

/-- R1, R2, R4: the bank states, the AVAILABLE counts and the pairing references stay what they stand for, and the die tables
keep their canonical form. That form, and the blank die records of an EMPTY bank, are the model's choice (log entry 17). -/
def Obligations.EveryStepKeepsTheMaps : Prop := ∀ (s t : State), MapInv s → step s = .next t → MapInv t

/-- R140, R125, R143: each pending source stands at its rank of the port's role, and TRACE_LEVEL is pending at S0 exactly while
its condition holds and it is not in service. -/
def Obligations.EveryStepKeepsTheNotices : Prop := ∀ (s t : State), NoticeInv s → step s = .next t → NoticeInv t

/-- All the laws of the device together: with the laws of dispensing (R55, R57), of the pairing table (R89), of paired sites
and die (R28, R4), of bond age (R97), of bonded grades (R98) and of time (R45, R46): no timer runs past its length, and
every WETTED or PAIRED site's age stays below the manual's bound. That the clock takes what is due before it moves is log
entry 16, and that the visit is owed until then is log entry 28. -/
def Obligations.EveryStepKeepsTheLawsOfTheDevice : Prop := ∀ (s t : State),
  DeviceInv s → step s = .next t → DeviceInv t ∧ AgesBounded t

/-- R110: after every step each entry left on the wait list is blocked until the next trigger. -/
def Obligations.EveryStepLeavesTheListBlocked : Prop := ∀ (s t : State),
  DeviceInv s → Blocked s → step s = .next t → Blocked t
end

