-- ==== Sys2Proof/Laws/State.lean ====
section
/-! SUPPORT. Laws/State.lean: what each update of the state leaves alone, field by field, and what each access reads after
an update of its own table. -/

namespace Sys2Proof.Machine

open Sys2Proof

/-! ## Tables of two -/

@[simp] theorem PerLane.get_set_self {α : Type} (t : PerLane α) (l : Lane) (x : α) : (t.set l x).get l = x := by cases l <;> rfl

@[simp] theorem PerLane.get_set_of_ne {α : Type} (t : PerLane α) {l k : Lane} (x : α) (h : k ≠ l) :
    (t.set l x).get k = t.get k := by cases l <;> cases k <;> first | rfl | exact absurd rfl h

@[simp] theorem PerLane.set_get_self {α : Type} (t : PerLane α) (l : Lane) : t.set l (t.get l) = t := by cases l <;> rfl

@[simp] theorem PerLane.set_set {α : Type} (t : PerLane α) (l : Lane) (x y : α) : (t.set l x).set l y = t.set l y := by
  cases l <;> rfl

@[simp] theorem PerBank.get_set_self {α : Type} (t : PerBank α) (b : BankId) (x : α) : (t.set b x).get b = x := by
  cases b <;> rfl

@[simp] theorem PerBank.get_set_of_ne {α : Type} (t : PerBank α) {b k : BankId} (x : α) (h : k ≠ b) :
    (t.set b x).get k = t.get k := by cases b <;> cases k <;> first | rfl | exact absurd rfl h

@[simp] theorem PerBank.set_get_self {α : Type} (t : PerBank α) (b : BankId) : t.set b (t.get b) = t := by cases b <;> rfl

@[simp] theorem PerBank.set_set {α : Type} (t : PerBank α) (b : BankId) (x y : α) : (t.set b x).set b y = t.set b y := by
  cases b <;> rfl

@[simp] theorem getElem_tabulate {α : Type} (f : Port → α) (p : Port) : (tabulate f)[p.val] = f p := by
  fin_cases p <;> rfl

/-! ## What each update reads back -/

@[simp] theorem State.lane_setLane_self (s : State) (l : Lane) (x : LaneTable) : (s.setLane l x).lane l = x :=
  PerLane.get_set_self s.lanes l x

@[simp] theorem State.lane_setLane_of_ne (s : State) {l k : Lane} (x : LaneTable) (h : k ≠ l) :
    (s.setLane l x).lane k = s.lane k := PerLane.get_set_of_ne s.lanes x h

@[simp] theorem State.gate_setGate_self (s : State) (l : Lane) (x : GateMonitor) : (s.setGate l x).gate l = x :=
  PerLane.get_set_self s.gates l x

@[simp] theorem State.gate_setGate_of_ne (s : State) {l k : Lane} (x : GateMonitor) (h : k ≠ l) :
    (s.setGate l x).gate k = s.gate k := PerLane.get_set_of_ne s.gates x h

@[simp] theorem State.bank_setBank_self (s : State) (b : BankId) (x : MapBank) : (s.setBank b x).bank b = x :=
  PerBank.get_set_self s.banks b x

@[simp] theorem State.bank_setBank_of_ne (s : State) {b k : BankId} (x : MapBank) (h : k ≠ b) :
    (s.setBank b x).bank k = s.bank k := PerBank.get_set_of_ne s.banks x h

@[simp] theorem State.ports_setPort_self (s : State) (p : Port) (x : PortState) : (s.setPort p x).ports[p.val] = x := by
  simp [State.setPort]

@[simp] theorem State.ports_setPort_of_ne (s : State) {p q : Port} (x : PortState) (h : q ≠ p) :
    (s.setPort p x).ports[q.val] = s.ports[q.val] := by
  have : p.val ≠ q.val := fun e => h (Fin.ext e.symm)
  simp [State.setPort, this]

@[simp] theorem State.ports_setLink_self (s : State) (p : Port) (x : Link) :
    (s.setLink p x).ports[p.val] = { s.ports[p.val] with link := x } := by
  simp [State.setLink]

@[simp] theorem State.ports_setLink_of_ne (s : State) {p q : Port} (x : Link) (h : q ≠ p) :
    (s.setLink p x).ports[q.val] = s.ports[q.val] := by
  simp [State.setLink, h]

@[simp] theorem State.link_setLink_self (s : State) (p : Port) (x : Link) : (s.setLink p x).link p = x := by
  simp [State.link]

@[simp] theorem State.link_setLink_of_ne (s : State) {p q : Port} (x : Link) (h : q ≠ p) :
    (s.setLink p x).link q = s.link q := by
  simp [State.link, h]

@[simp] theorem State.notice_setNotice_self (s : State) (p : Port) (x : NoticeState) : (s.setNotice p x).notice p = x := by
  simp [State.notice, State.setNotice]

@[simp] theorem State.notice_setNotice_of_ne (s : State) {p q : Port} (x : NoticeState) (h : q ≠ p) :
    (s.setNotice p x).notice q = s.notice q := by
  have : p.val ≠ q.val := fun e => h (Fin.ext e.symm)
  simp [State.notice, State.setNotice, this]

/-! ## What each update leaves alone -/

@[simp] theorem State.setLane_resetAsserted (s : State) (l : Lane) (x : LaneTable) : (s.setLane l x).resetAsserted = s.resetAsserted := rfl
@[simp] theorem State.setLane_clock (s : State) (l : Lane) (x : LaneTable) : (s.setLane l x).clock = s.clock := rfl
@[simp] theorem State.setLane_sweepPos (s : State) (l : Lane) (x : LaneTable) : (s.setLane l x).sweepPos = s.sweepPos := rfl
@[simp] theorem State.setLane_visitOwed (s : State) (l : Lane) (x : LaneTable) : (s.setLane l x).visitOwed = s.visitOwed := rfl
@[simp] theorem State.setLane_dualLane (s : State) (l : Lane) (x : LaneTable) : (s.setLane l x).dualLane = s.dualLane := rfl
@[simp] theorem State.setLane_line (s : State) (l : Lane) (x : LaneTable) : (s.setLane l x).line = s.line := rfl
@[simp] theorem State.setLane_roles (s : State) (l : Lane) (x : LaneTable) : (s.setLane l x).roles = s.roles := rfl
@[simp] theorem State.setLane_products (s : State) (l : Lane) (x : LaneTable) : (s.setLane l x).products = s.products := rfl
@[simp] theorem State.setLane_banks (s : State) (l : Lane) (x : LaneTable) : (s.setLane l x).banks = s.banks := rfl
@[simp] theorem State.setLane_gates (s : State) (l : Lane) (x : LaneTable) : (s.setLane l x).gates = s.gates := rfl
@[simp] theorem State.setLane_pairings (s : State) (l : Lane) (x : LaneTable) : (s.setLane l x).pairings = s.pairings := rfl
@[simp] theorem State.setLane_lastTicket (s : State) (l : Lane) (x : LaneTable) : (s.setLane l x).lastTicket = s.lastTicket := rfl
@[simp] theorem State.setLane_ring (s : State) (l : Lane) (x : LaneTable) : (s.setLane l x).ring = s.ring := rfl
@[simp] theorem State.setLane_reach (s : State) (l : Lane) (x : LaneTable) : (s.setLane l x).reach = s.reach := rfl
@[simp] theorem State.setLane_lastPick (s : State) (l : Lane) (x : LaneTable) : (s.setLane l x).lastPick = s.lastPick := rfl
@[simp] theorem State.setLane_waitList (s : State) (l : Lane) (x : LaneTable) : (s.setLane l x).waitList = s.waitList := rfl
@[simp] theorem State.setLane_trace (s : State) (l : Lane) (x : LaneTable) : (s.setLane l x).trace = s.trace := rfl
@[simp] theorem State.setLane_notices (s : State) (l : Lane) (x : LaneTable) : (s.setLane l x).notices = s.notices := rfl
@[simp] theorem State.setLane_ports (s : State) (l : Lane) (x : LaneTable) : (s.setLane l x).ports = s.ports := rfl
@[simp] theorem State.setLane_pending (s : State) (l : Lane) (x : LaneTable) : (s.setLane l x).pending = s.pending := rfl
@[simp] theorem State.gate_setLane (s : State) (l : Lane) (x : LaneTable) (k : Lane) :
    (s.setLane l x).gate k = s.gate k := rfl
@[simp] theorem State.bank_setLane (s : State) (l : Lane) (x : LaneTable) (k : BankId) :
    (s.setLane l x).bank k = s.bank k := rfl
@[simp] theorem State.role_setLane (s : State) (l : Lane) (x : LaneTable) (q : Port) :
    (s.setLane l x).role q = s.role q := rfl
@[simp] theorem State.link_setLane (s : State) (l : Lane) (x : LaneTable) (q : Port) :
    (s.setLane l x).link q = s.link q := rfl
@[simp] theorem State.notice_setLane (s : State) (l : Lane) (x : LaneTable) (q : Port) :
    (s.setLane l x).notice q = s.notice q := rfl
@[simp] theorem State.product_setLane (s : State) (l : Lane) (x : LaneTable) (c : ProductCode) :
    (s.setLane l x).product c = s.product c := rfl

@[simp] theorem State.setGate_resetAsserted (s : State) (l : Lane) (x : GateMonitor) : (s.setGate l x).resetAsserted = s.resetAsserted := rfl
@[simp] theorem State.setGate_clock (s : State) (l : Lane) (x : GateMonitor) : (s.setGate l x).clock = s.clock := rfl
@[simp] theorem State.setGate_sweepPos (s : State) (l : Lane) (x : GateMonitor) : (s.setGate l x).sweepPos = s.sweepPos := rfl
@[simp] theorem State.setGate_visitOwed (s : State) (l : Lane) (x : GateMonitor) : (s.setGate l x).visitOwed = s.visitOwed := rfl
@[simp] theorem State.setGate_dualLane (s : State) (l : Lane) (x : GateMonitor) : (s.setGate l x).dualLane = s.dualLane := rfl
@[simp] theorem State.setGate_line (s : State) (l : Lane) (x : GateMonitor) : (s.setGate l x).line = s.line := rfl
@[simp] theorem State.setGate_roles (s : State) (l : Lane) (x : GateMonitor) : (s.setGate l x).roles = s.roles := rfl
@[simp] theorem State.setGate_products (s : State) (l : Lane) (x : GateMonitor) : (s.setGate l x).products = s.products := rfl
@[simp] theorem State.setGate_banks (s : State) (l : Lane) (x : GateMonitor) : (s.setGate l x).banks = s.banks := rfl
@[simp] theorem State.setGate_lanes (s : State) (l : Lane) (x : GateMonitor) : (s.setGate l x).lanes = s.lanes := rfl
@[simp] theorem State.setGate_pairings (s : State) (l : Lane) (x : GateMonitor) : (s.setGate l x).pairings = s.pairings := rfl
@[simp] theorem State.setGate_lastTicket (s : State) (l : Lane) (x : GateMonitor) : (s.setGate l x).lastTicket = s.lastTicket := rfl
@[simp] theorem State.setGate_ring (s : State) (l : Lane) (x : GateMonitor) : (s.setGate l x).ring = s.ring := rfl
@[simp] theorem State.setGate_reach (s : State) (l : Lane) (x : GateMonitor) : (s.setGate l x).reach = s.reach := rfl
@[simp] theorem State.setGate_lastPick (s : State) (l : Lane) (x : GateMonitor) : (s.setGate l x).lastPick = s.lastPick := rfl
@[simp] theorem State.setGate_waitList (s : State) (l : Lane) (x : GateMonitor) : (s.setGate l x).waitList = s.waitList := rfl
@[simp] theorem State.setGate_trace (s : State) (l : Lane) (x : GateMonitor) : (s.setGate l x).trace = s.trace := rfl
@[simp] theorem State.setGate_notices (s : State) (l : Lane) (x : GateMonitor) : (s.setGate l x).notices = s.notices := rfl
@[simp] theorem State.setGate_ports (s : State) (l : Lane) (x : GateMonitor) : (s.setGate l x).ports = s.ports := rfl
@[simp] theorem State.setGate_pending (s : State) (l : Lane) (x : GateMonitor) : (s.setGate l x).pending = s.pending := rfl
@[simp] theorem State.lane_setGate (s : State) (l : Lane) (x : GateMonitor) (k : Lane) :
    (s.setGate l x).lane k = s.lane k := rfl
@[simp] theorem State.bank_setGate (s : State) (l : Lane) (x : GateMonitor) (k : BankId) :
    (s.setGate l x).bank k = s.bank k := rfl
@[simp] theorem State.role_setGate (s : State) (l : Lane) (x : GateMonitor) (q : Port) :
    (s.setGate l x).role q = s.role q := rfl
@[simp] theorem State.link_setGate (s : State) (l : Lane) (x : GateMonitor) (q : Port) :
    (s.setGate l x).link q = s.link q := rfl
@[simp] theorem State.notice_setGate (s : State) (l : Lane) (x : GateMonitor) (q : Port) :
    (s.setGate l x).notice q = s.notice q := rfl
@[simp] theorem State.product_setGate (s : State) (l : Lane) (x : GateMonitor) (c : ProductCode) :
    (s.setGate l x).product c = s.product c := rfl

@[simp] theorem State.setBank_resetAsserted (s : State) (b : BankId) (x : MapBank) : (s.setBank b x).resetAsserted = s.resetAsserted := rfl
@[simp] theorem State.setBank_clock (s : State) (b : BankId) (x : MapBank) : (s.setBank b x).clock = s.clock := rfl
@[simp] theorem State.setBank_sweepPos (s : State) (b : BankId) (x : MapBank) : (s.setBank b x).sweepPos = s.sweepPos := rfl
@[simp] theorem State.setBank_visitOwed (s : State) (b : BankId) (x : MapBank) : (s.setBank b x).visitOwed = s.visitOwed := rfl
@[simp] theorem State.setBank_dualLane (s : State) (b : BankId) (x : MapBank) : (s.setBank b x).dualLane = s.dualLane := rfl
@[simp] theorem State.setBank_line (s : State) (b : BankId) (x : MapBank) : (s.setBank b x).line = s.line := rfl
@[simp] theorem State.setBank_roles (s : State) (b : BankId) (x : MapBank) : (s.setBank b x).roles = s.roles := rfl
@[simp] theorem State.setBank_products (s : State) (b : BankId) (x : MapBank) : (s.setBank b x).products = s.products := rfl
@[simp] theorem State.setBank_lanes (s : State) (b : BankId) (x : MapBank) : (s.setBank b x).lanes = s.lanes := rfl
@[simp] theorem State.setBank_gates (s : State) (b : BankId) (x : MapBank) : (s.setBank b x).gates = s.gates := rfl
@[simp] theorem State.setBank_pairings (s : State) (b : BankId) (x : MapBank) : (s.setBank b x).pairings = s.pairings := rfl
@[simp] theorem State.setBank_lastTicket (s : State) (b : BankId) (x : MapBank) : (s.setBank b x).lastTicket = s.lastTicket := rfl
@[simp] theorem State.setBank_ring (s : State) (b : BankId) (x : MapBank) : (s.setBank b x).ring = s.ring := rfl
@[simp] theorem State.setBank_reach (s : State) (b : BankId) (x : MapBank) : (s.setBank b x).reach = s.reach := rfl
@[simp] theorem State.setBank_lastPick (s : State) (b : BankId) (x : MapBank) : (s.setBank b x).lastPick = s.lastPick := rfl
@[simp] theorem State.setBank_waitList (s : State) (b : BankId) (x : MapBank) : (s.setBank b x).waitList = s.waitList := rfl
@[simp] theorem State.setBank_trace (s : State) (b : BankId) (x : MapBank) : (s.setBank b x).trace = s.trace := rfl
@[simp] theorem State.setBank_notices (s : State) (b : BankId) (x : MapBank) : (s.setBank b x).notices = s.notices := rfl
@[simp] theorem State.setBank_ports (s : State) (b : BankId) (x : MapBank) : (s.setBank b x).ports = s.ports := rfl
@[simp] theorem State.setBank_pending (s : State) (b : BankId) (x : MapBank) : (s.setBank b x).pending = s.pending := rfl
@[simp] theorem State.lane_setBank (s : State) (b : BankId) (x : MapBank) (k : Lane) :
    (s.setBank b x).lane k = s.lane k := rfl
@[simp] theorem State.gate_setBank (s : State) (b : BankId) (x : MapBank) (k : Lane) :
    (s.setBank b x).gate k = s.gate k := rfl
@[simp] theorem State.role_setBank (s : State) (b : BankId) (x : MapBank) (q : Port) :
    (s.setBank b x).role q = s.role q := rfl
@[simp] theorem State.link_setBank (s : State) (b : BankId) (x : MapBank) (q : Port) :
    (s.setBank b x).link q = s.link q := rfl
@[simp] theorem State.notice_setBank (s : State) (b : BankId) (x : MapBank) (q : Port) :
    (s.setBank b x).notice q = s.notice q := rfl
@[simp] theorem State.product_setBank (s : State) (b : BankId) (x : MapBank) (c : ProductCode) :
    (s.setBank b x).product c = s.product c := rfl

@[simp] theorem State.setPort_resetAsserted (s : State) (p : Port) (x : PortState) : (s.setPort p x).resetAsserted = s.resetAsserted := rfl
@[simp] theorem State.setPort_clock (s : State) (p : Port) (x : PortState) : (s.setPort p x).clock = s.clock := rfl
@[simp] theorem State.setPort_sweepPos (s : State) (p : Port) (x : PortState) : (s.setPort p x).sweepPos = s.sweepPos := rfl
@[simp] theorem State.setPort_visitOwed (s : State) (p : Port) (x : PortState) : (s.setPort p x).visitOwed = s.visitOwed := rfl
@[simp] theorem State.setPort_dualLane (s : State) (p : Port) (x : PortState) : (s.setPort p x).dualLane = s.dualLane := rfl
@[simp] theorem State.setPort_line (s : State) (p : Port) (x : PortState) : (s.setPort p x).line = s.line := rfl
@[simp] theorem State.setPort_roles (s : State) (p : Port) (x : PortState) : (s.setPort p x).roles = s.roles := rfl
@[simp] theorem State.setPort_products (s : State) (p : Port) (x : PortState) : (s.setPort p x).products = s.products := rfl
@[simp] theorem State.setPort_banks (s : State) (p : Port) (x : PortState) : (s.setPort p x).banks = s.banks := rfl
@[simp] theorem State.setPort_lanes (s : State) (p : Port) (x : PortState) : (s.setPort p x).lanes = s.lanes := rfl
@[simp] theorem State.setPort_gates (s : State) (p : Port) (x : PortState) : (s.setPort p x).gates = s.gates := rfl
@[simp] theorem State.setPort_pairings (s : State) (p : Port) (x : PortState) : (s.setPort p x).pairings = s.pairings := rfl
@[simp] theorem State.setPort_lastTicket (s : State) (p : Port) (x : PortState) : (s.setPort p x).lastTicket = s.lastTicket := rfl
@[simp] theorem State.setPort_ring (s : State) (p : Port) (x : PortState) : (s.setPort p x).ring = s.ring := rfl
@[simp] theorem State.setPort_reach (s : State) (p : Port) (x : PortState) : (s.setPort p x).reach = s.reach := rfl
@[simp] theorem State.setPort_lastPick (s : State) (p : Port) (x : PortState) : (s.setPort p x).lastPick = s.lastPick := rfl
@[simp] theorem State.setPort_waitList (s : State) (p : Port) (x : PortState) : (s.setPort p x).waitList = s.waitList := rfl
@[simp] theorem State.setPort_trace (s : State) (p : Port) (x : PortState) : (s.setPort p x).trace = s.trace := rfl
@[simp] theorem State.setPort_notices (s : State) (p : Port) (x : PortState) : (s.setPort p x).notices = s.notices := rfl
@[simp] theorem State.setPort_pending (s : State) (p : Port) (x : PortState) : (s.setPort p x).pending = s.pending := rfl
@[simp] theorem State.lane_setPort (s : State) (p : Port) (x : PortState) (k : Lane) :
    (s.setPort p x).lane k = s.lane k := rfl
@[simp] theorem State.gate_setPort (s : State) (p : Port) (x : PortState) (k : Lane) :
    (s.setPort p x).gate k = s.gate k := rfl
@[simp] theorem State.bank_setPort (s : State) (p : Port) (x : PortState) (k : BankId) :
    (s.setPort p x).bank k = s.bank k := rfl
@[simp] theorem State.role_setPort (s : State) (p : Port) (x : PortState) (q : Port) :
    (s.setPort p x).role q = s.role q := rfl
@[simp] theorem State.notice_setPort (s : State) (p : Port) (x : PortState) (q : Port) :
    (s.setPort p x).notice q = s.notice q := rfl
@[simp] theorem State.product_setPort (s : State) (p : Port) (x : PortState) (c : ProductCode) :
    (s.setPort p x).product c = s.product c := rfl

@[simp] theorem State.setLink_resetAsserted (s : State) (p : Port) (x : Link) : (s.setLink p x).resetAsserted = s.resetAsserted := rfl
@[simp] theorem State.setLink_clock (s : State) (p : Port) (x : Link) : (s.setLink p x).clock = s.clock := rfl
@[simp] theorem State.setLink_sweepPos (s : State) (p : Port) (x : Link) : (s.setLink p x).sweepPos = s.sweepPos := rfl
@[simp] theorem State.setLink_visitOwed (s : State) (p : Port) (x : Link) : (s.setLink p x).visitOwed = s.visitOwed := rfl
@[simp] theorem State.setLink_dualLane (s : State) (p : Port) (x : Link) : (s.setLink p x).dualLane = s.dualLane := rfl
@[simp] theorem State.setLink_line (s : State) (p : Port) (x : Link) : (s.setLink p x).line = s.line := rfl
@[simp] theorem State.setLink_roles (s : State) (p : Port) (x : Link) : (s.setLink p x).roles = s.roles := rfl
@[simp] theorem State.setLink_products (s : State) (p : Port) (x : Link) : (s.setLink p x).products = s.products := rfl
@[simp] theorem State.setLink_banks (s : State) (p : Port) (x : Link) : (s.setLink p x).banks = s.banks := rfl
@[simp] theorem State.setLink_lanes (s : State) (p : Port) (x : Link) : (s.setLink p x).lanes = s.lanes := rfl
@[simp] theorem State.setLink_gates (s : State) (p : Port) (x : Link) : (s.setLink p x).gates = s.gates := rfl
@[simp] theorem State.setLink_pairings (s : State) (p : Port) (x : Link) : (s.setLink p x).pairings = s.pairings := rfl
@[simp] theorem State.setLink_lastTicket (s : State) (p : Port) (x : Link) : (s.setLink p x).lastTicket = s.lastTicket := rfl
@[simp] theorem State.setLink_ring (s : State) (p : Port) (x : Link) : (s.setLink p x).ring = s.ring := rfl
@[simp] theorem State.setLink_reach (s : State) (p : Port) (x : Link) : (s.setLink p x).reach = s.reach := rfl
@[simp] theorem State.setLink_lastPick (s : State) (p : Port) (x : Link) : (s.setLink p x).lastPick = s.lastPick := rfl
@[simp] theorem State.setLink_waitList (s : State) (p : Port) (x : Link) : (s.setLink p x).waitList = s.waitList := rfl
@[simp] theorem State.setLink_trace (s : State) (p : Port) (x : Link) : (s.setLink p x).trace = s.trace := rfl
@[simp] theorem State.setLink_notices (s : State) (p : Port) (x : Link) : (s.setLink p x).notices = s.notices := rfl
@[simp] theorem State.setLink_pending (s : State) (p : Port) (x : Link) : (s.setLink p x).pending = s.pending := rfl
@[simp] theorem State.lane_setLink (s : State) (p : Port) (x : Link) (k : Lane) :
    (s.setLink p x).lane k = s.lane k := rfl
@[simp] theorem State.gate_setLink (s : State) (p : Port) (x : Link) (k : Lane) :
    (s.setLink p x).gate k = s.gate k := rfl
@[simp] theorem State.bank_setLink (s : State) (p : Port) (x : Link) (k : BankId) :
    (s.setLink p x).bank k = s.bank k := rfl
@[simp] theorem State.role_setLink (s : State) (p : Port) (x : Link) (q : Port) :
    (s.setLink p x).role q = s.role q := rfl
@[simp] theorem State.notice_setLink (s : State) (p : Port) (x : Link) (q : Port) :
    (s.setLink p x).notice q = s.notice q := rfl
@[simp] theorem State.product_setLink (s : State) (p : Port) (x : Link) (c : ProductCode) :
    (s.setLink p x).product c = s.product c := rfl

@[simp] theorem State.setNotice_resetAsserted (s : State) (p : Port) (x : NoticeState) : (s.setNotice p x).resetAsserted = s.resetAsserted := rfl
@[simp] theorem State.setNotice_clock (s : State) (p : Port) (x : NoticeState) : (s.setNotice p x).clock = s.clock := rfl
@[simp] theorem State.setNotice_sweepPos (s : State) (p : Port) (x : NoticeState) : (s.setNotice p x).sweepPos = s.sweepPos := rfl
@[simp] theorem State.setNotice_visitOwed (s : State) (p : Port) (x : NoticeState) : (s.setNotice p x).visitOwed = s.visitOwed := rfl
@[simp] theorem State.setNotice_dualLane (s : State) (p : Port) (x : NoticeState) : (s.setNotice p x).dualLane = s.dualLane := rfl
@[simp] theorem State.setNotice_line (s : State) (p : Port) (x : NoticeState) : (s.setNotice p x).line = s.line := rfl
@[simp] theorem State.setNotice_roles (s : State) (p : Port) (x : NoticeState) : (s.setNotice p x).roles = s.roles := rfl
@[simp] theorem State.setNotice_products (s : State) (p : Port) (x : NoticeState) : (s.setNotice p x).products = s.products := rfl
@[simp] theorem State.setNotice_banks (s : State) (p : Port) (x : NoticeState) : (s.setNotice p x).banks = s.banks := rfl
@[simp] theorem State.setNotice_lanes (s : State) (p : Port) (x : NoticeState) : (s.setNotice p x).lanes = s.lanes := rfl
@[simp] theorem State.setNotice_gates (s : State) (p : Port) (x : NoticeState) : (s.setNotice p x).gates = s.gates := rfl
@[simp] theorem State.setNotice_pairings (s : State) (p : Port) (x : NoticeState) : (s.setNotice p x).pairings = s.pairings := rfl
@[simp] theorem State.setNotice_lastTicket (s : State) (p : Port) (x : NoticeState) : (s.setNotice p x).lastTicket = s.lastTicket := rfl
@[simp] theorem State.setNotice_ring (s : State) (p : Port) (x : NoticeState) : (s.setNotice p x).ring = s.ring := rfl
@[simp] theorem State.setNotice_reach (s : State) (p : Port) (x : NoticeState) : (s.setNotice p x).reach = s.reach := rfl
@[simp] theorem State.setNotice_lastPick (s : State) (p : Port) (x : NoticeState) : (s.setNotice p x).lastPick = s.lastPick := rfl
@[simp] theorem State.setNotice_waitList (s : State) (p : Port) (x : NoticeState) : (s.setNotice p x).waitList = s.waitList := rfl
@[simp] theorem State.setNotice_trace (s : State) (p : Port) (x : NoticeState) : (s.setNotice p x).trace = s.trace := rfl
@[simp] theorem State.setNotice_ports (s : State) (p : Port) (x : NoticeState) : (s.setNotice p x).ports = s.ports := rfl
@[simp] theorem State.setNotice_pending (s : State) (p : Port) (x : NoticeState) : (s.setNotice p x).pending = s.pending := rfl
@[simp] theorem State.lane_setNotice (s : State) (p : Port) (x : NoticeState) (k : Lane) :
    (s.setNotice p x).lane k = s.lane k := rfl
@[simp] theorem State.gate_setNotice (s : State) (p : Port) (x : NoticeState) (k : Lane) :
    (s.setNotice p x).gate k = s.gate k := rfl
@[simp] theorem State.bank_setNotice (s : State) (p : Port) (x : NoticeState) (k : BankId) :
    (s.setNotice p x).bank k = s.bank k := rfl
@[simp] theorem State.role_setNotice (s : State) (p : Port) (x : NoticeState) (q : Port) :
    (s.setNotice p x).role q = s.role q := rfl
@[simp] theorem State.link_setNotice (s : State) (p : Port) (x : NoticeState) (q : Port) :
    (s.setNotice p x).link q = s.link q := rfl
@[simp] theorem State.product_setNotice (s : State) (p : Port) (x : NoticeState) (c : ProductCode) :
    (s.setNotice p x).product c = s.product c := rfl

end Sys2Proof.Machine
end

