-- ==== Sys2Proof/Laws/Frames.lean ====
section
/-! SUPPORT. Laws/Frames.lean: which parts of the state each shared operation can change, one lemma for each operation. -/

namespace Sys2Proof.Safety

open Sys2Proof Sys2Proof.Machine

theorem Part.same_refl (part : Part) (s : State) : part.same s s := by cases part <;> rfl

theorem Part.same_trans {part : Part} {s t u : State} (h : part.same s t) (k : part.same t u) : part.same s u := by
  cases part <;> exact k.trans h

theorem OnlyChanges.refl (parts : List Part) (s : State) : OnlyChanges parts s s :=
  ⟨rfl, fun part _ _ => part.same_refl s⟩

theorem OnlyChanges.trans {parts : List Part} {s t u : State} (h : OnlyChanges parts s t) (k : OnlyChanges parts t u) :
    OnlyChanges parts s u :=
  ⟨k.1.trans h.1, fun part m n => Part.same_trans (h.2 part m n) (k.2 part m n)⟩

theorem OnlyChanges.mono {a b : List Part} {s t : State} (h : OnlyChanges a s t) (k : ∀ part ∈ a, part ∈ b) :
    OnlyChanges b s t := ⟨h.1, fun part m n => h.2 part m (fun x => n (k part x))⟩

/-- A fold of operations changes no more than each of them may. -/
theorem OnlyChanges.foldl {α : Type} {parts : List Part} {f : State → α → State}
    (h : ∀ s x, OnlyChanges parts s (f s x)) (xs : List α) (s : State) : OnlyChanges parts s (xs.foldl f s) := by
  induction xs generalizing s with
  | nil => exact .refl parts s
  | cons x xs ih => exact (h s x).trans (ih (f s x))

/-! ## What a frame says of each part -/

theorem OnlyChanges.pending_eq {parts : List Part} {s t : State} (h : OnlyChanges parts s t) : t.pending = s.pending := h.1

theorem OnlyChanges.resetAsserted_eq {parts : List Part} {s t : State} (h : OnlyChanges parts s t) (n : Part.reset ∉ parts) :
    t.resetAsserted = s.resetAsserted := h.2 .reset (by decide) n

theorem OnlyChanges.clock_eq {parts : List Part} {s t : State} (h : OnlyChanges parts s t) (n : Part.clock ∉ parts) :
    t.clock = s.clock := h.2 .clock (by decide) n

theorem OnlyChanges.sweepPos_eq {parts : List Part} {s t : State} (h : OnlyChanges parts s t) (n : Part.sweep ∉ parts) :
    t.sweepPos = s.sweepPos := h.2 .sweep (by decide) n

theorem OnlyChanges.visitOwed_eq {parts : List Part} {s t : State} (h : OnlyChanges parts s t) (n : Part.visit ∉ parts) :
    t.visitOwed = s.visitOwed := h.2 .visit (by decide) n

theorem OnlyChanges.dualLane_eq {parts : List Part} {s t : State} (h : OnlyChanges parts s t) (n : Part.strap ∉ parts) :
    t.dualLane = s.dualLane := h.2 .strap (by decide) n

theorem OnlyChanges.line_eq {parts : List Part} {s t : State} (h : OnlyChanges parts s t) (n : Part.line ∉ parts) :
    t.line = s.line := h.2 .line (by decide) n

theorem OnlyChanges.roles_eq {parts : List Part} {s t : State} (h : OnlyChanges parts s t) (n : Part.roles ∉ parts) :
    t.roles = s.roles := h.2 .roles (by decide) n

theorem OnlyChanges.products_eq {parts : List Part} {s t : State} (h : OnlyChanges parts s t) (n : Part.products ∉ parts) :
    t.products = s.products := h.2 .products (by decide) n

theorem OnlyChanges.banks_eq {parts : List Part} {s t : State} (h : OnlyChanges parts s t) (n : Part.banks ∉ parts) :
    t.banks = s.banks := h.2 .banks (by decide) n

theorem OnlyChanges.lanes_eq {parts : List Part} {s t : State} (h : OnlyChanges parts s t) (n : Part.lanes ∉ parts) :
    t.lanes = s.lanes := h.2 .lanes (by decide) n

theorem OnlyChanges.gates_eq {parts : List Part} {s t : State} (h : OnlyChanges parts s t) (n : Part.gates ∉ parts) :
    t.gates = s.gates := h.2 .gates (by decide) n

theorem OnlyChanges.pairings_eq {parts : List Part} {s t : State} (h : OnlyChanges parts s t) (n : Part.pairings ∉ parts) :
    t.pairings = s.pairings := h.2 .pairings (by decide) n

theorem OnlyChanges.lastTicket_eq {parts : List Part} {s t : State} (h : OnlyChanges parts s t) (n : Part.lastTicket ∉ parts) :
    t.lastTicket = s.lastTicket := h.2 .lastTicket (by decide) n

theorem OnlyChanges.ring_eq {parts : List Part} {s t : State} (h : OnlyChanges parts s t) (n : Part.ring ∉ parts) :
    t.ring = s.ring := h.2 .ring (by decide) n

theorem OnlyChanges.reach_eq {parts : List Part} {s t : State} (h : OnlyChanges parts s t) (n : Part.reach ∉ parts) :
    t.reach = s.reach := h.2 .reach (by decide) n

theorem OnlyChanges.lastPick_eq {parts : List Part} {s t : State} (h : OnlyChanges parts s t) (n : Part.lastPick ∉ parts) :
    t.lastPick = s.lastPick := h.2 .lastPick (by decide) n

theorem OnlyChanges.waitList_eq {parts : List Part} {s t : State} (h : OnlyChanges parts s t) (n : Part.waitList ∉ parts) :
    t.waitList = s.waitList := h.2 .waitList (by decide) n

theorem OnlyChanges.trace_eq {parts : List Part} {s t : State} (h : OnlyChanges parts s t) (n : Part.trace ∉ parts) :
    t.trace = s.trace := h.2 .trace (by decide) n

theorem OnlyChanges.notices_eq {parts : List Part} {s t : State} (h : OnlyChanges parts s t) (n : Part.notices ∉ parts) :
    t.notices = s.notices := h.2 .notices (by decide) n

theorem OnlyChanges.ports_eq {parts : List Part} {s t : State} (h : OnlyChanges parts s t) (n : Part.ports ∉ parts) :
    t.ports = s.ports := h.2 .ports (by decide) n

/-! ## Updates -/

theorem only_setLane (s : State) (l : Lane) (x : LaneTable) : OnlyChanges [.lanes] s (s.setLane l x) := by
  simp [OnlyChanges, Part.list, Part.same]

theorem only_setGate (s : State) (l : Lane) (x : GateMonitor) : OnlyChanges [.gates] s (s.setGate l x) := by
  simp [OnlyChanges, Part.list, Part.same]

theorem only_setBank (s : State) (b : BankId) (x : MapBank) : OnlyChanges [.banks] s (s.setBank b x) := by
  simp [OnlyChanges, Part.list, Part.same]

theorem only_setPort (s : State) (p : Port) (x : PortState) : OnlyChanges [.ports] s (s.setPort p x) := by
  simp [OnlyChanges, Part.list, Part.same]

theorem only_setLink (s : State) (p : Port) (x : Link) : OnlyChanges [.ports] s (s.setLink p x) := by
  simp [OnlyChanges, Part.list, Part.same]

theorem only_setNotice (s : State) (p : Port) (x : NoticeState) : OnlyChanges [.notices] s (s.setNotice p x) := by
  simp [OnlyChanges, Part.list, Part.same]

/-! ## Notices and responses -/

theorem only_raiseAt (p : Port) (x : Notice) (s : State) : OnlyChanges [.notices] s (raiseAt p x s) := by
  unfold raiseAt
  split
  · exact .refl _ s
  · exact only_setNotice s p _

theorem only_raiseTo (r : Role) (x : Notice) (s : State) : OnlyChanges [.notices] s (raiseTo r x s) := by
  unfold raiseTo
  split
  · exact .refl _ s
  · exact only_raiseAt _ x s

theorem only_raiseLineState (c : LineCause) (s : State) : OnlyChanges [.notices] s (raiseLineState c s) :=
  .foldl (fun s p => only_raiseAt p (.lineState c s.line) s) _ s

theorem only_reevalTraceLevel (s : State) : OnlyChanges [.notices] s (reevalTraceLevel s) := by
  unfold reevalTraceLevel
  split
  · exact .refl _ s
  · exact only_setNotice s 0 _

theorem only_handOver (p : Port) (r : Response) (m : Option GrantMark) (s : State) :
    OnlyChanges [.ports] s (handOver p r m s) := by
  unfold handOver
  split
  · exact only_setLink s p _
  · exact .refl _ s

theorem only_reply (p : Port) (r : Response) (s : State) : OnlyChanges [.ports] s (reply p r s) := only_handOver p r none s

/-! ## Die, sites and gates -/

theorem only_changeDie (b : BankId) (i : Nat) (r : DieRecord) (s : State) :
    OnlyChanges [.banks, .notices] s (changeDie b i r s) := by
  have h : OnlyChanges [.banks, .notices] s (s.setBank b ((s.bank b).withDie i r)) := (only_setBank s b _).mono (by simp)
  unfold changeDie
  dsimp only
  split
  · exact h.trans ((only_raiseTo _ _ _).mono (by simp))
  · exact h

theorem only_retireIfClear (b : BankId) (s : State) : OnlyChanges [.banks, .notices] s (retireIfClear b s) := by
  unfold retireIfClear
  split
  · exact ((only_raiseTo _ _ s).mono (by simp)).trans ((only_setBank _ b _).mono (by simp))
  · exact .refl _ s

theorem only_changeSite (l : Lane) (a : BitVec 32) (i : Nat) (x : Site) (s : State) :
    OnlyChanges [.lanes] s (changeSite l a i x s) := by
  unfold changeSite
  split
  · exact .refl _ s
  · exact only_setLane s l _

theorem only_settlementCheck (l : Lane) (a : BitVec 32) (s : State) : OnlyChanges [.notices] s (settlementCheck l a s) := by
  unfold settlementCheck raiseStripSettled
  split
  · exact .refl _ s
  · split
    · exact only_raiseTo _ _ s
    · exact .refl _ s

theorem only_settlementCheckOldest (l : Lane) (s : State) : OnlyChanges [.notices] s (settlementCheckOldest l s) := by
  unfold settlementCheckOldest raiseStripSettled
  split
  · exact only_raiseTo _ _ s
  · exact .refl _ s

theorem only_dropAssignment (l : Lane) (s : State) : OnlyChanges [.gates] s (dropAssignment l s) := only_setGate s l _

theorem only_takeBackSite (l : Lane) (a : Assignment) (s : State) : OnlyChanges [.lanes, .gates] s (takeBackSite l a s) :=
  ((only_changeSite l a.arrival a.site .empty s).mono (by simp)).trans ((only_dropAssignment l _).mono (by simp))

theorem only_grantDot (l : Lane) (p : Port) (st : Strip) (i : Nat) (s : State) :
    OnlyChanges [.lanes, .gates, .ports] s (grantDot l p st i s) :=
  ((only_changeSite l st.arrival i .dispensing s).mono (by simp)).trans
    (((only_setGate _ l _).mono (by simp)).trans ((only_handOver p _ _ _).mono (by simp)))

theorem only_reexamine (l : Lane) (s : State) : OnlyChanges [.lanes, .gates, .ports] s (reexamine l s) := by
  unfold reexamine
  split
  · exact .refl _ s
  · split
    · exact .refl _ s
    · exact ((only_setGate s l _).mono (by simp)).trans (only_grantDot l _ _ _ _)

theorem only_handOnSettled (l : Lane) (a : BitVec 32) (s : State) :
    OnlyChanges [.lanes, .gates, .ports, .notices] s (handOnSettled l a s) :=
  ((only_reexamine l s).mono (by simp)).trans ((only_settlementCheck l a _).mono (by simp))

theorem only_answerWaiter (l : Lane) (r : Response) (s : State) : OnlyChanges [.gates, .ports] s (answerWaiter l r s) := by
  unfold answerWaiter
  split
  · exact .refl _ s
  · exact ((only_setGate s l _).mono (by simp)).trans ((only_reply _ r _).mono (by simp))

/-! ## Trace, grants and passes -/

theorem only_closeTrace (pr : Pairing) (k : Option TraceKind) (s : State) :
    OnlyChanges [.trace, .notices] s (closeTrace pr k s) := by
  have h : ∀ x : TraceQueue, OnlyChanges [.trace, .notices] s { s with trace := x } := by
    simp [OnlyChanges, Part.list, Part.same]
  unfold closeTrace
  split
  · exact (h _).trans ((only_reevalTraceLevel _).mono (by simp))
  · exact h _

theorem only_claimDie (f : Found) (s : State) : OnlyChanges [.banks, .notices] s (claimDie f s) :=
  (only_changeDie _ _ _ s).trans ((only_setBank _ _ _).mono (by simp))

theorem only_pairSite (f : Found) (t : Ticket) (s : State) : OnlyChanges [.lanes] s (pairSite f t s) := by
  unfold pairSite
  split
  · exact only_changeSite _ _ _ _ s
  · exact .refl _ s

theorem only_grantPair (p : Port) (f : Found) (t : Ticket) (s : State) : OnlyChanges passParts s (grantPair p f t s) := by
  have h1 : OnlyChanges passParts s { s with lastTicket := t } := by
    simp [OnlyChanges, passParts, Part.list, Part.same]
  have h2 := (only_claimDie f { s with lastTicket := t }).mono (b := passParts) (by simp [passParts])
  have h3 := (only_pairSite f t (claimDie f { s with lastTicket := t })).mono (b := passParts) (by simp [passParts])
  refine (h1.trans (h2.trans h3)).trans (.trans ?_ ((only_handOver p _ _ _).mono (by simp [passParts])))
  simp [removeEntry, OnlyChanges, passParts, Part.list, Part.same]

theorem only_setObstacle (p : Port) (o : Obstacle) (s : State) : OnlyChanges [.waitList] s (setObstacle p o s) := by
  simp [setObstacle, OnlyChanges, Part.list, Part.same]

theorem only_tryEntry (e : WaitEntry) (s : State) : OnlyChanges passParts s (tryEntry e s) := by
  have h : ∀ o, OnlyChanges passParts s (setObstacle e.port o s) := fun o => (only_setObstacle _ o s).mono (by simp [passParts])
  unfold tryEntry
  split
  · exact h _
  · split
    · exact h _
    · split
      · exact only_grantPair _ _ _ s
      · exact .refl _ s

theorem only_walk (es : List WaitEntry) (s : State) : OnlyChanges passParts s (walk es s) := by
  induction es generalizing s with
  | nil => exact .refl _ s
  | cons e es ih => exact (only_tryEntry e s).trans (ih _)

theorem only_arbiterPass (s : State) : OnlyChanges passParts s (arbiterPass s) := only_walk _ s

theorem only_arbiterPasses (n : Nat) (s : State) : OnlyChanges passParts s (arbiterPasses n s) := by
  induction n generalizing s with
  | zero => exact .refl _ s
  | succ n ih => exact (only_arbiterPass s).trans (ih _)

theorem only_answerEntry (p : Port) (s : State) : OnlyChanges [.waitList, .ports] s (answerEntry p s) := by
  unfold answerEntry
  split
  · exact .refl _ s
  · refine OnlyChanges.trans ?_ ((only_reply p _ _).mono (by simp))
    simp [removeEntry, OnlyChanges, Part.list, Part.same]

/-! ## Ends of pairings -/

theorem only_releaseDie (pr : Pairing) (r : DieRecord) (s : State) :
    OnlyChanges [.banks, .notices] s (releaseDie pr r s) :=
  (only_changeDie _ _ _ s).trans ((only_setBank _ _ _).mono (by simp))

theorem only_releaseSite (pr : Pairing) (x : Option Site) (s : State) :
    OnlyChanges [.lanes, .gates, .ports, .notices] s (releaseSite pr x s) := by
  unfold releaseSite
  split
  · exact .refl _ s
  · rename_i x
    have h := (only_changeSite pr.lane pr.arrival pr.site x s).mono (b := [.lanes, .gates, .ports, .notices]) (by simp)
    dsimp only
    split
    · exact h.trans (only_handOnSettled _ _ _)
    · exact h

/-- The common end of a pairing (R94) changes none but the parts that Safety.lean names for it. -/
theorem only_endPairing (pr : Pairing) (e : PairEnd) (s : State) : OnlyChanges endParts s (endPairing pr e s) := by
  have h1 := (only_releaseDie pr e.die s).mono (b := endParts) (by simp [endParts, passParts])
  have h2 := (only_releaseSite pr e.site (releaseDie pr e.die s)).mono (b := endParts) (by simp [endParts, passParts])
  have h3 := (only_closeTrace pr e.record (releaseSite pr e.site (releaseDie pr e.die s))).mono (b := endParts)
    (by simp [endParts, passParts])
  have h4 : ∀ t, OnlyChanges endParts t (retireTicket pr e.outcome t) := by
    simp [retireTicket, OnlyChanges, endParts, passParts, Part.list, Part.same]
  have h5 : ∀ t, OnlyChanges endParts t (retireIfClear pr.bank t) := fun t =>
    (only_retireIfClear pr.bank t).mono (by simp [endParts, passParts])
  have h := (h1.trans (h2.trans h3)).trans ((h4 _).trans (h5 _))
  unfold endPairing
  dsimp only
  split
  · exact h.trans ((only_raiseAt _ _ _).mono (by simp [endParts, passParts]))
  · exact h

theorem only_endAndPass (pr : Pairing) (e : PairEnd) (s : State) : OnlyChanges endParts s (endAndPass pr e s) :=
  (only_endPairing pr e s).trans ((only_arbiterPasses _ _).mono
    (fun _ m => List.mem_cons_of_mem _ (List.mem_cons_of_mem _ m)))

end Sys2Proof.Safety
end

