-- ==== Sys2Proof/Laws/Invariants.lean ====
section
/-! SUPPORT. Laws/Invariants.lean: the laws of the device from their parts, so that a concrete state's laws are a few decidable
questions. -/

namespace Sys2Proof.Safety

open Sys2Proof Sys2Proof.Machine

/-- The laws of the clock, the roles and the ranges. -/
abbrev RangeLaws (s : State) : Prop :=
  SweepFollowsClock s ∧ SingleLaneLaw s ∧ RoleLaw s ∧ ProductLaw s ∧ LaneRangeLaw s.lanes.a ∧ LaneRangeLaw s.lanes.b ∧
    (∀ p : Port, s.roles[p].level ≤ 3) ∧ (1 ≤ s.trace.threshold ∧ s.trace.threshold ≤ Config.traceCapacity) ∧
    s.gates.a.orphans ≤ Config.maxOctetCount ∧ s.gates.b.orphans ≤ Config.maxOctetCount ∧ s.ring.length ≤ Config.ringSize

/-- The laws of the ports, the held requests and the notices. -/
abbrev HeldLaws (s : State) : Prop :=
  LinkLaw s ∧ WaitersOnlyInRun s ∧ WaitListLaw s ∧ DotWaiterLaw s ∧ NoticeLaw s ∧ TraceLevelLaw s

/-- The laws of the trace and the map banks. -/
abbrev StoreLaws (s : State) : Prop :=
  TraceRoomLaw s ∧ TraceOrderLaw s ∧ BankLaw s ∧ DieCountLaw s.banks.b0 ∧ DieCountLaw s.banks.b1 ∧ BankRefLaw s

/-- The laws of the lanes and of what they are bonded with. -/
abbrev SiteLaws (s : State) : Prop :=
  SiteCountLaw s.lanes.a ∧ SiteCountLaw s.lanes.b ∧ StripQueueLaw s s.lanes.a ∧ StripQueueLaw s s.lanes.b ∧
    WetLimitLaw s.lanes.a ∧ WetLimitLaw s.lanes.b ∧ BondAgeLaw s ∧ BondGradeLaw s

/-- The laws of the dispensing assignments, the tickets and the heads. -/
abbrev WorkLaws (s : State) : Prop := AssignmentLaw s ∧ BoundLaw s ∧ DispensingLaw s ∧ TicketLaw s ∧ HeadLaw s

/-- The laws that join the pairings to their sites and die. -/
abbrev PairLaws (s : State) : Prop := PairedSiteLaw s ∧ PairedDieLaw s ∧ PairingGradeLaw s

/-- The laws of time. -/
abbrev TimeLaws (s : State) : Prop := TimerLaw s ∧ PairTimeLaw s ∧ AgeLaw s

theorem DeviceInv.of_laws {s : State} (a : RangeLaws s) (b : HeldLaws s) (c : StoreLaws s) (d : SiteLaws s)
    (e : WorkLaws s) (f : PairLaws s) (g : TimeLaws s) : DeviceInv s := by
  obtain ⟨a1, a2, a3, a4, a5, a6, a7, a8, a9, a10, a11⟩ := a
  obtain ⟨b1, b2, b3, b4, b5, b6⟩ := b
  obtain ⟨c1, c2, c3, c4, c5, c6⟩ := c
  obtain ⟨d1, d2, d3, d4, d5, d6, d7, d8⟩ := d
  obtain ⟨e1, e2, e3, e4, e5⟩ := e
  obtain ⟨f1, f2, f3⟩ := f
  obtain ⟨g1, g2, g3⟩ := g
  exact ⟨a1, a2, a3, ⟨a4, a5, a6, a7, a8, a9, a10, a11⟩, ⟨b1, b2, b3, b4⟩, ⟨c1, c2⟩, ⟨c3, c4, c5, c6⟩, d1, d2, d3, d4, d5,
    d6, d7, d8, ⟨b5, b6⟩, e1, e2, e3, e4, e5, f1, f2, f3, ⟨g1, g2, g3⟩⟩

/-! ## A port that receives -/

/-- The state with a port in RECEIVING and nothing received yet. -/
def sending (p : Port) (s : State) : State := s.setPort p { selLow := true, link := .receiving [] [] s.clock }

theorem link_sending_of_ne {p q : Port} (s : State) (h : q ≠ p) : (sending p s).link q = s.link q := by
  simp [sending, State.link, h]

theorem link_sending_self (p : Port) (s : State) : (sending p s).link p = .receiving [] [] s.clock := by
  simp [sending, State.link]

/-- A fall of SEL on an idle port of a part that is not held in reset leaves every law as it was. -/
theorem DeviceInv.sending {s : State} (h : DeviceInv s) {p : Port} (hr : s.resetAsserted = false) (hi : s.link p = .idle) :
    DeviceInv (sending p s) := by
  have hne : ∀ q k, s.link q = .holding k → q ≠ p := by rintro q k hq rfl; rw [hi] at hq; cases hq
  have links : LinkLaw (Safety.sending p s) := by
    intro q
    refine ⟨fun _ => ?_, fun hr' => absurd hr' (by show ¬ s.resetAsserted = true; simp [hr])⟩
    by_cases e : q = p
    · rw [e, link_sending_self]
      simp [Safety.sending]
    · rw [link_sending_of_ne s e]
      have := (h.link.links q).1 hr
      simpa [Safety.sending, e] using this
  have waits : WaitListLaw (Safety.sending p s) :=
    ⟨h.link.waitList.1, h.link.waitList.2.1, fun e m => by
      have w := h.link.waitList.2.2 e m
      exact ⟨w.1, by rw [link_sending_of_ne s (hne _ _ w.2)]; exact w.2⟩⟩
  have dots : DotWaiterLaw (Safety.sending p s) := fun l m w hw => by
    have d := h.link.dotWaiters l m w hw
    exact ⟨d.1, by rw [link_sending_of_ne s (hne _ _ d.2)]; exact d.2⟩
  have timers : TimerLaw (Safety.sending p s) := by
    refine ⟨fun q => ?_, h.time.timers.2⟩
    by_cases e : q = p
    · rw [e, link_sending_self]
      simp [idleInTime, elapsed, Safety.sending]
    · rw [link_sending_of_ne s e]
      exact h.time.timers.1 q
  exact ⟨h.sweep, h.singleLane, h.roles,
    ⟨h.ranges.products, h.ranges.laneA, h.ranges.laneB, h.ranges.levels, h.ranges.threshold, h.ranges.orphansA,
      h.ranges.orphansB, h.ranges.ring⟩,
    ⟨links, h.link.onlyInRun, waits, dots⟩, ⟨h.trace.room, h.trace.order⟩,
    ⟨h.map.states, h.map.die0, h.map.die1, h.map.references⟩, h.sitesA, h.sitesB, h.queueA, h.queueB, h.wetA, h.wetB,
    h.bondAge, h.bondGrade, ⟨h.notices.ranks, h.notices.traceLevel⟩, h.assignments, h.bound, h.dispensing,
    h.tickets, h.heads, h.pairedSites, h.pairedDie, h.pairingGrades, ⟨timers, h.time.pairings, h.time.ages⟩⟩

/-- A frame that passes the port's checks is taken. -/
theorem taken_sending {k : Kind} {p : Port} {body : List Octet} {s : State} (hr : s.resetAsserted = false)
    (hl : lengthOk k body = true) (hk : kindPermits k (s.role p) = true) : Taken k p body (sending p s) := by
  refine ⟨⟨hr, ?_⟩, hl, hk⟩
  simp [State.receives, link_sending_self, beginsFrame, frameOctets]

end Sys2Proof.Safety
end

