-- ==== Sys2Proof/Laws/Ops.lean ====
section
/-! SUPPORT. Laws/Ops.lean: what the shared operations do: the die table reads what was written and keeps its canonical form,
a raising leaves what R141 says, a response reaches the port that holds, and a pass moves no port but those that wait. -/

namespace Sys2Proof.Machine

open Sys2Proof Sys2Proof.Safety

/-! ## The die table -/

theorem dieAt_of_lt {t : List (Nat × DieRecord)} {i : Nat} (h : ∀ e ∈ t, i < e.1) : dieAt t i = .blank := by
  induction t with
  | nil => rfl
  | cons e t ih =>
    have h1 : i < e.1 := h e List.mem_cons_self
    simp only [dieAt]
    rw [if_neg (by omega)]
    exact ih (fun x m => h x (List.mem_cons_of_mem _ m))

/-- Read after write: the written index reads the written record and every other index reads as before. -/
theorem dieAt_putDie {t : List (Nat × DieRecord)} (h : dieTableWf t) (i j : Nat) (r : DieRecord) :
    dieAt (putDie t i r) j = if j = i then r else dieAt t j := by
  induction t with
  | nil => by_cases b : r = .blank <;> simp [putDie, dieAt, b]
  | cons e t ih =>
    obtain ⟨k, x⟩ := e
    have hp := List.pairwise_cons.1 h.1
    have ht : dieTableWf t := ⟨hp.2, fun e m => h.2 e (List.mem_cons_of_mem _ m)⟩
    simp only [putDie]
    split
    · rename_i lt
      have low : dieAt ((k, x) :: t) i = .blank :=
        dieAt_of_lt (by intro e m; rcases List.mem_cons.1 m with rfl | m; exacts [lt, lt.trans (hp.1 e m)])
      split
      · rename_i b
        split
        · rename_i e; rw [e, b, low]
        · rfl
      · simp [dieAt]
    · rename_i nlt
      split
      · rename_i eq
        subst eq
        have low : dieAt t i = .blank := dieAt_of_lt (fun e m => hp.1 e m)
        split
        · rename_i b
          simp only [dieAt]
          split
          · rename_i e; rw [e, b, low]
          · rfl
        · simp only [dieAt]
          split <;> rfl
      · rename_i ne
        simp only [dieAt, ih ht]
        split
        · rename_i e; rw [if_neg (by omega)]
        · rfl

/-- Every index of a table after a write is the written one or was there before. -/
theorem mem_putDie {t : List (Nat × DieRecord)} {i : Nat} {r : DieRecord} {e : Nat × DieRecord} (h : e ∈ putDie t i r) :
    (e = (i, r) ∧ r ≠ .blank) ∨ e ∈ t := by
  induction t with
  | nil => by_cases b : r = .blank <;> simp_all [putDie]
  | cons d t ih =>
    obtain ⟨k, x⟩ := d
    simp only [putDie] at h
    split at h
    · split at h
      · exact .inr h
      · rename_i b; rcases List.mem_cons.1 h with h | h; exacts [.inl ⟨h, b⟩, .inr h]
    · split at h
      · split at h
        · exact .inr (List.mem_cons_of_mem _ h)
        · rename_i b
          rcases List.mem_cons.1 h with h | h; exacts [.inl ⟨h, b⟩, .inr (List.mem_cons_of_mem _ h)]
      · rcases List.mem_cons.1 h with h | h
        · exact .inr (h ▸ List.mem_cons_self)
        · exact (ih h).imp_right (List.mem_cons_of_mem _)

/-- A write keeps the canonical form. -/
theorem putDie_wf {t : List (Nat × DieRecord)} (h : dieTableWf t) (i : Nat) (r : DieRecord) : dieTableWf (putDie t i r) := by
  refine ⟨?_, fun e m => ?_⟩
  · induction t with
    | nil => by_cases b : r = .blank <;> simp [putDie, b]
    | cons d t ih =>
      obtain ⟨k, x⟩ := d
      have hp := List.pairwise_cons.1 h.1
      simp only [putDie]
      split
      · rename_i lt
        split
        · exact h.1
        · exact List.pairwise_cons.2 ⟨fun e m => by
            rcases List.mem_cons.1 m with rfl | m; exacts [lt, lt.trans (hp.1 e m)], h.1⟩
      · rename_i nlt
        split
        · rename_i eq
          subst eq
          split
          · exact hp.2
          · exact List.pairwise_cons.2 ⟨fun e m => hp.1 e m, hp.2⟩
        · rename_i ne
          refine List.pairwise_cons.2 ⟨fun e m => ?_, ih ⟨hp.2, fun e m => h.2 e (List.mem_cons_of_mem _ m)⟩⟩
          rcases mem_putDie m with ⟨rfl, _⟩ | m
          · show k < i; omega
          · exact hp.1 e m
  · rcases mem_putDie m with ⟨rfl, b⟩ | m
    · exact b
    · exact h.2 e m

/-! ## Notices and responses -/

/-- R141: a raising changes the notice state of its port alone. -/
theorem notice_raiseAt (p q : Port) (x : Notice) (s : State) :
    (raiseAt p x s).notice q = if q = p then afterRaise x p s else s.notice q := by
  unfold raiseAt afterRaise
  split
  · rename_i h
    split
    · rename_i e; rw [e, h]
    · rfl
  · rename_i k h
    split
    · rename_i e; rw [e, h, State.notice_setNotice_self]
    · rename_i ne; exact State.notice_setNotice_of_ne s _ ne

/-- R154: a response reaches a port that holds its request, with the request in hand and the grant mark. -/
theorem handOver_of_holding {p : Port} {k : Kind} {s : State} (h : s.link p = .holding k) (r : Response)
    (m : Option GrantMark) : handOver p r m s = s.setLink p (.answering (some k) r 0 m) := by
  simp only [handOver, h]

theorem kept_of_ports_eq {s t : State} (h : t.ports = s.ports) (moved : List Port) : PortsKept moved s t :=
  fun q _ => by simp only [h]

theorem kept_trans {moved : List Port} {s t u : State} (h : PortsKept moved s t) (k : PortsKept moved t u) :
    PortsKept moved s u := fun q n => (k q n).trans (h q n)

theorem kept_mono {a b : List Port} {s t : State} (h : PortsKept a s t) (k : ∀ q ∈ a, q ∈ b) : PortsKept b s t :=
  fun q n => h q (fun m => n (k q m))

theorem kept_setLink (p : Port) (x : Link) (s : State) : PortsKept [p] s (s.setLink p x) := by
  intro q n
  exact State.ports_setLink_of_ne s x (by simpa using n)

theorem kept_handOver (p : Port) (r : Response) (m : Option GrantMark) (s : State) : PortsKept [p] s (handOver p r m s) := by
  unfold handOver
  split
  · exact kept_setLink p _ s
  · exact kept_of_ports_eq rfl _

theorem kept_grantPair (p : Port) (f : Found) (t : Ticket) (s : State) : PortsKept [p] s (grantPair p f t s) := by
  refine kept_trans (kept_of_ports_eq ?_ _) (kept_handOver p _ _ _)
  exact ((only_pairSite f t _).ports_eq (by simp)).trans ((only_claimDie f _).ports_eq (by simp))

theorem kept_tryEntry (e : WaitEntry) (s : State) : PortsKept [e.port] s (tryEntry e s) := by
  unfold tryEntry
  split
  · exact kept_of_ports_eq rfl _
  · split
    · exact kept_of_ports_eq rfl _
    · split
      · exact kept_grantPair _ _ _ s
      · exact kept_of_ports_eq rfl _

theorem kept_walk (es : List WaitEntry) (s : State) : PortsKept (es.map (fun e => e.port)) s (walk es s) := by
  induction es generalizing s with
  | nil => exact kept_of_ports_eq rfl _
  | cons e es ih =>
    exact kept_trans (kept_mono (kept_tryEntry e s) (by simp)) (kept_mono (ih _) (fun q m => by
      rw [List.map_cons]; exact List.mem_cons_of_mem _ m))

/-- An arbiter pass moves no port but those whose PAIR waits. -/
theorem kept_arbiterPass (s : State) : PortsKept (waitPorts s) s (arbiterPass s) := kept_walk s.waitList s

/-- A re-examination moves no port but that of the lane's dot waiter. -/
theorem kept_reexamine (l : Lane) (s : State) :
    PortsKept ((s.gate l).waiter.map (fun w => w.port)).toList s (reexamine l s) := by
  unfold reexamine
  split
  · exact kept_of_ports_eq rfl _
  · rename_i w h
    split
    · exact kept_of_ports_eq rfl _
    · have e : ((s.gate l).waiter.map (fun w => w.port)).toList = [w.port] := by simp [h]
      rw [e]
      refine kept_trans (kept_of_ports_eq ?_ _) (kept_handOver _ _ _ _)
      exact (only_changeSite _ _ _ _ _).ports_eq (by simp)

/-! ## Die and site changes -/

/-- R5: a die change changes its own bank alone. -/
theorem bank_changeDie (b k : BankId) (i : Nat) (r : DieRecord) (s : State) :
    (changeDie b i r s).bank k = if k = b then (s.bank b).withDie i r else s.bank k := by
  have h : (changeDie b i r s).banks = (s.setBank b ((s.bank b).withDie i r)).banks := by
    unfold changeDie
    dsimp only
    split
    · exact (only_raiseTo _ _ _).banks_eq (by simp)
    · rfl
  have e : (changeDie b i r s).bank k = (s.setBank b ((s.bank b).withDie i r)).bank k := by simp only [State.bank, h]
  rw [e]
  split
  · rename_i c; rw [c, State.bank_setBank_self]
  · rename_i c; exact State.bank_setBank_of_ne s _ c

theorem changeSite_of_some {l : Lane} {a : BitVec 32} {i : Nat} {old : Site} {s : State} (h : s.site l a i = some old)
    (new : Site) : changeSite l a i new s = s.setLane l { s.lane l with
      strips := updateStrip a (fun st => st.withSite i old new) (s.lane l).strips
      wetAhead := recount (s.lane l).wetAhead old.countsWet new.countsWet } := by
  simp only [changeSite, h]

theorem find_updateStrip {a : BitVec 32} {f : Strip → Strip} (keeps : ∀ st, (f st).arrival = st.arrival) (b : BitVec 32)
    (l : List Strip) : (updateStrip a f l).find? (fun st => st.arrival == b) =
      if b = a then (l.find? (fun st => st.arrival == b)).map f else l.find? (fun st => st.arrival == b) := by
  induction l with
  | nil => simp [updateStrip]
  | cons st l ih =>
    simp only [updateStrip]
    by_cases e : st.arrival = a
    · rw [if_pos e]
      by_cases c : b = a
      · simp [keeps, e, c]
      · have n : (st.arrival == b) = false := by simpa [e] using fun h => c h.symm
        have m : ((f st).arrival == b) = false := by rw [keeps]; exact n
        simp [n, m, c]
    · rw [if_neg e]
      by_cases d : st.arrival = b
      · have c : b ≠ a := fun h => e (d.trans h)
        simp [d, c]
      · have n : (st.arrival == b) = false := by simpa using d
        simp only [List.find?_cons, n, ih]

/-- R28: a site that is there reads, after a change, the new record. -/
theorem site_changeSite_self {l : Lane} {a : BitVec 32} {i : Nat} {old : Site} {s : State} (h : s.site l a i = some old)
    (new : Site) : (changeSite l a i new s).site l a i = some new := by
  have k := h
  simp only [State.site, State.strip, Option.bind_eq_some_iff] at k
  obtain ⟨st, hst, hi⟩ := k
  rw [changeSite_of_some h]
  simp only [State.site, State.strip, State.lane_setLane_self]
  rw [find_updateStrip (f := fun st => st.withSite i old new) (fun _ => rfl)]
  have lt : i < st.sites.length := by
    by_contra n
    rw [List.getElem?_eq_none (by omega)] at hi
    cases hi
  simp [hst, Strip.withSite, lt]

/-! ## Passes -/

/-- R108: a pass with an empty list has no effect. -/
theorem arbiterPass_of_empty {s : State} (h : s.waitList = []) : arbiterPass s = s := by simp only [arbiterPass, h, walk]

/-- With nothing on the wait list, the list is blocked. -/
theorem blocked_of_empty {s : State} (h : s.waitList = []) : Blocked s := by rw [Blocked, arbiterPass_of_empty h]

theorem arbiterPasses_of_empty {s : State} (h : s.waitList = []) (n : Nat) : arbiterPasses n s = s := by
  induction n with
  | zero => rfl
  | succ n ih => rw [arbiterPasses, arbiterPass_of_empty h, ih]

end Sys2Proof.Machine
end

