-- ==== Sys2Proof/Laws/Time.lean ====
section
/-! SUPPORT. Laws/Time.lean: what the hand-overs, the sweep visit, the expiries and the tick do: which parts each can change, when each does
nothing, and what a tick leaves of the clock. -/

namespace Sys2Proof.Safety

open Sys2Proof Sys2Proof.Machine

/-! ## The sweep visit -/

theorem only_spoilSite (l : Lane) (st : Strip) (i : Nat) (w : Reading) (s : State) :
    OnlyChanges [.lanes, .gates, .ports, .notices] s (spoilSite l st i w s) :=
  (((only_changeSite l st.arrival i (.spoiled w) s).mono (by simp)).trans ((only_raiseAt 0 _ _).mono (by simp))).trans
    (only_handOnSettled l st.arrival _)

theorem only_sweepVisit (pos : BitVec 9) (s : State) :
    OnlyChanges [.lanes, .gates, .ports, .notices] s (sweepVisit pos s) := by
  unfold sweepVisit
  dsimp only
  split
  · exact .refl _ s
  · split
    · exact .refl _ s
    · split
      · split
        · exact only_spoilSite _ _ _ _ s
        · exact .refl _ s
      · exact .refl _ s

/-- What the visit owed may change. -/
def visitParts : List Part := [.visit, .lanes, .gates, .ports, .notices]

theorem only_takeVisit (s : State) : OnlyChanges visitParts s (takeVisit s) := by
  unfold takeVisit
  split
  · refine OnlyChanges.trans ?_ ((only_sweepVisit _ _).mono (by simp [visitParts]))
    simp [OnlyChanges, visitParts, Part.list, Part.same]
  · exact .refl _ s

theorem takeVisit_of_none_owed {s : State} (h : s.visitOwed = false) : takeVisit s = s := by simp [takeVisit, h]

@[simp] theorem visitOwed_takeVisit (s : State) : (takeVisit s).visitOwed = false := by
  cases h : s.visitOwed with
  | false => rw [takeVisit_of_none_owed h, h]
  | true =>
    rw [takeVisit, if_pos h]
    exact (only_sweepVisit _ _).visitOwed_eq (by simp)

/-! ## The hand-overs and what the part does of its own at a reading -/

theorem only_keepInHand (p : Port) (s : State) : OnlyChanges [.ports] s (keepInHand p s) := by
  unfold keepInHand
  split
  · exact only_setLink s p _
  · exact .refl _ s

theorem only_handOverDecided (p : Port) (s : State) : OnlyChanges [.ports] s (handOverDecided p s) := by
  unfold handOverDecided
  split
  · exact only_setLink s p _
  · exact .refl _ s

/-- A response that is handed over after the port has kept it in hand is as it was handed over at once. -/
theorem handOverDecided_keepInHand {p : Port} {s : State} (h : inHandAt p s = false) :
    handOverDecided p (keepInHand p s) = s := by
  unfold keepInHand
  split
  · rename_i k r mark held
    simp [handOverDecided, State.setLink, State.setPort, State.link] at held ⊢
    rw [← held]
    exact congrArg (fun v => { s with ports := v }) (Vector.set_getElem_self p.isLt)
  · unfold handOverDecided
    split
    · rename_i k r mark held
      simp [inHandAt, held] at h
    · rfl

theorem handOverDecided_of_none {p : Port} {s : State} (h : inHandAt p s = false) :
    handOverDecided p s = s := by
  unfold handOverDecided
  split
  · rename_i k r m held
    simp [inHandAt, held] at h
  · rfl

theorem only_handOverAll (s : State) : OnlyChanges [.ports] s (handOverAll s) :=
  .foldl (fun u p => only_handOverDecided p u) _ s

/-- A fold of operations that leave a state alone leaves it alone. -/
theorem foldl_of_fixed {α : Type} {f : State → α → State} {s : State} (h : ∀ x, f s x = s) (xs : List α) :
    xs.foldl f s = s := by
  induction xs with
  | nil => rfl
  | cons x xs ih => rw [List.foldl_cons, h, ih]

theorem handOverAll_of_none {s : State} (h : NoneInHand s) : handOverAll s = s :=
  foldl_of_fixed (fun p => handOverDecided_of_none (h p)) _

theorem only_catchUp (s : State) : OnlyChanges visitParts s (catchUp s) :=
  ((only_handOverAll s).mono (by simp [visitParts])).trans (only_takeVisit _)

@[simp] theorem visitOwed_catchUp (s : State) : (catchUp s).visitOwed = false := visitOwed_takeVisit _

/-- With no decided response and no visit owed the part does nothing of its own. -/
theorem catchUp_of_nothing_owed {s : State} (owed : s.visitOwed = false) (h : NoneInHand s) : catchUp s = s := by
  rw [catchUp, handOverAll_of_none h, takeVisit_of_none_owed owed]

/-! ## Each expiry: what it may change, and that it does nothing before its timer is due -/

theorem only_expireFrame (p : Port) (s : State) : OnlyChanges [.ports] s (expireFrame p s) := by
  unfold expireFrame
  split
  · split
    · exact only_setLink s p _
    · exact .refl _ s
  · exact .refl _ s

theorem expireFrame_of_not_due {p : Port} {s : State}
    (h : ∀ octets bits start, s.link p = .receiving octets bits start → elapsed start s.clock < Config.frameIdleTicks) :
    expireFrame p s = s := by
  unfold expireFrame
  split
  · rename_i octets bits start r
    simp [due, h octets bits start r]
  · rfl

theorem only_expirePairWait (p : Port) (s : State) : OnlyChanges [.waitList, .ports] s (expirePairWait p s) := by
  unfold expirePairWait
  split
  · exact .refl _ s
  · split
    · exact only_answerEntry p s
    · exact .refl _ s

theorem expirePairWait_of_not_due {p : Port} {s : State} (h : ∀ e ∈ s.waitList, elapsed e.start s.clock < e.length) :
    expirePairWait p s = s := by
  unfold expirePairWait
  split
  · rfl
  · rename_i e r
    simp [due, h e (List.mem_of_find?_eq_some r)]

theorem only_expireDotWait (l : Lane) (s : State) : OnlyChanges [.gates, .ports] s (expireDotWait l s) := by
  unfold expireDotWait
  split
  · exact .refl _ s
  · split
    · exact only_answerWaiter l _ s
    · exact .refl _ s

theorem expireDotWait_of_not_due {l : Lane} {s : State} (h : ∀ w ∈ (s.gate l).waiter, elapsed w.start s.clock < w.length) :
    expireDotWait l s = s := by
  unfold expireDotWait
  split
  · rfl
  · rename_i w r
    simp [due, h w r]

theorem only_expireDeadline (l : Lane) (s : State) : OnlyChanges [.gates, .lanes, .notices] s (expireDeadline l s) := by
  unfold expireDeadline
  split
  · exact .refl _ s
  · split
    · split
      · exact (only_setGate s l _).mono (by simp)
      · exact ((only_takeBackSite l _ s).mono (by simp)).trans ((only_raiseTo _ _ _).mono (by simp))
    · exact .refl _ s

theorem expireDeadline_of_not_due {l : Lane} {s : State}
    (h : ∀ a ∈ (s.gate l).assignment, a.deadlineRuns = true → Config.halfRange ≤ elapsed a.deadline s.clock) :
    expireDeadline l s = s := by
  unfold expireDeadline
  split
  · rfl
  · rename_i a r
    by_cases runs : a.deadlineRuns = true
    · simp [deadlineReached, h a r runs]
    · simp [runs]

theorem only_expireLease (t : Ticket) (s : State) : OnlyChanges endParts s (expireLease t s) := by
  unfold expireLease
  split
  · exact .refl _ s
  · split
    · exact only_endAndPass _ _ s
    · exact .refl _ s

theorem expireLease_of_not_due {t : Ticket} {s : State} (h : ∀ pr ∈ s.pairings, elapsed pr.leaseStart s.clock < pr.leaseLength) :
    expireLease t s = s := by
  unfold expireLease
  split
  · rfl
  · rename_i pr r
    simp [due, h pr (List.mem_of_find?_eq_some r)]

/-! ## The end of a reading -/

theorem only_takeExpiries (s : State) : OnlyChanges endParts s (takeExpiries s) := by
  have frames : ∀ u, OnlyChanges endParts u (allPorts.foldl (fun s p => expireFrame p s) u) :=
    .foldl (fun u p => (only_expireFrame p u).mono (by simp [endParts, passParts])) _
  have waits : ∀ u, OnlyChanges endParts u (allPorts.foldl (fun s p => expirePairWait p s) u) :=
    .foldl (fun u p => (only_expirePairWait p u).mono (by simp [endParts, passParts])) _
  have dots : ∀ l u, OnlyChanges endParts u (expireDotWait l u) := fun l u =>
    (only_expireDotWait l u).mono (by simp [endParts, passParts])
  have deadlines : ∀ l u, OnlyChanges endParts u (expireDeadline l u) := fun l u =>
    (only_expireDeadline l u).mono (by simp [endParts, passParts])
  have leases : ∀ (ts : List Ticket) u, OnlyChanges endParts u (ts.foldl (fun s t => expireLease t s) u) := fun ts =>
    .foldl (fun u t => only_expireLease t u) ts
  exact ((((frames s).trans (waits _)).trans ((dots .A _).trans (dots .B _))).trans
    ((deadlines .A _).trans (deadlines .B _))).trans (leases _ _)

/-- R45: with no timer due nothing expires. -/
theorem takeExpiries_of_none_due {s : State} (h : NoTimerDue s) : takeExpiries s = s := by
  obtain ⟨frames, waits, dots, deadlines, leases⟩ := h
  have both : ∀ l : Lane, l ∈ bothLanes := fun l => by cases l <;> decide
  simp only [takeExpiries, foldl_of_fixed (f := fun s p => expireFrame p s) (fun p => expireFrame_of_not_due (frames p)),
    foldl_of_fixed (f := fun s p => expirePairWait p s) (fun p => expirePairWait_of_not_due waits),
    expireDotWait_of_not_due (dots .A (both .A)), expireDotWait_of_not_due (dots .B (both .B)),
    expireDeadline_of_not_due (deadlines .A (both .A)), expireDeadline_of_not_due (deadlines .B (both .B)),
    foldl_of_fixed (f := fun s t => expireLease t s) (fun t => expireLease_of_not_due leases)]

/-- What the part may change before its clock leaves a reading. -/
def settleParts : List Part := .visit :: endParts

theorem only_settle (s : State) : OnlyChanges settleParts s (settle s) :=
  ((only_catchUp s).mono (by simp [visitParts, settleParts, endParts, passParts])).trans
    ((only_takeExpiries _).mono (fun _ m => List.mem_cons_of_mem _ m))

/-- With no decided response, no visit owed and no timer due, nothing is left to do at a reading. -/
theorem settle_of_nothing_due {s : State} (owed : s.visitOwed = false) (held : NoneInHand s) (h : NoTimerDue s) :
    settle s = s := by
  rw [settle, catchUp_of_nothing_owed owed held, takeExpiries_of_none_due h]

@[simp] theorem visitOwed_settle (s : State) : (settle s).visitOwed = false :=
  ((only_takeExpiries _).visitOwed_eq (by simp [endParts, passParts])).trans (visitOwed_catchUp s)

@[simp] theorem clock_settle (s : State) : (settle s).clock = s.clock :=
  (only_settle s).clock_eq (by simp [settleParts, endParts, passParts])

@[simp] theorem sweepPos_settle (s : State) : (settle s).sweepPos = s.sweepPos :=
  (only_settle s).sweepPos_eq (by simp [settleParts, endParts, passParts])

/-! ## The tick and the idle step -/

@[simp] theorem clock_tick (s : State) : (tick s).clock = s.clock + 1 := by simp [tick, advanceClock]

@[simp] theorem sweepPos_tick (s : State) : (tick s).sweepPos = s.sweepPos + 1 := by simp [tick, advanceClock]

@[simp] theorem visitOwed_tick (s : State) : (tick s).visitOwed = true := rfl

/-- A tick changes the clock, the sweep and what the end of a reading may change. -/
theorem only_tick (s : State) : OnlyChanges (.clock :: .sweep :: settleParts) s (tick s) := by
  refine OnlyChanges.trans ((only_settle s).mono (fun _ m => List.mem_cons_of_mem _ (List.mem_cons_of_mem _ m))) ?_
  simp [tick, advanceClock, OnlyChanges, settleParts, endParts, passParts, Part.list, Part.same]

/-- A step on an empty queue changes no more than the hand-overs and the visit owed may. -/
theorem only_idle (s : State) : OnlyChanges visitParts s (idle s) := by
  unfold idle
  split
  · exact .refl _ s
  · exact only_catchUp s

end Sys2Proof.Safety
end

