-- ==== Sys2Proof/Tests/Slice0.lean ====
section
/-! SUPPORT. Tests/Slice0.lean: the refusals of ill-formed terms, the manual's worked cases, and for every statement with
hypotheses the states that meet them. -/

namespace Sys2Proof.Tests

open Sys2Proof Sys2Proof.Machine Sys2Proof.Safety

-- One theorem at a time: a thread of its own for each costs more memory than the check has.
set_option Elab.async false

/-! ## A small line -/

/-- S1 and S2 are heads, S3 and S4 the dispensers of A and B, S5 the indexer, S6 the wafer station, S7 has no role. -/
def stations : Vector RoleEntry 8 :=
  #v[⟨.supervisor, 0⟩, ⟨.head, 1⟩, ⟨.head, 2⟩, ⟨.dispenser .A, 0⟩, ⟨.dispenser .B, 0⟩, ⟨.indexer, 0⟩, ⟨.wafer, 0⟩,
     ⟨.unassigned, 0⟩]

/-- Three sites, grade 1, open for 100 ticks with a margin of 20, dot window 2 to 5 µs. -/
def glue : Product :=
  { siteCount := 3, gradeSet := 2, openTime := 1, marginMs := 2, dotMin := 2, dotMax := 5, tolerance := 20,
    pickLeaseMs := 100, bondLeaseMs := 100 }

def wide : Reach := { w1 := ⟨true, 0, 255, 0, 255⟩, w2 := .blank, laneA := true, laneB := true }

def die (st : DieState) : DieRecord := { grade := 1, state := st, retry := 0 }

/-- A wafer of three die in a row. -/
def wafer (st : BankState) (d0 d1 d2 : DieState) (available refs : Nat) : MapBank :=
  { state := st, waferId := 9, cols := 3, rows := 1, colPitch := 100, rowPitch := 100, received := 3, check := 6,
    available := available, refs := refs, dies := [(0, die d0), (1, die d1), (2, die d2)] }

def strip (x0 x1 x2 : Site) (unsettled : Nat) : Strip :=
  { id := 77, product := 0, arrival := 0, slot := 0, sites := [x0, x1, x2], unsettled := unsettled }

def laneWith (strips : List Strip) (arrivals : BitVec 32) (wet limit : Nat) : LaneTable :=
  { strips := strips, arrivalCounter := arrivals, wetAhead := wet, wetLimit := limit, dotDeadlineMs := 2000 }

/-- A line in RUN with one strip in lane A, whose first site is wet, and a wafer on the table. -/
def line : State :=
  { State.reset with
    clock := 10, sweepPos := 10, line := .run, roles := stations
    products := #v[some glue, none, none, none, none, none, none, none]
    banks := ⟨wafer .active .available .available .suspect 2 0, .blank⟩
    lanes := ⟨laneWith [strip (.wetted 0) .empty .empty 3] 1 1 4, .blank⟩
    reach := #v[.blank, wide, wide, .blank, .blank, .blank, .blank, .blank] }

theorem line_inv : DeviceInv line :=
  .of_laws (by decide) (by decide) (by decide) (by decide) (by decide) (by decide) (by decide)

/-! ## Ill-formed terms -/

theorem test_body_of_513_octets_is_refused (body : List Octet) (h : body.length = 513) :
    exec (.clear 0 body) line = .refused .notAnEvent := by
  simp [exec, execClear, request, bodyFits, Config.maxBody, h]

theorem test_known_kind_is_no_unknown_kind : exec (.unknownKindFrame 0 6 []) line = .refused .notAnEvent := rfl

theorem test_unknown_kind_body_of_513_octets_is_refused (body : List Octet) (h : body.length = 513) :
    exec (.unknownKindFrame 0 66 body) line = .refused .notAnEvent := by
  simp [exec, execUnknownKindFrame, bodyFits, Config.maxBody, h]

theorem test_header_of_512_is_no_bad_header : exec (.formatAtHeader 0 6 512) line = .refused .notAnEvent := rfl

theorem test_wellFormed_at_the_bounds (body : List Octet) (h : body.length = 512) :
    (Instr.unknownKindFrame 0 66 body).wellFormed = true ∧ (Instr.formatAtHeader 0 6 513).wellFormed = true ∧
      (Instr.clear 0 body).wellFormed = true := by
  have unknown : kindOfCode 66 = none := by decide
  simp [Instr.wellFormed, bodyFits, Config.maxBody, h]
  exact unknown

/-! ## The manual's worked cases, one step each -/

/-- The state after a command. -/
def after (c : Instr) (s : State) : State :=
  match exec c s with
  | .next t => t
  | _ => s

/-- The state after a step. -/
def stepped (s : State) : State :=
  match step s with
  | .next t => t
  | _ => s

/-- The response that a port is shifting out, or about to. -/
def answerOf (p : Port) (s : State) : Option Response :=
  match s.link p with
  | .answering _ r _ _ => some r
  | _ => none

/-- The state after a frame of a kind has come in on an idle port. -/
def sent (p : Port) (k : Kind) (body : List Octet) (s : State) : State := after (requestOf k p body) (sending p s)

/-- Table 1-7: the load of wafer 6040, 3 × 2, so far. -/
def load6040 (received : Nat) (check : Half) (available : Nat) (dies : List (Nat × DieRecord)) : State :=
  { line with banks := ⟨{ state := .loading, waferId := 6040, cols := 3, rows := 2, colPitch := 1200, rowPitch := 900,
                          received := received, check := check, available := available, refs := 0, dies := dies }, .blank⟩ }

def graded (g : Grade) (st : DieState) : DieRecord := { grade := g, state := st, retry := 0 }

/-- Table 1-7, first row. -/
theorem test_mapOpen :
    let s := { line with banks := ⟨.blank, .blank⟩ }
    let t := sent 0 .mapOpen (RequestBody.mapOpen 6040 3 2 1200 900) s
    answerOf 0 t = some (okResp [0]) ∧ t.banks = (load6040 0 0 0 []).banks := by decide

/-- Table 1-7, second and fourth rows: checks 51 and 78, 2 and then 4 AVAILABLE. -/
theorem test_mapRows_accepted :
    let first := load6040 3 51 2 [(0, graded 2 .available), (1, graded 2 .available)]
    let t := sent 0 .mapRows [0, 0, 3, 2, 2, 15] (load6040 0 0 0 [])
    let u := sent 0 .mapRows [0, 3, 3, 0, 3, 2] first
    answerOf 0 t = some (okResp [0, 3, 0, 51]) ∧ t.banks = first.banks ∧ answerOf 0 u = some (okResp [0, 6, 0, 78]) ∧
      u.banks.b0.available = 4 ∧ (List.range 6).map (fun i => (dieAt u.banks.b0.dies i).state) =
        [.available, .available, .absent, .reject, .available, .available] := by decide

/-- Table 1-7, third row: start 2 where 3 rows are received is RANGE. -/
theorem test_mapRows_out_of_order :
    let first := load6040 3 51 2 [(0, graded 2 .available), (1, graded 2 .available)]
    let t := sent 0 .mapRows [0, 2, 3, 0, 3, 2] first
    answerOf 0 t = some (resp .range []) ∧ t.banks = first.banks := by decide

/-- Table 1-7 and the text below it: a close with 78 stages bank 0 with 4 die, one with 77 carries 6 and 78 and empties it. -/
theorem test_mapClose :
    let s := load6040 6 78 4
      [(0, graded 2 .available), (1, graded 2 .available), (3, graded 0 .reject), (4, graded 3 .available),
       (5, graded 2 .available)]
    let good := sent 0 .mapClose [0, 6, 0, 78] s
    let bad := sent 0 .mapClose [0, 6, 0, 77] s
    answerOf 0 good = some (okResp [0, 0, 4]) ∧ good.banks.b0.state = .staged ∧
      answerOf 0 bad = some (resp .checkFail [0, 6, 0, 78]) ∧ bad.banks.b0 = .blank := by decide

/-- Chapter 6, "issuing past the top of the range": 2 after 253, then 4 after 2. -/
theorem test_ticket_issue_past_the_top :
    let held := fun t => ({ ticket := t, port := 4, outcome := .bonded } : RingEntry)
    let flying : Pairing :=
      { ticket := 254, port := 4, phase := .claimed, bank := .b0, waferId := 9, col := 0, row := 0, grade := 1, lane := .A
        arrival := 0, stripId := 77, site := 0, grantTime := 0, leaseStart := 0, leaseLength := 1000 }
    let s := { line with lastTicket := 253, pairings := [flying], ring := [held 255, held 1, held 3] }
    nextTicket s = some 2 ∧
      nextTicket { s with lastTicket := 2, pairings := [flying, { flying with ticket := 2 }] } = some 4 := by decide

/-- Chapter 12, "length checks on list frames". -/
theorem test_list_frame_lengths :
    let rows := fun (count : Octet) (length : Nat) => lengthOk .mapRows ([0, 0, count] ++ List.replicate (length - 3) 1)
    let strip := fun (count : Octet) (length : Nat) =>
      lengthOk .stripIn ([0, 0, 0, 0, 1, 0, count] ++ List.replicate (length - 7) 1)
    rows 64 67 = true ∧ rows 0 3 = false ∧ rows 65 68 = false ∧ rows 48 53 = false ∧ strip 0 7 = true ∧ strip 3 10 = true ∧
      strip 3 9 = false := by decide

/-- Chapter 12: a header that declares 600 is answered FORMAT at the third octet; kind 6 is PAUSE. -/
theorem test_header_of_600 :
    answerOf 3 (after (.formatAtHeader 3 6 600) (sending 3 line)) = some (resp .format [6]) := by decide

/-- Table 11-7: kind 66 is answered FORMAT with its kind octet. -/
theorem test_kind_66 : answerOf 3 (after (.unknownKindFrame 3 66 []) (sending 3 line)) = some (resp .format [66]) := by decide

/-- Table 4-2 and the line below it: 1,830 is good in a window of 1,500–2,100, 2,260 and 65,535 are bad, the bounds good. -/
theorem test_dot_window :
    let pr := { glue with dotMin := 1500, dotMax := 2100 }
    pr.dotGood 1830 = true ∧ pr.dotGood 2260 = false ∧ pr.dotGood 65535 = false ∧ pr.dotGood 1500 = true ∧
      pr.dotGood 2100 = true ∧ pr.dotGood 1499 = false ∧ pr.dotGood 2101 = false := by decide

/-- The product 2 of section 2.7: T is 240,000 ticks and M 15,000. -/
def product2 : Product :=
  { siteCount := 8, gradeSet := 12, openTime := 2400, marginMs := 1500, dotMin := 1500, dotMax := 2100, tolerance := 25,
    pickLeaseMs := 3000, bondLeaseMs := 4000 }

/-- Table 3-3 and the text below it: ages across the clock's wrap, the last eligible reading and the expiry reading. -/
theorem test_age_across_the_wrap :
    let w : Reading := 4294960000
    product2.openTicks = 240000 ∧ product2.marginTicks = 15000 ∧ elapsed w 4294967295 = 7295 ∧ elapsed w 0 = 7296 ∧
      elapsed w 5704 = 13000 ∧ remainingOpen 240000 (elapsed w 5704) = 227000 ∧ elapsed w 20504 = 27800 ∧
      eligibleAge product2 (elapsed w 217704) = true ∧ eligibleAge product2 (elapsed w 217705) = false ∧
      elapsed w 232704 = 240000 ∧ elapsed w 240000 = 247296 := by decide

/-- Chapter 12, "a notice record". -/
theorem test_notice_record :
    noticeRecord (.pairingEnded 2 [(42, .expired), (47, .revoked)]) 0 0 = [4, 1, 0, 6, 2, 2, 42, 7, 47, 6] := by decide

/-- The text below it: a third end leaves ticket 47 and the new one, and the count reads 3 (R142). -/
theorem test_third_end_of_pairing :
    (Notice.pairingEnded 2 [(42, .expired), (47, .revoked)]).merge (.pairingEnded 1 [(50, .bonded)]) =
      .pairingEnded 3 [(47, .revoked), (50, .bonded)] := by decide

/-- Table 5-6: the starting corners of S2, S3, S4 and S6 on a wafer of 24 × 20. -/
theorem test_starting_corners :
    let w := fun en a b c d => ({ enabled := en, colLo := a, colHi := b, rowLo := c, rowHi := d } : Window)
    let r := fun w1 w2 => ({ w1 := w1, w2 := w2, laneA := true, laneB := true } : Reach)
    let b := { MapBank.blank with cols := 24, rows := 20 }
    startingCorner (r (w true 30 59 0 24) .blank) (some b) = ⟨23, 0⟩ ∧
      startingCorner (r .blank (w true 0 29 10 40)) (some b) = ⟨0, 10⟩ ∧
      startingCorner (r (w true 12 5 0 19) (w true 0 11 0 19)) (some b) = ⟨12, 0⟩ ∧
      startingCorner (r .blank .blank) (some b) = ⟨0, 0⟩ := by decide

/-- Table 5-5 and the text below it: (40, 13) is taken, without it (43, 10); grade 4 finds (52, 20), rows 0–9 nothing. Die
index is row × 60 + col. -/
theorem test_die_search :
    let at40_13 := (820, graded 3 .available)
    let bank := fun nearest =>
      { MapBank.blank with
        state := .active, cols := 60, rows := 50, colPitch := 1200, rowPitch := 900
        dies := [(628, graded 2 .available), (643, graded 2 .available), (758, graded 5 .available)] ++ nearest ++
          [(881, graded 3 .available), (1252, graded 4 .available), (1840, graded 3 .available)] }
    let reach := fun hi =>
      ({ w1 := ⟨true, 30, 59, 0, hi⟩, w2 := .blank, laneA := true, laneB := true } : Reach)
    (dieSearch (bank [at40_13]) (reach 24) ⟨40, 10⟩ 12).map Prod.fst = some 820 ∧
      (dieSearch (bank []) (reach 24) ⟨40, 10⟩ 12).map Prod.fst = some 643 ∧
      (dieSearch (bank [at40_13]) (reach 24) ⟨40, 10⟩ 16).map Prod.fst = some 1252 ∧
      dieSearch (bank [at40_13]) (reach 9) ⟨40, 10⟩ 28 = none := by decide

/-- Table 10-3: the dispenser's notice state with the given pending, in-service sources. -/
def nested (rejected orphan stopped : Option Notice) (service1 service3 : Bool) : NoticeState :=
  { pending := #v[rejected, none, orphan, stopped], mask := #v[false, false, false, false],
    inService := #v[service1, false, service3, false] }

/-- Table 10-3, the ATTN column of steps 1, 2, 3, 5, 6, 7 and 8. -/
theorem test_attn_nesting :
    let rejected := some (Notice.dotRejected 90040 6 2410)
    let orphan := some (Notice.pulseOrphan 1)
    let stopped := some (Notice.lineState .pause .paused)
    (nested none orphan none false false).callsStation = true ∧ (nested none none none false true).callsStation = false ∧
      (nested rejected none none false true).callsStation = true ∧ (nested none orphan none true true).callsStation = false ∧
      (nested none orphan none false true).callsStation = false ∧
      (nested none orphan stopped false true).callsStation = false ∧
      (nested none orphan stopped false false).callsStation = true := by decide

/-- Table 10-3, step 5: the take nests DOT_REJECTED over PULSE_ORPHAN; 2,410 is 9 × 256 + 106, and 90,040 is 1 × 65,536 +
95 × 256 + 184. -/
theorem test_noticeTake_nests :
    let s := { line with notices := line.notices.set 3 (nested (some (.dotRejected 90040 6 2410))
                        (some (.pulseOrphan 1)) none false true) }
    let t := sent 3 .noticeTake [] s
    answerOf 3 t = some (okResp [6, 1, 1, 7, 0, 1, 95, 184, 6, 9, 106]) ∧
      t.notice 3 = nested none (some (.pulseOrphan 1)) none true true := by decide

/-- Table 10-3, step 6: NOTICE_END ends DOT_REJECTED. -/
theorem test_noticeEnd_ends_the_highest :
    let s := { line with notices := line.notices.set 3 (nested none (some (.pulseOrphan 1)) none true true) }
    let t := sent 3 .noticeEnd [] s
    answerOf 3 t = some (okResp [6]) ∧ t.notice 3 = nested none (some (.pulseOrphan 1)) none false true := by decide

/-- Table 2-8: entries 5, 9 and 5 of 8 sites make site 5 SKIPPED once; entry 9 is ignored. -/
theorem test_bad_sites :
    newSites 8 [5, 9, 5] = [.empty, .empty, .empty, .empty, .empty, .skipped, .empty, .empty] := by decide

/-- Table 3-6: position 67 is lane A, slot 1, site 3; position 261 is lane B, slot 0, site 5. -/
theorem test_sweep_positions :
    sweepLane 67 = .A ∧ sweepSlot 67 = 1 ∧ sweepSite 67 = 3 ∧ sweepLane 261 = .B ∧ sweepSlot 261 = 0 ∧ sweepSite 261 = 5 := by
  decide

/-- Table 7-6: S4 at level 3 is placed ahead of S2 and S3 at level 1. -/
theorem test_wait_list_levels :
    let e := fun (p : Port) (level : Nat) =>
      ({ port := p, level := level, choice := .only .A, start := 0, length := 0, obstacle := none } : WaitEntry)
    insertEntry (e 4 3) [e 2 1, e 3 1] = [e 4 3, e 2 1, e 3 1] ∧ insertEntry (e 3 1) [e 4 3, e 2 1] = [e 4 3, e 2 1, e 3 1] := by
  decide

/-- The strip of section 2.7 in lane A, at a reading, with the wafer 8120 of section 5.8 on the table and ticket 61 of the head on
S1 in flight on site 2; the dispenser of A stands at S3, the indexer at S5. -/
def worked (clock : Reading) (ph : Phase) (d : DieState) (sites : List Site) (wet unsettled : Nat) : State :=
  { line with
    clock := clock
    products := #v[none, none, some product2, none, none, none, none, none]
    banks := ⟨.blank, { state := .active, waferId := 8120, cols := 60, rows := 50, colPitch := 1200, rowPitch := 900
                        received := 3000, check := 0, available := 0, refs := 1, dies := [(820, graded 3 d)] }⟩
    lanes := ⟨{ strips := [{ id := 90050, product := 2, arrival := 40, slot := 0, sites := sites, unsettled := unsettled }]
                arrivalCounter := 41, wetAhead := wet, wetLimit := 4, dotDeadlineMs := 2000 }, .blank⟩
    pairings := [{ ticket := 61, port := 1, phase := ph, bank := .b1, waferId := 8120, col := 40, row := 13, grade := 3
                   lane := .A, arrival := 40, stripId := 90050, site := 2, grantTime := 2000000, leaseStart := 2000000
                   leaseLength := 30000 }]
    lastTicket := 61
    trace := { TraceQueue.blank with reservations := 1 } }

def someSites : List Site := [.empty, .skipped, .paired 1790000 61, .badDot, .dispensing, .skipped, .wetted 1800000, .empty]

/-- Table 6-6, PICKED at 2,012,000: deadline 2,052,000 and remaining 18,000 (R161 octets), S1's last pick at (40, 13). -/
theorem test_picked_report :
    let t := sent 1 .picked [61] (worked 2012000 .claimed .claimed someSites 3 4)
    answerOf 1 t = some (okResp (be32 2052000 ++ be32 18000)) ∧ t.lastPick[(1 : Port)] = ⟨40, 13⟩ ∧
      (dieAt t.banks.b1.dies 820).state = .picked ∧ (t.pairing 61).map (fun pr => pr.leaseLength) = some 40000 := by decide

/-- Table 6-6: BONDED in CLAIMED is BUSY with phase CLAIMED; BONDED(61, 12, −31) at 2,019,500 is MISPLACED at age 229,500. -/
theorem test_bonded_report :
    let early := sent 1 .bonded [61, 0, 0, 0, 0] (worked 2004000 .claimed .claimed someSites 3 4)
    let t := sent 1 .bonded (RequestBody.bonded 61 12 (-31)) (worked 2019500 (.picked 2012000) .picked someSites 3 4)
    answerOf 1 early = some (resp .busy [1]) ∧ answerOf 1 t = some (okResp (61 :: be32 229500 ++ [6])) ∧ t.pairings = [] ∧
      t.ring = [⟨61, 1, .misplaced⟩] ∧ (dieAt t.banks.b1.dies 820).state = .placed ∧ t.lanes.a.wetAhead = 2 ∧
      t.trace.records.map (fun r => (r.kind, r.grantTime, r.pickTime, r.endTime)) =
        [(.bond false true 229500 12 (-31), 2000000, 2012000, 2019500)] := by decide

/-- The text below Table 6-6: the same report at 2,031,000 is LATE, and the record carries both flags. -/
theorem test_bonded_report_late :
    let t := sent 1 .bonded (RequestBody.bonded 61 12 (-31)) (worked 2031000 (.picked 2012000) .picked someSites 3 4)
    t.ring = [⟨61, 1, .late⟩] ∧ t.trace.records.map (fun r => r.kind) = [.bond true true 241000 12 (-31)] := by decide

/-- Tables 2-10 and 2-11, with a departing strip of 1 BAD_DOT, 2 SKIPPED, 2 unused sites and one site each PAIRED in CLAIMED,
DISPENSING and WETTED: 3 count as spoiled, the pairing is revoked, its die AVAILABLE, the assignment ends. -/
theorem test_stripOut_summary :
    let s := { worked 2004000 .claimed .claimed someSites 3 5 with
               gates := ⟨{ GateMonitor.blank false with assignment := some ⟨0, 40, 90050, 4, 2020000, true⟩ }, .blank false⟩ }
    let t := sent 5 .stripOut [0] s
    answerOf 5 t = some (okResp (be32 90050 ++ be32 40 ++ [0, 0, 0, 3, 1, 2, 0, 2])) ∧ t.lanes.a.wetAhead = 0 ∧
      t.ring = [⟨61, 1, .revoked⟩] ∧ (dieAt t.banks.b1.dies 820).state = .available ∧
      (t.notice 1).pending[(0 : RankIx)] = some (.pairingEnded 1 [(61, .revoked)]) ∧
      (t.notice 3).pending[(1 : RankIx)] = some (.dotEnded 90050 4 .stripGone) ∧ t.gates.a.assignment = none := by decide

/-- Table 4-5, 500,000: the DOT is granted the first EMPTY site, here 3, at deadline 520,000, with the window 1,500–2,100. -/
theorem test_dot_grant :
    let t := sent 3 .dot (RequestBody.dot 5000)
      (worked 500000 .claimed .claimed [.skipped, .wetted 0, .paired 1 61, .empty, .empty, .empty, .empty, .empty] 2 7)
    answerOf 3 t = some (okResp ([0] ++ be32 90050 ++ [3] ++ be16 1500 ++ be16 2100)) ∧ t.lanes.a.wetAhead = 3 ∧
      t.gates.a.assignment = some ⟨0, 40, 90050, 3, 520000, true⟩ := by decide

/-- Table 3-6, the visit at 1,240,132, to position 67: site 3 of slot 1, wet since 1,000,000, is SPOILED with SITE_SPOILED to S0. -/
theorem test_sweep_spoils :
    let s0 := worked 1240132 .claimed .claimed someSites 3 4
    let s := { s0 with
               sweepPos := 68
               visitOwed := true
               lanes := ⟨{ s0.lanes.a with
                           strips := [{ id := 90031, product := 2, arrival := 21, slot := 1, unsettled := 1,
                                        sites := [.skipped, .skipped, .skipped, .wetted 1000000] }]
                           wetAhead := 1 }, .blank⟩ }
    let t := stepped s
    t.visitOwed = false ∧ t.site .A 21 3 = some (.spoiled 1000000) ∧ t.lanes.a.wetAhead = 0 ∧
      (t.notice 0).pending[(1 : RankIx)] = some (.siteSpoiled .A 90031 3 1) := by decide

/-- Table 8-3: TRACE_READ takes 0 as 1 and 20 as 8. -/
theorem test_trace_read_counts : traceReadCount 0 = 1 ∧ traceReadCount 20 = 8 ∧ traceReadCount 3 = 3 := by decide

/-- R151, R154: the edge that completes a CLOCK_READ leaves its answer in the port's hand, one bit more has no effect, and the
part then hands the answer over. -/
theorem test_bits_in_excess :
    let s := line.setPort 7 ⟨true, .receiving [2, 0] (List.replicate 7 false) 10⟩
    let t := after (.sclkRisingEdge 7 false) s
    t.rdy 7 = false ∧ (after (.sclkRisingEdge 7 true) t).link 7 = t.link 7 ∧ answerOf 7 t = none ∧
      answerOf 7 (stepped t) = some (okResp (be32 10)) := by decide

/-! ## States that meet the statements' hypotheses -/

/-- `line` with the line state, lane A's strip and wet-ahead count, and the wafer on the table. -/
def lineWith (st : LineState) (x0 x1 x2 : Site) (wet : Nat) (bank : MapBank) : State :=
  { line with line := st, banks := ⟨bank, .blank⟩, lanes := ⟨laneWith [strip x0 x1 x2 3] 1 wet 4, .blank⟩ }

def fresh : MapBank := wafer .active .available .available .suspect 2 0

def setup : State := lineWith .setup (.wetted 0) .empty .empty 1 fresh
theorem setup_inv : DeviceInv setup :=
  .of_laws (by decide) (by decide) (by decide) (by decide) (by decide) (by decide) (by decide)

def paused : State := lineWith .paused (.wetted 0) .empty .empty 1 fresh
theorem paused_inv : DeviceInv paused :=
  .of_laws (by decide) (by decide) (by decide) (by decide) (by decide) (by decide) (by decide)

/-- No wafer and no map. -/
def bare : State := lineWith .run (.wetted 0) .empty .empty 1 .blank
theorem bare_inv : DeviceInv bare :=
  .of_laws (by decide) (by decide) (by decide) (by decide) (by decide) (by decide) (by decide)

/-- A map of three die of which two rows have come in, or all three. -/
def loading (received : Nat) (check : Half) (dies : List (Nat × DieRecord)) : State :=
  lineWith .run (.wetted 0) .empty .empty 1
    { state := .loading, waferId := 9, cols := 3, rows := 1, colPitch := 100, rowPitch := 100, received := received,
      check := check, available := dies.length, refs := 0, dies := dies }

def halfLoaded : State := loading 2 3 [(0, die .available), (1, die .available)]
theorem halfLoaded_inv : DeviceInv halfLoaded :=
  .of_laws (by decide) (by decide) (by decide) (by decide) (by decide) (by decide) (by decide)

def loaded : State := loading 3 6 [(0, die .available), (1, die .available), (2, die .available)]
theorem loaded_inv : DeviceInv loaded :=
  .of_laws (by decide) (by decide) (by decide) (by decide) (by decide) (by decide) (by decide)

def staged : State := lineWith .run (.wetted 0) .empty .empty 1 (wafer .staged .available .available .suspect 2 0)
theorem staged_inv : DeviceInv staged :=
  .of_laws (by decide) (by decide) (by decide) (by decide) (by decide) (by decide) (by decide)

/-- The pairing of ticket 7: the head on S1, die 0, site 0. -/
def held (ph : Phase) (leaseStart : Reading) : Pairing :=
  { ticket := 7, port := 1, phase := ph, bank := .b0, waferId := 9, col := 0, row := 0, grade := 1, lane := .A, arrival := 0,
    stripId := 77, site := 0, grantTime := 10, leaseStart := leaseStart, leaseLength := 1000 }

/-- `line` with ticket 7 in flight in a phase. -/
def flying (ph : Phase) (d : DieState) (clock : Reading) (pos : BitVec 9) : State :=
  { lineWith .run (.paired 0 7) .empty .empty 1 (wafer .active d .available .suspect 1 1) with
    clock := clock, sweepPos := pos, pairings := [held ph 10], lastTicket := 7
    trace := { TraceQueue.blank with reservations := 1 } }

def claimed : State := flying .claimed .claimed 10 10
theorem claimed_inv : DeviceInv claimed :=
  .of_laws (by decide) (by decide) (by decide) (by decide) (by decide) (by decide) (by decide)

def picked : State := flying (.picked 10) .picked 10 10
theorem picked_inv : DeviceInv picked :=
  .of_laws (by decide) (by decide) (by decide) (by decide) (by decide) (by decide) (by decide)

/-- The pick lease of ticket 7 falls due at reading 1010. -/
def claimedDue : State := flying .claimed .claimed 1010 498
theorem claimedDue_inv : DeviceInv claimedDue :=
  .of_laws (by decide) (by decide) (by decide) (by decide) (by decide) (by decide) (by decide)

def pickedDue : State := flying (.picked 10) .picked 1010 498
theorem pickedDue_inv : DeviceInv pickedDue :=
  .of_laws (by decide) (by decide) (by decide) (by decide) (by decide) (by decide) (by decide)

/-- The ticket 7 ended on S1 and stands in the ring. -/
def ended : State := { line with ring := [⟨7, 1, .bonded⟩], lastTicket := 7 }
theorem ended_inv : DeviceInv ended :=
  .of_laws (by decide) (by decide) (by decide) (by decide) (by decide) (by decide) (by decide)

/-- Both pairings of the head on S1. -/
def twoPairs : State :=
  { lineWith .run (.paired 0 7) (.paired 5 8) .empty 2 (wafer .active .claimed .claimed .suspect 0 2) with
    pairings := [held .claimed 10, { held .claimed 10 with ticket := 8, col := 1, site := 1 }], lastTicket := 8
    trace := { TraceQueue.blank with reservations := 2 } }
theorem twoPairs_inv : DeviceInv twoPairs :=
  .of_laws (by decide) (by decide) (by decide) (by decide) (by decide) (by decide) (by decide)

/-- DISPENSER_A works site 1, at a reading and with a measurement. -/
def dotting (clock : Reading) (pos : BitVec 9) (m : Measurement) (active : Bool) : State :=
  { lineWith .run (.wetted 0) .dispensing .empty 2 fresh with
    clock := clock, sweepPos := pos
    gates := ⟨{ assignment := some ⟨0, 0, 77, 1, 20010, true⟩, measurement := m, ready := true, waiter := none
                orphans := 0, gateActive := active }, .blank false⟩ }

def dispensing : State := dotting 10 10 .idle false
theorem dispensing_inv : DeviceInv dispensing :=
  .of_laws (by decide) (by decide) (by decide) (by decide) (by decide) (by decide) (by decide)

/-- A bound pulse of width 1 is in progress. -/
def pulsing : State := dotting 10 10 (.inProgress 1 true) true
theorem pulsing_inv : DeviceInv pulsing :=
  .of_laws (by decide) (by decide) (by decide) (by decide) (by decide) (by decide) (by decide)

/-- The deadline of the assignment, 20,010, has come; 20,010 is 39 × 512 + 42. -/
def dotDue : State := dotting 20010 42 .idle false
theorem dotDue_inv : DeviceInv dotDue :=
  .of_laws (by decide) (by decide) (by decide) (by decide) (by decide) (by decide) (by decide)

def dotDuePulsing : State := dotting 20010 42 (.inProgress 1 true) true
theorem dotDuePulsing_inv : DeviceInv dotDuePulsing :=
  .of_laws (by decide) (by decide) (by decide) (by decide) (by decide) (by decide) (by decide)

/-- A gate is active with no assignment; the orphan count stands just below its ceiling. -/
def orphaning (m : Measurement) : State :=
  { line with gates := ⟨{ GateMonitor.blank true with measurement := m, orphans := 254 }, .blank false⟩ }

theorem orphaning_inv : DeviceInv (orphaning (.inProgress 1 false)) ∧ DeviceInv (orphaning .started) ∧
    DeviceInv (orphaning .idle) :=
  ⟨.of_laws (by decide) (by decide) (by decide) (by decide) (by decide) (by decide) (by decide),
   .of_laws (by decide) (by decide) (by decide) (by decide) (by decide) (by decide) (by decide),
   .of_laws (by decide) (by decide) (by decide) (by decide) (by decide) (by decide) (by decide)⟩

/-- The DOT of the port of DISPENSER_A is held until reading 110; the lane is at its wet-ahead limit, or has no strip. -/
def dotWaits (strips : List Strip) (wet : Nat) : State :=
  { line with
    lanes := ⟨laneWith strips 1 wet 1, .blank⟩, ports := line.ports.set 3 ⟨true, .holding .dot⟩
    gates := ⟨{ GateMonitor.blank false with waiter := some ⟨3, 10, 100⟩ }, .blank false⟩ }

def fullWet : State := dotWaits [strip (.wetted 0) .empty .empty 3] 1
theorem fullWet_inv : DeviceInv fullWet :=
  .of_laws (by decide) (by decide) (by decide) (by decide) (by decide) (by decide) (by decide)

def noStrip : State := dotWaits [] 0
theorem noStrip_inv : DeviceInv noStrip :=
  .of_laws (by decide) (by decide) (by decide) (by decide) (by decide) (by decide) (by decide)

/-- A held DOT beside a lane that could serve it, as a state between two parts of one event. -/
def roomy : State := { fullWet with lanes := ⟨laneWith [strip (.wetted 0) .empty .empty 3] 1 1 4, .blank⟩ }
theorem roomy_inv : DeviceInv roomy :=
  .of_laws (by decide) (by decide) (by decide) (by decide) (by decide) (by decide) (by decide)

/-- The PAIR of the head on S2 waits for lane B until reading 110. -/
def pairWaits (o : Option Obstacle) : State :=
  { line with ports := line.ports.set 2 ⟨true, .holding .pair⟩, waitList := [⟨2, 2, .only .B, 10, 100, o⟩] }

theorem pairWaits_inv : DeviceInv (pairWaits (some (.selection .noSite))) :=
  .of_laws (by decide) (by decide) (by decide) (by decide) (by decide) (by decide) (by decide)

/-- The PAIR of the head on S2 stands on the list for lane A, as before its first pass. -/
def pairPlaced : State :=
  { line with ports := line.ports.set 2 ⟨true, .holding .pair⟩, waitList := [⟨2, 2, .either, 10, 100, none⟩] }
theorem pairPlaced_inv : DeviceInv pairPlaced :=
  .of_laws (by decide) (by decide) (by decide) (by decide) (by decide) (by decide) (by decide)

/-- A record of the trace. -/
def lossRecord (n : Nat) : TraceRecord :=
  { seq := BitVec.ofNat 32 n, kind := .loss .discarded, port := 1, ticket := 7, lane := .A, stripId := 77, site := 0, waferId := 9
    col := 0, row := 0, grade := 1, grantTime := 0, pickTime := 1, endTime := 2 }

/-- Three records in the trace, below the threshold. -/
def traced : State := { line with trace := { TraceQueue.blank with records := [lossRecord 0, lossRecord 1, lossRecord 2], nextSeq := 3 } }
theorem traced_inv : DeviceInv traced :=
  .of_laws (by decide) (by decide) (by decide) (by decide) (by decide) (by decide) (by decide)

/-- Lane A holds four strips. -/
def fullLane : State :=
  let st := fun (n : Nat) (slot : Fin 4) =>
    { strip .empty .empty .empty 3 with arrival := BitVec.ofNat 32 n, slot := slot }
  { line with lanes := ⟨laneWith [st 0 0, st 1 1, st 2 2, st 3 3] 4 0 4, .blank⟩ }
theorem fullLane_inv : DeviceInv fullLane :=
  .of_laws (by decide) (by decide) (by decide) (by decide) (by decide) (by decide) (by decide)

/-- The sweep visits site 0 at reading 513; the open time is 100 ticks. -/
def sweeping (wet : Reading) : State :=
  { lineWith .run (.wetted wet) .empty .empty 1 fresh with clock := 513, sweepPos := 1, visitOwed := true }

theorem sweeping_inv : DeviceInv (sweeping 413) ∧ DeviceInv (sweeping 414) :=
  ⟨.of_laws (by decide) (by decide) (by decide) (by decide) (by decide) (by decide) (by decide),
   .of_laws (by decide) (by decide) (by decide) (by decide) (by decide) (by decide) (by decide)⟩

/-- A state with one strip in lane A and the DOT of DISPENSER_A held since its reading, at a wet-ahead limit of 1. -/
def withDot (b : State) (x0 x1 x2 : Site) (unsettled : Nat) : State :=
  { b with
    lanes := ⟨laneWith [strip x0 x1 x2 unsettled] 1 1 1, .blank⟩, ports := b.ports.set 3 ⟨true, .holding .dot⟩
    gates := ⟨{ GateMonitor.blank false with waiter := some ⟨3, b.clock, 100⟩ }, .blank false⟩ }

/-- A settlement that gives the held DOT site 1, and one that settles the strip. -/
theorem withDot_inv :
    DeviceInv (withDot picked (.paired 0 7) .empty .empty 3) ∧ DeviceInv (withDot picked (.paired 0 7) .skipped .skipped 1) ∧
    DeviceInv (withDot pickedDue (.paired 0 7) .empty .empty 3) ∧
    DeviceInv (withDot pickedDue (.paired 0 7) .skipped .skipped 1) ∧
    DeviceInv (withDot (sweeping 413) (.wetted 413) .empty .empty 3) ∧
    DeviceInv (withDot (sweeping 413) (.wetted 413) .skipped .skipped 1) :=
  ⟨.of_laws (by decide) (by decide) (by decide) (by decide) (by decide) (by decide) (by decide),
   .of_laws (by decide) (by decide) (by decide) (by decide) (by decide) (by decide) (by decide),
   .of_laws (by decide) (by decide) (by decide) (by decide) (by decide) (by decide) (by decide),
   .of_laws (by decide) (by decide) (by decide) (by decide) (by decide) (by decide) (by decide),
   .of_laws (by decide) (by decide) (by decide) (by decide) (by decide) (by decide) (by decide),
   .of_laws (by decide) (by decide) (by decide) (by decide) (by decide) (by decide) (by decide)⟩

/-- A grant that has not been read out, with the mark of a pairing or an assignment. -/
def granted (p : Port) (k : Kind) (m : GrantMark) (s : State) : State :=
  s.setPort p ⟨true, .answering (some k) (okResp [7]) 31 (some m)⟩

def pairMark : GrantMark := .pair 7 1 10
def dotMark : GrantMark := .dot .A 0 0 77 1 20010

theorem granted_inv : DeviceInv (granted 1 .pair pairMark claimed) ∧ DeviceInv (granted 1 .pair pairMark ended) ∧
    DeviceInv (granted 3 .dot dotMark dispensing) ∧ DeviceInv (granted 3 .dot dotMark line) :=
  ⟨.of_laws (by decide) (by decide) (by decide) (by decide) (by decide) (by decide) (by decide),
   .of_laws (by decide) (by decide) (by decide) (by decide) (by decide) (by decide) (by decide),
   .of_laws (by decide) (by decide) (by decide) (by decide) (by decide) (by decide) (by decide),
   .of_laws (by decide) (by decide) (by decide) (by decide) (by decide) (by decide) (by decide)⟩

/-- A decided response that is still in a port's hand, with or without a mark. -/
def handed (p : Port) (k : Kind) (m : Option GrantMark) (s : State) : State :=
  s.setPort p ⟨true, .decided (some k) (okResp [7]) m⟩

theorem handed_inv : DeviceInv (handed 1 .pair (some pairMark) claimed) ∧ DeviceInv (handed 1 .pair (some pairMark) ended) ∧
    DeviceInv (handed 3 .dot (some dotMark) dispensing) ∧ DeviceInv (handed 3 .dot (some dotMark) line) :=
  ⟨.of_laws (by decide) (by decide) (by decide) (by decide) (by decide) (by decide) (by decide),
   .of_laws (by decide) (by decide) (by decide) (by decide) (by decide) (by decide) (by decide),
   .of_laws (by decide) (by decide) (by decide) (by decide) (by decide) (by decide) (by decide),
   .of_laws (by decide) (by decide) (by decide) (by decide) (by decide) (by decide) (by decide)⟩

/-- Behind the oldest strip of lane A stands a second one, and the DOT of DISPENSER_A is held at a wet-ahead limit of 1. -/
def behind (x y : Site) (unsettled : Nat) : State :=
  { fullWet with
    lanes := ⟨laneWith [strip x .empty .empty unsettled,
      { strip y .empty .empty 3 with arrival := 1, slot := 1 }] 2 1 1, .blank⟩ }

/-- The wet site of the lane stands in the oldest strip, or in the second. -/
theorem behind_inv : DeviceInv (behind (.wetted 0) .empty 3) ∧ DeviceInv (behind .badDot (.wetted 0) 2) :=
  ⟨.of_laws (by decide) (by decide) (by decide) (by decide) (by decide) (by decide) (by decide),
   .of_laws (by decide) (by decide) (by decide) (by decide) (by decide) (by decide) (by decide)⟩

/-- S0 works on a TRACE_LEVEL notice. -/
def tended : State :=
  { line with notices := line.notices.set 0 { NoticeState.blank with inService := #v[false, false, true, false] } }
theorem tended_inv : DeviceInv tended :=
  .of_laws (by decide) (by decide) (by decide) (by decide) (by decide) (by decide) (by decide)

/-- The trace of a state without pairings holds n records. -/
def traceOn (b : State) (n : Nat) : State :=
  { b with
    trace := { TraceQueue.blank with records := (List.range n).map lossRecord, nextSeq := BitVec.ofNat 32 n } }

theorem traceOn_inv {b : State} (i : DeviceInv b) (n : Nat) (h : n ≤ 512) (none : b.pairings = [])
    (taken : (b.notice 0).inService[(2 : RankIx)] = true) : DeviceInv (traceOn b n) := by
  have order : TraceOrderLaw (traceOn b n) := by
    intro e he
    obtain ⟨k, hk, rfl⟩ := List.mem_iff_getElem.1 he
    simp [traceOn, lossRecord] at hk ⊢
    apply BitVec.eq_of_toNat_eq
    simp
    omega
  have room : TraceRoomLaw (traceOn b n) := by
    refine ⟨by simp [traceOn, none, TraceQueue.blank], ?_⟩
    simpa [traceOn, TraceQueue.blank, Config.traceCapacity] using h
  have level : TraceLevelLaw (traceOn b n) := by
    refine ⟨i.roles.1, ?_⟩
    have old := i.notices.traceLevel.2
    rw [if_neg (by simp [taken])] at old
    rw [if_neg (by intro x; rw [show ((traceOn b n).notice 0).inService[(2 : RankIx)] = true from taken] at x; simp at x)]
    exact old
  exact ⟨i.sweep, i.singleLane, i.roles,
    ⟨i.ranges.products, i.ranges.laneA, i.ranges.laneB, i.ranges.levels,
      (by decide : 1 ≤ 256 ∧ 256 ≤ 512), i.ranges.orphansA,
      i.ranges.orphansB, i.ranges.ring⟩,
    ⟨i.link.links, i.link.onlyInRun, i.link.waitList, i.link.dotWaiters⟩, ⟨room, order⟩,
    ⟨i.map.states, i.map.die0, i.map.die1, i.map.references⟩, i.sitesA, i.sitesB, i.queueA, i.queueB, i.wetA, i.wetB,
    i.bondAge, i.bondGrade, ⟨i.notices.ranks, level⟩, i.assignments, i.bound, i.dispensing, i.tickets, i.heads,
    i.pairedSites, i.pairedDie, i.pairingGrades, ⟨i.time.timers, i.time.pairings, i.time.ages⟩⟩

def traceOf (n : Nat) : State := traceOn tended n

theorem traceOf_inv (n : Nat) (h : n ≤ 512) : DeviceInv (traceOf n) := traceOn_inv tended_inv n h rfl rfl

/-! ## Witnesses: concrete states and operands that meet a statement's hypotheses, clause by clause -/

/-- A frame that passes the checks comes in on an idle port of a state that keeps the laws. -/
theorem meets {s : State} {p : Port} {k : Kind} {body : List Octet} {P : Prop} (h : DeviceInv s) (clause : P)
    (hr : s.resetAsserted = false := by decide) (hi : s.link p = .idle := by decide)
    (hl : lengthOk k body = true := by decide) (hk : kindPermits k (s.role p) = true := by decide) :
    DeviceInv (sending p s) ∧ Taken k p body (sending p s) ∧ P :=
  ⟨h.sending hr hi, taken_sending hr hl hk, clause⟩

theorem witness_StepTakesTheFront :
    { line with pending := [.clockTick, .resetAssert] }.pending = [.clockTick, .resetAssert] ∧ line.pending = [] ∧
      line.visitOwed = false ∧ NoneInHand line :=
  ⟨rfl, rfl, rfl, by decide⟩

theorem witness_EveryEventCompletes :
    (Instr.clockTick).wellFormed = true ∧ (Instr.formatAtHeader 0 6 512).wellFormed = false := by decide

theorem witness_ResetReleaseAndHold :
    (holdReset line).resetAsserted = true ∧ (Instr.clockTick).wellFormed = true ∧ Instr.clockTick ≠ .resetAssert ∧
      ∀ dual : Bool, Instr.clockTick ≠ .resetRelease dual := by decide

/-- `line` with a partial frame at S3, of which the idle timer runs from reading 10. -/
def partly (octets : List Octet) (bits : List Bool) (clock : Reading) : State :=
  { line with clock := clock, ports := line.ports.set 3 ⟨true, .receiving octets bits 10⟩ }

theorem witness_FrameOpensAndTimesOut :
    line.resetAsserted = false ∧ line.ports[(3 : Port)] = { selLow := false, link := .idle } ∧
      (partly [] [] 210).link 3 = .receiving [] [] 10 ∧ 200 ≤ elapsed 10 210 ∧ elapsed 10 209 < 200 := by decide

theorem witness_FrameOpensAndTimesOut_not_receiving :
    ∀ octets bits start, line.link 3 ≠ .receiving octets bits start := by
  intro octets bits start
  show Link.idle ≠ _
  simp

theorem witness_ClockEdges :
    line.resetAsserted = false ∧ line.link 3 = .idle ∧ pairPlaced.link 2 = .holding .pair ∧
      (partly [64] (List.replicate 6 false) 10).link 3 = .receiving [64] (List.replicate 6 false) 10 ∧
      (granted 1 .pair pairMark claimed).link 1 = .answering (some .pair) (okResp [7]) 31 (some pairMark) ∧
      inHandAt 1 (handed 1 .pair (some pairMark) claimed) = true := by decide

/-- The octet in hand is the second one, a length octet that makes 512, the last octet but one of a frame of kind 64. -/
theorem witness_ClockEdges_octet :
    octetBits 0 = List.replicate 7 false ++ [false] ∧ ([64] : List Octet).length < 2 ∧
      (u16 ([64, 2] ++ [0]) 1).toNat ≤ 512 ∧ ([64, 2] : List Octet).length < 2 + (u16 ([64, 2] ++ [0]) 1).toNat ∧
      (u16 ([64, 0, 2] ++ [0]) 1).toNat ≤ 512 ∧ ([64, 0, 2] : List Octet).length < 2 + (u16 ([64, 0, 2] ++ [0]) 1).toNat := by
  decide

theorem witness_SerialReceptionIsTheFramesRow :
    (sending 3 line).resetAsserted = false ∧ (sending 3 line).link 3 = .receiving [] [] 10 ∧
      ([0, 0] : List Octet).length ≤ 512 ∧ 512 < (513 : Half).toNat := by decide

/-- The queue is empty beside a response in hand, with no visit owed. -/
theorem witness_SerialReceptionIsTheFramesRow_hand_over :
    (handed 1 .pair (some pairMark) claimed).resetAsserted = false ∧ (handed 1 .pair (some pairMark) claimed).pending = [] ∧
      inHandAt 1 (handed 1 .pair (some pairMark) claimed) = true ∧ (handed 1 .pair (some pairMark) claimed).visitOwed = false := by
  decide

theorem witness_MalformedAndForbiddenFrames :
    (sending 3 line).resetAsserted = false ∧ ([0, 0] : List Octet).length ≤ 512 ∧ kindOfCode 66 = none ∧
      (sending 3 line).receives 3 (frameOctets 66 [0, 0]) = true ∧ 512 < (513 : Half).toNat ∧
      (sending 3 line).receives 3 (6 :: be16 513) = true ∧ line.receives 3 (frameOctets Kind.dot.code [0, 0]) = false ∧
      (sending 3 line).receives 3 (frameOctets Kind.clear.code [0, 0]) = true ∧ lengthOk .clear [0, 0] = false ∧
      (sending 3 line).receives 3 (frameOctets Kind.traceLevel.code [0, 0]) = true ∧ lengthOk .traceLevel [0, 0] = true ∧
      kindPermits .traceLevel ((sending 3 line).role 3) = false := by decide

/-- A rise of SEL at a port that holds its PAIR, one that holds its DOT, and one whose answer has been read out: 32 bits. -/
theorem witness_SelRiseEndsTheTransaction :
    LinkInv pairPlaced ∧ LinkInv fullWet ∧ pairPlaced.resetAsserted = false ∧ pairPlaced.ports[(2 : Port)].selLow = true ∧
      fullWet.ports[(3 : Port)].selLow = true ∧ 8 * (3 + (okResp [7]).body.length) ≤ 32 :=
  ⟨pairPlaced_inv.link, fullWet_inv.link, by decide⟩

/-- A rise of SEL while a response without a mark is in hand. -/
theorem witness_SelRiseEndsTheTransaction_in_hand :
    LinkInv (handed 7 .ident none line) ∧ (handed 7 .ident none line).resetAsserted = false ∧
      (handed 7 .ident none line).ports[(7 : Port)] = ⟨true, .decided (some .ident) (okResp [7]) none⟩ :=
  ⟨⟨by decide, by decide, by decide, by decide⟩, by decide⟩

/-- Thirty-one of the 32 bits of a grant have been read, and ticket 7 is in CLAIMED, or has ended. -/
theorem witness_PairGrantWithdrawn :
    DeviceInv (granted 1 .pair pairMark claimed) ∧ DeviceInv (granted 1 .pair pairMark ended) ∧
      (granted 1 .pair pairMark claimed).resetAsserted = false ∧
      (granted 1 .pair pairMark claimed).link 1 = .answering (some .pair) (okResp [7]) 31 (some (.pair 7 1 10)) ∧
      31 < 8 * (3 + (okResp [7]).body.length) ∧ held .claimed 10 ∈ (granted 1 .pair pairMark claimed).pairings ∧
      (held .claimed 10).ticket = 7 ∧ (held .claimed 10).port = 1 ∧ (held .claimed 10).grantTime = 10 ∧
      (held .claimed 10).phase = .claimed ∧ (granted 1 .pair pairMark ended).pairings = [] :=
  ⟨granted_inv.1, granted_inv.2.1, by decide⟩

theorem witness_PairGrantWithdrawn_in_hand :
    DeviceInv (handed 1 .pair (some pairMark) claimed) ∧ DeviceInv (handed 1 .pair (some pairMark) ended) ∧
      (handed 1 .pair (some pairMark) claimed).resetAsserted = false ∧
      (handed 1 .pair (some pairMark) claimed).link 1 = .decided (some .pair) (okResp [7]) (some (.pair 7 1 10)) ∧
      held .claimed 10 ∈ (handed 1 .pair (some pairMark) claimed).pairings ∧
      (handed 1 .pair (some pairMark) ended).pairings = [] :=
  ⟨handed_inv.1, handed_inv.2.1, by decide⟩

theorem witness_DotGrantWithdrawn :
    DeviceInv (granted 3 .dot dotMark dispensing) ∧ DeviceInv (granted 3 .dot dotMark line) ∧
      (granted 3 .dot dotMark dispensing).resetAsserted = false ∧
      (granted 3 .dot dotMark dispensing).link 3 =
        .answering (some .dot) (okResp [7]) 31 (some (.dot .A 0 0 77 1 20010)) ∧
      31 < 8 * (3 + (okResp [7]).body.length) ∧
      (∃ a ∈ ((granted 3 .dot dotMark dispensing).gate .A).assignment,
        a.slot = 0 ∧ a.arrival = 0 ∧ a.stripId = 77 ∧ a.site = 1 ∧ a.deadline = 20010) ∧
      ((granted 3 .dot dotMark line).gate .A).assignment = none :=
  ⟨granted_inv.2.2.1, granted_inv.2.2.2, by decide⟩

theorem witness_DotGrantWithdrawn_in_hand :
    DeviceInv (handed 3 .dot (some dotMark) dispensing) ∧ DeviceInv (handed 3 .dot (some dotMark) line) ∧
      (handed 3 .dot (some dotMark) dispensing).resetAsserted = false ∧
      (handed 3 .dot (some dotMark) dispensing).link 3 =
        .decided (some .dot) (okResp [7]) (some (.dot .A 0 0 77 1 20010)) ∧
      ((handed 3 .dot (some dotMark) dispensing).gate .A).assignment = some ⟨0, 0, 77, 1, 20010, true⟩ ∧
      ((handed 3 .dot (some dotMark) line).gate .A).assignment = none :=
  ⟨handed_inv.2.2.1, handed_inv.2.2.2, by decide⟩

theorem witness_ReadingRequests :
    Taken .ident 7 [] (sending 7 line) ∧ Taken .clockRead 7 [] (sending 7 line) ∧ Taken .lineStatus 0 [] (sending 0 line) :=
  ⟨taken_sending rfl (by decide) (by decide), taken_sending rfl (by decide) (by decide),
    taken_sending rfl (by decide) (by decide)⟩

/-- S3 has PULSE_ORPHAN pending at its rank 3, or nothing. -/
def orphanTold (taken : Bool) : State :=
  { line with
    notices := line.notices.set 3 (nested none (if taken then none else some (.pulseOrphan 1)) none false taken)
    gates := ⟨{ GateMonitor.blank false with orphans := 1 }, .blank false⟩ }

theorem witness_NoticeTaken :
    Taken .noticeTake 3 [] (sending 3 line) ∧ (∀ k : RankIx, ((sending 3 line).notice 3).offers k = false) ∧
      Taken .noticeTake 3 [] (sending 3 (orphanTold false)) ∧
      (∃ x ∈ ((sending 3 (orphanTold false)).notice 3).pending[(2 : RankIx)], x.source = .pulseOrphan) ∧
      ((sending 3 (orphanTold false)).notice 3).mask[(2 : RankIx)] = false ∧
      (∀ j : RankIx, j < 2 → ((sending 3 (orphanTold false)).notice 3).offers j = false) ∧
      (sending 3 (orphanTold false)).role 3 = .dispenser .A :=
  ⟨taken_sending rfl (by decide) (by decide), by decide, taken_sending rfl (by decide) (by decide), by decide⟩

/-- S3 has nothing in service, or PULSE_ORPHAN; S0 has TRACE_LEVEL. -/
theorem witness_NoticeEndedAndMasked :
    RoleLaw (sending 3 line) ∧ Taken .noticeEnd 3 [] (sending 3 line) ∧ Taken .noticeMask 3 [15] (sending 3 line) ∧
      (∀ k : RankIx, ((sending 3 line).notice 3).inService[k] = false) ∧
      RoleLaw (sending 3 (orphanTold true)) ∧ Taken .noticeEnd 3 [] (sending 3 (orphanTold true)) ∧
      ((sending 3 (orphanTold true)).notice 3).inService[(2 : RankIx)] = true ∧
      (∀ j : RankIx, j < 2 → ((sending 3 (orphanTold true)).notice 3).inService[j] = false) ∧
      ((sending 3 (orphanTold true)).role 3).sourceAt 2 = some .pulseOrphan ∧
      RoleLaw (sending 0 tended) ∧ Taken .noticeEnd 0 [] (sending 0 tended) ∧
      ((sending 0 tended).notice 0).inService[(2 : RankIx)] = true ∧
      (∀ j : RankIx, j < 2 → ((sending 0 tended).notice 0).inService[j] = false) ∧
      ((sending 0 tended).role 0).sourceAt 2 = some .traceLevel :=
  ⟨by decide, taken_sending rfl (by decide) (by decide), taken_sending rfl (by decide) (by decide), by decide,
    by decide, taken_sending rfl (by decide) (by decide), by decide, by decide, by decide, by decide,
    taken_sending rfl (by decide) (by decide), by decide, by decide, by decide⟩

/-! ### Line Control -/

theorem witness_PauseStopsTheLine_outside_run :
    DeviceInv (sending 3 setup) ∧ Taken .pause 3 [] (sending 3 setup) ∧ (sending 3 setup).line ≠ .run :=
  meets setup_inv (by decide)

/-- With a PAIR waiting at S2. -/
theorem witness_PauseStopsTheLine_in_run :
    DeviceInv (sending 3 pairPlaced) ∧ Taken .pause 3 [] (sending 3 pairPlaced) ∧ (sending 3 pairPlaced).line = .run ∧
      waitPorts (sending 3 pairPlaced) = [2] :=
  meets pairPlaced_inv (by decide)

theorem witness_LineStateRequests_start_refused :
    DeviceInv (sending 0 line) ∧ Taken .start 0 [] (sending 0 line) ∧ (sending 0 line).line ≠ .setup :=
  meets line_inv (by decide)

/-- Every required role is held; without the indexer its role is missing. -/
theorem witness_LineStateRequests_start :
    DeviceInv (sending 0 setup) ∧ Taken .start 0 [] (sending 0 setup) ∧ (sending 0 setup).line = .setup ∧
      (sending 0 setup).dualLane = true ∧
      ([Role.head, .indexer, .wafer, .dispenser .A] ++ [Role.dispenser .B]).filter
        (fun r => decide (∀ q : Port, (sending 0 setup).role q ≠ r)) = [] ∧
      ([Role.head, .indexer, .wafer, .dispenser .A] ++ [Role.dispenser .B]).filter
        (fun r => decide (∀ q : Port, (sending 0 { setup with roles := stations.set 5 ⟨.unassigned, 0⟩ }).role q ≠ r)) =
        [.indexer] :=
  meets setup_inv (by decide)

theorem witness_LineStateRequests_missing_role :
    Taken .start 0 [] (sending 0 { setup with roles := stations.set 5 ⟨.unassigned, 0⟩ }) :=
  taken_sending rfl (by decide) (by decide)

theorem witness_LineStateRequests_resume :
    DeviceInv (sending 0 paused) ∧ Taken .resume 0 [] (sending 0 paused) ∧ (sending 0 paused).line = .paused :=
  meets paused_inv (by decide)

theorem witness_LineStateRequests_refused_in_run :
    Taken .resume 0 [] (sending 0 line) ∧ Taken .lineEnd 0 [] (sending 0 line) ∧ (sending 0 line).line ≠ .paused :=
  ⟨taken_sending rfl (by decide) (by decide), taken_sending rfl (by decide) (by decide), by decide⟩

theorem witness_LineStateRequests_end :
    DeviceInv (sending 0 paused) ∧ Taken .lineEnd 0 [] (sending 0 paused) ∧ (sending 0 paused).pairings = [] ∧
      ∀ l ∈ bothLanes, ¬ ∃ st ∈ ((sending 0 paused).lane l).strips, Site.dispensing ∈ st.sites :=
  meets paused_inv (by decide)

/-- A PAUSED line with a pairing in flight. -/
def pausedClaimed : State := { claimed with line := .paused }

theorem witness_LineStateRequests_end_busy :
    LinkInv (sending 0 pausedClaimed) ∧ Taken .lineEnd 0 [] (sending 0 pausedClaimed) ∧
      (sending 0 pausedClaimed).line = .paused ∧ (sending 0 pausedClaimed).pairings ≠ [] :=
  ⟨⟨by decide, by decide, by decide, by decide⟩, taken_sending rfl (by decide) (by decide), by decide⟩

/-- A CLEAR that finds a pairing in PICKED, and one that finds a waiting PAIR. -/
theorem witness_LineClearAbandonsTheWork :
    DeviceInv (sending 0 picked) ∧ Taken .clear 0 [] (sending 0 picked) ∧ (sending 0 picked).pairings = [held (.picked 10) 10] :=
  meets picked_inv rfl

theorem witness_LineClearAbandonsTheWork_waiting :
    DeviceInv (sending 0 pairPlaced) ∧ Taken .clear 0 [] (sending 0 pairPlaced) ∧ waitPorts (sending 0 pairPlaced) = [2] :=
  meets pairPlaced_inv rfl

/-- The wafer of ticket 7 is leaving the table. -/
def retiring : State := { claimed with banks := ⟨wafer .retiring .claimed .available .suspect 1 1, .blank⟩ }
theorem retiring_inv : DeviceInv retiring :=
  .of_laws (by decide) (by decide) (by decide) (by decide) (by decide) (by decide) (by decide)

/-- The clear empties a RETIRING bank before the WAFER port, with no bank ACTIVE; and a LOADING one. -/
theorem witness_LineClearAbandonsTheWork_banks :
    (DeviceInv (sending 0 retiring) ∧ Taken .clear 0 [] (sending 0 retiring) ∧ (sending 0 retiring).role 6 = .wafer ∧
      ((sending 0 retiring).bank .b0).state = .retiring ∧ ∀ b ∈ bothBanks, ((sending 0 retiring).bank b).state ≠ .active) ∧
    DeviceInv (sending 0 halfLoaded) ∧ Taken .clear 0 [] (sending 0 halfLoaded) ∧
      ((sending 0 halfLoaded).bank .b0).state = .loading ∧ (sending 0 halfLoaded).role 6 = .wafer ∧
      ∀ b ∈ bothBanks, ((sending 0 halfLoaded).bank b).state ≠ .retiring :=
  ⟨meets retiring_inv (by decide), meets halfLoaded_inv (by decide)⟩

theorem witness_LineClearSettlesDieAndTrace :
    DeviceInv (sending 0 picked) ∧ Taken .clear 0 [] (sending 0 picked) ∧ ((sending 0 picked).bank .b0).state = .active ∧
      (sending 0 picked).pairings = [held (.picked 10) 10] ∧ (held (.picked 10) 10).isPicked = true ∧
      2 < ((sending 0 picked).bank .b0).size ∧ (held (.picked 10) 10).dieIndex (sending 0 picked) ≠ 2 :=
  meets picked_inv (by decide)

/-- ROLE with no port, with port 8, with SUPERVISOR, with DISPENSER_B on a single-lane part. -/
theorem witness_RoleAssigned_range :
    Taken .role 0 [0, 2, 0] (sending 0 setup) ∧ Taken .role 0 [8, 2, 0] (sending 0 setup) ∧ (u8 [8, 2, 0] 0).toNat = 7 + 1 ∧
      assignableRole (u8 [7, 1, 0] 1) = none ∧ Taken .role 0 [7, 4, 0] (sending 0 { State.reset with dualLane := false }) ∧
      assignableRole (u8 [7, 4, 0] 1) = some (.dispenser .B) ∧ RoleLaw (sending 0 { State.reset with dualLane := false }) :=
  ⟨taken_sending rfl (by decide) (by decide), taken_sending rfl (by decide) (by decide), by decide, by decide,
    taken_sending rfl (by decide) (by decide), by decide, by decide⟩

theorem witness_RoleAssigned_state :
    DeviceInv (sending 0 line) ∧ Taken .role 0 [7, 2, 0] (sending 0 line) ∧ (sending 0 line).line ≠ .setup ∧
      (u8 [7, 2, 0] 0).toNat = (7 : Port).val ∧ assignableRole (u8 [7, 2, 0] 1) = some .head :=
  meets line_inv (by decide)

theorem witness_RoleAssigned_busy :
    DeviceInv (sending 0 setup) ∧ Taken .role 0 [7, 5, 0] (sending 0 setup) ∧ (sending 0 setup).line = .setup ∧
      assignableRole (u8 [7, 5, 0] 1) = some .indexer ∧ (sending 0 setup).role 5 = .indexer :=
  meets setup_inv (by decide)

/-- Four heads. -/
def fourHeads : State :=
  { State.reset with
    roles := #v[⟨.supervisor, 0⟩, ⟨.head, 0⟩, ⟨.head, 0⟩, ⟨.head, 0⟩, ⟨.head, 0⟩, ⟨.unassigned, 0⟩, ⟨.unassigned, 0⟩,
                ⟨.unassigned, 0⟩] }

theorem witness_RoleAssigned_full :
    RoleLaw (sending 0 fourHeads) ∧ Taken .role 0 [7, 2, 0] (sending 0 fourHeads) ∧ (sending 0 fourHeads).line = .setup ∧
      4 ≤ (allPorts.filter (fun x => x != 7 && (sending 0 fourHeads).role x == .head)).length :=
  ⟨by decide, taken_sending rfl (by decide) (by decide), by decide⟩

/-- S7 becomes a head at the greatest level, 3; with three other heads S4 stays one. -/
theorem witness_RoleAssigned_accepted :
    DeviceInv (sending 0 setup) ∧ Taken .role 0 [7, 2, 255] (sending 0 setup) ∧ (sending 0 setup).line = .setup ∧
      (allPorts.filter (fun x => x != 7 && (sending 0 setup).role x == .head)).length < 4 ∧
      RoleLaw (sending 0 fourHeads) ∧ (allPorts.filter (fun x => x != 4 && (sending 0 fourHeads).role x == .head)).length = 3 :=
  meets setup_inv (by decide)

/-! ### Products, lane parameters, reach -/

/-- The ranges of R22, as the statement spells them. -/
abbrev productValid (body : List Octet) : Prop :=
  let pr := productOfBody body
  (u8 body 0).toNat ≤ 7 ∧ 1 ≤ pr.siteCount ∧ pr.siteCount ≤ 64 ∧
    pr.gradeSet ≠ 0 ∧ pr.gradeSet.getLsbD 0 = false ∧ pr.gradeSet.getLsbD 15 = false ∧
    1 ≤ pr.openTime ∧ pr.openTime ≤ 360000 ∧ pr.marginMs ≤ 60000 ∧ pr.marginMs * 10 < pr.openTime * 100 ∧
    1 ≤ pr.dotMin ∧ pr.dotMin ≤ pr.dotMax ∧ pr.dotMax ≤ 65534 ∧ 1 ≤ pr.tolerance ∧ pr.tolerance ≤ 1000 ∧
    100 ≤ pr.pickLeaseMs ∧ pr.pickLeaseMs ≤ 60000 ∧ 100 ≤ pr.bondLeaseMs ∧ pr.bondLeaseMs ≤ 60000

/-- Every field at its greatest, for the product of the code and with the sites per strip given. -/
def greatest (code sites : Octet) : List Octet :=
  RequestBody.product code sites 32766 360000 60000 65534 65534 1000 60000 60000

theorem witness_ProductAndLaneSet_product :
    Taken .product 0 (greatest 7 64) (sending 0 line) ∧ productValid (greatest 7 64) ∧
      (7 : ProductCode).val = (u8 (greatest 7 64) 0).toNat ∧
      (∀ l ∈ bothLanes, ∀ st ∈ ((sending 0 line).lane l).strips, st.product ≠ 7) ∧
      Taken .product 0 (greatest 7 65) (sending 0 line) ∧ ¬ productValid (greatest 7 65) ∧
      Taken .product 0 (greatest 0 64) (sending 0 line) ∧ productValid (greatest 0 64) ∧
      ∃ l ∈ bothLanes, ∃ st ∈ ((sending 0 line).lane l).strips, st.product = 0 :=
  ⟨taken_sending rfl (by decide) (by decide), by decide, by decide, by decide, taken_sending rfl (by decide) (by decide),
    by decide, taken_sending rfl (by decide) (by decide), by decide, by decide⟩

/-- Lane B, empty, takes the greatest parameters; a limit of 17 and lane code 2 are out of range; lane A holds a strip. -/
theorem witness_ProductAndLaneSet_lane :
    Taken .lane 0 (RequestBody.lane 1 16 10000) (sending 0 line) ∧
      NamesLane (u8 (RequestBody.lane 1 16 10000) 0) (sending 0 line) .B ∧ ((sending 0 line).lane .B).strips = [] ∧
      (u8 (RequestBody.lane 1 16 10000) 1).toNat = 16 ∧ (u16 (RequestBody.lane 1 16 10000) 2).toNat = 10000 ∧
      Taken .lane 0 (RequestBody.lane 1 17 10000) (sending 0 line) ∧ Taken .lane 0 (RequestBody.lane 2 16 10000) (sending 0 line) ∧
      laneCode .A ≠ (2 : Octet) ∧ laneCode .B ≠ (2 : Octet) ∧
      Taken .lane 0 (RequestBody.lane 0 1 100) (sending 0 line) ∧
      NamesLane (u8 (RequestBody.lane 0 1 100) 0) (sending 0 line) .A ∧ ((sending 0 line).lane .A).strips ≠ [] :=
  ⟨taken_sending rfl (by decide) (by decide), ⟨by decide, by decide⟩, by decide, by decide, by decide,
    taken_sending rfl (by decide) (by decide), taken_sending rfl (by decide) (by decide), by decide, by decide,
    taken_sending rfl (by decide) (by decide), ⟨by decide, by decide⟩, by decide⟩

abbrev reachValid (body : List Octet) (s : State) : Prop :=
  1 ≤ (u8 body 0).toNat ∧ (u8 body 0).toNat ≤ 7 ∧ (u8 body 1).toNat ≤ 1 ∧ (u8 body 6).toNat ≤ 1 ∧
    1 ≤ (u8 body 11).toNat ∧ (u8 body 11).toNat ≤ 3 ∧ ((u8 body 11).getLsbD 1 = true → s.dualLane = true)

def reachBody (mask : Octet) : List Octet := RequestBody.reach 7 [1, 0, 255, 0, 255] [0, 0, 0, 0, 0] mask

theorem witness_ReachSet :
    DeviceInv (sending 0 line) ∧ Taken .reach 0 (reachBody 3) (sending 0 line) ∧ reachValid (reachBody 3) (sending 0 line) ∧
      (7 : Port).val = (u8 (reachBody 3) 0).toNat ∧ (sending 0 line).line = .run :=
  meets line_inv (by decide)

theorem witness_ReachSet_outside_run :
    DeviceInv (sending 0 setup) ∧ Taken .reach 0 (reachBody 1) (sending 0 setup) ∧ reachValid (reachBody 1) (sending 0 setup) ∧
      (sending 0 setup).line ≠ .run :=
  meets setup_inv (by decide)

theorem witness_ReachSet_range :
    DeviceInv (sending 0 line) ∧ Taken .reach 0 (reachBody 4) (sending 0 line) ∧ ¬ reachValid (reachBody 4) (sending 0 line) :=
  meets line_inv (by decide)

/-! ### Maps, die and wafers -/

/-- 256 × 64 is 16,384 die; 256 × 65 is too many. -/
def grid (rows : Half) : List Octet := RequestBody.mapOpen 6040 256 rows 50000 100

abbrev headerValid (body : List Octet) : Prop :=
  let bank := openedBank body
  bank.waferId ≠ 0 ∧ 1 ≤ bank.cols ∧ bank.cols ≤ 256 ∧ 1 ≤ bank.rows ∧ bank.rows ≤ 256 ∧
    bank.cols * bank.rows ≤ 16384 ∧ 100 ≤ bank.colPitch ∧ bank.colPitch ≤ 50000 ∧ 100 ≤ bank.rowPitch ∧
    bank.rowPitch ≤ 50000

/-- Neither bank is EMPTY, and neither is LOADING. -/
def fullBanks : State :=
  { line with banks := ⟨wafer .staged .available .available .suspect 2 0, fresh⟩ }

theorem witness_MapOpenedClosedAborted_open :
    BankLaw (sending 0 bare) ∧ Taken .mapOpen 0 (grid 64) (sending 0 bare) ∧ headerValid (grid 64) ∧
      (∀ b ∈ bothBanks, ((sending 0 bare).bank b).state = .empty) ∧
      Taken .mapOpen 0 (grid 65) (sending 0 bare) ∧ ¬ headerValid (grid 65) ∧
      BankLaw (sending 0 line) ∧ Taken .mapOpen 0 (grid 64) (sending 0 line) ∧ ((sending 0 line).bank .b1).state = .empty ∧
      (sending 0 line).banks.b0.state ≠ .empty ∧ (∀ b ∈ bothBanks, ((sending 0 line).bank b).state ≠ .loading) :=
  ⟨by decide, taken_sending rfl (by decide) (by decide), by decide, by decide, taken_sending rfl (by decide) (by decide),
    by decide, by decide, taken_sending rfl (by decide) (by decide), by decide⟩

theorem witness_MapOpenedClosedAborted_open_busy :
    BankLaw (sending 0 halfLoaded) ∧ Taken .mapOpen 0 (grid 64) (sending 0 halfLoaded) ∧
      ((sending 0 halfLoaded).bank .b0).state = .loading ∧
      BankLaw (sending 0 fullBanks) ∧ Taken .mapOpen 0 (grid 64) (sending 0 fullBanks) ∧
      ∀ b ∈ bothBanks, ((sending 0 fullBanks).bank b).state ≠ .empty :=
  ⟨by decide, taken_sending rfl (by decide) (by decide), by decide, by decide, taken_sending rfl (by decide) (by decide),
    by decide⟩

/-- The load of three die agrees with a count of 3 and a check of 6, and with no other. -/
theorem witness_MapOpenedClosedAborted_close :
    BankLaw (sending 0 loaded) ∧ Taken .mapClose 0 [0, 3, 0, 6] (sending 0 loaded) ∧
      ((sending 0 loaded).bank .b0).state = .loading ∧ ((sending 0 loaded).bank .b0).received = 3 ∧
      ((sending 0 loaded).bank .b0).check = 6 ∧ Taken .mapClose 0 [0, 3, 0, 7] (sending 0 loaded) ∧
      u16 [0, 3, 0, 7] 2 ≠ ((sending 0 loaded).bank .b0).check ∧
      Taken .mapClose 0 [0, 3, 0, 6] (sending 0 line) ∧ (∀ b ∈ bothBanks, ((sending 0 line).bank b).state ≠ .loading) ∧
      Taken .mapAbort 0 [] (sending 0 loaded) ∧ Taken .mapAbort 0 [] (sending 0 line) :=
  ⟨by decide, taken_sending rfl (by decide) (by decide), by decide, by decide, by decide,
    taken_sending rfl (by decide) (by decide), by decide, taken_sending rfl (by decide) (by decide), by decide,
    taken_sending rfl (by decide) (by decide), taken_sending rfl (by decide) (by decide)⟩

/-- The third die of three, of grade 15; grade 16, start 1 and two die are refused. -/
theorem witness_MapRowsLoaded :
    DeviceInv (sending 0 halfLoaded) ∧ Taken .mapRows 0 [0, 2, 1, 15] (sending 0 halfLoaded) ∧
      ((sending 0 halfLoaded).bank .b0).state = .loading ∧ ((sending 0 halfLoaded).bank .b0).received = 2 ∧
      ((sending 0 halfLoaded).bank .b0).cols * ((sending 0 halfLoaded).bank .b0).rows = 2 + ([15] : List Octet).length :=
  meets halfLoaded_inv (by decide)

theorem witness_MapRowsLoaded_refused :
    Taken .mapRows 0 [0, 2, 1, 16] (sending 0 halfLoaded) ∧ 15 < (16 : Octet).toNat ∧
      Taken .mapRows 0 [0, 1, 1, 1] (sending 0 halfLoaded) ∧ (u16 [0, 1, 1, 1] 0).toNat ≠ ((sending 0 halfLoaded).bank .b0).received ∧
      Taken .mapRows 0 [0, 2, 2, 1, 1] (sending 0 halfLoaded) ∧
      ((sending 0 halfLoaded).bank .b0).cols * ((sending 0 halfLoaded).bank .b0).rows < 2 + ([1, 1] : List Octet).length :=
  ⟨taken_sending rfl (by decide) (by decide), by decide, taken_sending rfl (by decide) (by decide), by decide,
    taken_sending rfl (by decide) (by decide), by decide⟩

theorem witness_MapRowsLoaded_no_map :
    DeviceInv (sending 0 line) ∧ Taken .mapRows 0 [0, 0, 1, 1] (sending 0 line) ∧
      ∀ b ∈ bothBanks, ((sending 0 line).bank b).state ≠ .loading :=
  meets line_inv (by decide)

/-- Die 0 of `line` is AVAILABLE and die 2 SUSPECT; there are three; bank 1 is EMPTY; there is no bank 2 and no action 3. -/
theorem witness_DieMarked :
    (∀ body ∈ [RequestBody.dieMark 2 0 1, RequestBody.dieMark 0 0 3, RequestBody.dieMark 1 0 1, RequestBody.dieMark 0 3 1,
        RequestBody.dieMark 0 0 1, RequestBody.dieMark 0 2 1, RequestBody.dieMark 0 2 2, RequestBody.dieMark 0 0 2],
      DeviceInv (sending 0 line) ∧ Taken .dieMark 0 body (sending 0 line)) ∧
      ((sending 0 line).bank .b1).state = .empty ∧ ((sending 0 line).bank .b0).state = .active ∧
      ((sending 0 line).bank .b0).cols * ((sending 0 line).bank .b0).rows = 3 ∧
      dieAt ((sending 0 line).bank .b0).dies 0 = die .available ∧ dieAt ((sending 0 line).bank .b0).dies 2 = die .suspect := by
  refine ⟨fun body hb => ⟨line_inv.sending rfl rfl, taken_sending rfl ?_ (by decide)⟩, by decide⟩
  revert body
  decide

/-- Die 0 is CLAIMED; die 1 is the last AVAILABLE die of the ACTIVE bank. -/
theorem witness_DieMarked_busy_and_last :
    DeviceInv (sending 0 claimed) ∧ Taken .dieMark 0 (RequestBody.dieMark 0 0 1) (sending 0 claimed) ∧
      (dieAt ((sending 0 claimed).bank .b0).dies 0).state = .claimed ∧
      (dieAt ((sending 0 claimed).bank .b0).dies 1).state = .available ∧ ((sending 0 claimed).bank .b0).available = 1 ∧
      (sending 0 claimed).role 6 = .wafer :=
  meets claimed_inv (by decide)

theorem witness_WaferArrives_busy_or_no_map :
    (DeviceInv (sending 6 line) ∧ Taken .waferIn 6 (be32 9) (sending 6 line) ∧ ((sending 6 line).bank .b0).state = .active) ∧
      DeviceInv (sending 6 bare) ∧ Taken .waferIn 6 (be32 9) (sending 6 bare) ∧
      ∀ b ∈ bothBanks, ((sending 6 bare).bank b).state = .empty :=
  ⟨meets line_inv (by decide), meets bare_inv (by decide)⟩

theorem witness_WaferArrives_staged :
    (DeviceInv (sending 6 staged) ∧ Taken .waferIn 6 (be32 9) (sending 6 staged) ∧
      ((sending 6 staged).bank .b0).state = .staged ∧ ((sending 6 staged).bank .b0).waferId = u32 (be32 9) 0 ∧
      ((sending 6 staged).bank .b1).state = .empty) ∧
      DeviceInv (sending 6 staged) ∧ Taken .waferIn 6 (be32 8) (sending 6 staged) ∧
      ((sending 6 staged).bank .b0).waferId ≠ u32 (be32 8) 0 :=
  ⟨meets staged_inv (by decide), meets staged_inv (by decide)⟩

/-- A staged wafer without an AVAILABLE die. -/
def stagedSpent : State := lineWith .run (.wetted 0) .empty .empty 1 (wafer .staged .reject .reject .suspect 0 0)

theorem witness_WaferArrives_spent :
    DeviceInv (sending 6 stagedSpent) ∧ Taken .waferIn 6 (be32 9) (sending 6 stagedSpent) ∧
      ((sending 6 stagedSpent).bank .b0).available = 0 ∧ (sending 6 stagedSpent).role 6 = .wafer :=
  meets (.of_laws (by decide) (by decide) (by decide) (by decide) (by decide) (by decide) (by decide)) (by decide)

theorem witness_WaferLeaves :
    (DeviceInv (sending 6 line) ∧ Taken .waferOut 6 [] (sending 6 line) ∧ ((sending 6 line).bank .b0).refs = 0 ∧
      ((sending 6 line).bank .b0).state = .active) ∧
    (DeviceInv (sending 6 claimed) ∧ Taken .waferOut 6 [] (sending 6 claimed) ∧ ((sending 6 claimed).bank .b0).refs ≠ 0 ∧
      ((sending 6 claimed).bank .b0).state = .active) ∧
    DeviceInv (sending 6 bare) ∧ Taken .waferOut 6 [] (sending 6 bare) ∧
      ∀ b ∈ bothBanks, ((sending 6 bare).bank b).state ≠ .active :=
  ⟨meets line_inv (by decide), meets claimed_inv (by decide), meets bare_inv (by decide)⟩

/-- Reads of 0 (taken as 1), of 2 and of 255 from three records, and of an empty queue. -/
theorem witness_TraceRequests :
    (DeviceInv (sending 0 traced) ∧ Taken .traceRead 0 [2] (sending 0 traced) ∧
      0 < min (min (max (u8 [2] 0).toNat 1) 8) (sending 0 traced).trace.records.length) ∧
    (DeviceInv (sending 0 line) ∧ Taken .traceRead 0 [255] (sending 0 line) ∧
      min (min (max (u8 [255] 0).toNat 1) 8) (sending 0 line).trace.records.length = 0) ∧
    DeviceInv (sending 0 traced) ∧ Taken .traceLevel 0 [0, 3] (sending 0 traced) ∧
      (sending 0 traced).trace.records.length = min (max (u16 [0, 3] 0).toNat 1) 512 :=
  ⟨meets traced_inv (by decide), meets line_inv (by decide), meets traced_inv (by decide)⟩

/-! ### PAIR and the head reports -/

/-- The lane choice of R73, as the statement spells it. -/
abbrev choiceHere (body : List Octet) (s : State) : Option LaneChoice :=
  if u8 body 0 = 0 then some (.only .A)
  else if u8 body 0 = 1 ∧ s.dualLane = true then some (.only .B)
  else if u8 body 0 = 2 then some .either else none

theorem witness_PairRefusedOrPlaced_range :
    DeviceInv (sending 1 line) ∧ Taken .pair 1 [3, 0, 0] (sending 1 line) ∧ choiceHere [3, 0, 0] (sending 1 line) = none :=
  meets line_inv (by decide)

theorem witness_PairRefusedOrPlaced_outside_run :
    (DeviceInv (sending 1 setup) ∧ Taken .pair 1 [2, 0, 0] (sending 1 setup) ∧ choiceHere [2, 0, 0] (sending 1 setup) ≠ none ∧
      (sending 1 setup).line = .setup) ∧
    DeviceInv (sending 1 paused) ∧ Taken .pair 1 [2, 0, 0] (sending 1 paused) ∧ (sending 1 paused).line = .paused :=
  ⟨meets setup_inv (by decide), meets paused_inv (by decide)⟩

theorem witness_PairRefusedOrPlaced_limit :
    DeviceInv (sending 1 twoPairs) ∧ Taken .pair 1 [2, 0, 0] (sending 1 twoPairs) ∧ (sending 1 twoPairs).line = .run ∧
      ((sending 1 twoPairs).pairings.filter (fun pr => pr.port == 1)).length = 2 :=
  meets twoPairs_inv (by decide)

/-- The head on S1 has one pairing in flight, and the PAIR of the head on S2 waits; waits of 0 and of more than 10,000 ms. -/
theorem witness_PairRefusedOrPlaced_placed :
    (DeviceInv (sending 1 claimed) ∧ Taken .pair 1 [1, 0, 0] (sending 1 claimed) ∧
      choiceHere [1, 0, 0] (sending 1 claimed) = some (.only .B) ∧ (sending 1 claimed).line = .run ∧
      ((sending 1 claimed).pairings.filter (fun pr => pr.port == 1)).length = 1) ∧
    DeviceInv (sending 1 (pairWaits (some (.selection .noSite)))) ∧
      Taken .pair 1 [2, 255, 255] (sending 1 (pairWaits (some (.selection .noSite)))) ∧
      10000 < (u16 [2, 255, 255] 1).toNat ∧ waitPorts (sending 1 (pairWaits (some (.selection .noSite)))) = [2] :=
  ⟨meets claimed_inv (by decide), meets pairWaits_inv (by decide)⟩

theorem traceOf_level (n : Nat) :
    (sending 1 (traceOf n)).trace.records.length + (sending 1 (traceOf n)).pairings.length = n := by
  show ((List.range n).map lossRecord).length + 0 = n
  simp

/-- With 512 records there is no room, for waits of 0 and of 1 ms; with 511 there is. -/
theorem witness_PairServedAlone_no_room :
    (DeviceInv (sending 1 (traceOf 512)) ∧ Taken .pair 1 [2, 0, 0] (sending 1 (traceOf 512)) ∧
      ¬ (sending 1 (traceOf 512)).trace.records.length + (sending 1 (traceOf 512)).pairings.length < 512 ∧
      10 * min (u16 [2, 0, 0] 1).toNat 10000 = 0) ∧
    DeviceInv (sending 1 (traceOf 512)) ∧ Taken .pair 1 [2, 0, 1] (sending 1 (traceOf 512)) ∧
      10 * min (u16 [2, 0, 1] 1).toNat 10000 ≠ 0 := by
  refine ⟨meets (traceOf_inv 512 (by decide)) ⟨?_, by decide⟩, meets (traceOf_inv 512 (by decide)) (by decide)⟩
  rw [traceOf_level]
  decide

theorem witness_PairServedAlone_room :
    DeviceInv (sending 1 (traceOf 511)) ∧ Taken .pair 1 [2, 0, 0] (sending 1 (traceOf 511)) ∧
      (sending 1 (traceOf 511)).trace.records.length + (sending 1 (traceOf 511)).pairings.length < 512 ∧
      (sending 1 (traceOf 511)).choiceOf (u8 [2, 0, 0] 0) = some .either ∧ (sending 1 (traceOf 511)).line = .run ∧
      (sending 1 (traceOf 511)).waitList = [] := by
  refine meets (traceOf_inv 511 (by decide)) ⟨?_, by decide⟩
  rw [traceOf_level]
  decide

/-- What a selection finds on `line`: site 0, aged 10, and die 0. -/
def found : Found :=
  { bank := .b0, cand := { lane := .A, arrival := 0, stripId := 77, product := 0, site := 0, age := 10 }, die := 0,
    record := die .available }

theorem witness_PairServedAlone_found_or_failed :
    DeviceInv (sending 1 line) ∧ Taken .pair 1 [2, 0, 0] (sending 1 line) ∧
      select (sending 1 line) 1 .either = .found found ∧ nextTicket (sending 1 line) = some 1 ∧
      (sending 1 line).choiceOf (u8 [1, 0, 0] 0) = some (.only .B) ∧
      select (sending 1 line) 1 (.only .B) = .failed .noSite :=
  meets line_inv (by decide)

/-- Reports on ticket 7, in CLAIMED at S1, from S2 and from S1; and on a ticket that nobody holds. -/
theorem witness_ReportsCheckTheirTicket_in_flight :
    (DeviceInv (sending 2 claimed) ∧ Taken .picked 2 [7] (sending 2 claimed) ∧
      ∃ pr ∈ (sending 2 claimed).pairings, pr.ticket = u8 [7] 0 ∧ pr.port ≠ 2) ∧
    (DeviceInv (sending 1 claimed) ∧ Taken .bonded 1 [7, 0, 0, 0, 0] (sending 1 claimed) ∧
      ∃ pr ∈ (sending 1 claimed).pairings, pr.ticket = 7 ∧ pr.port = 1 ∧ pr.phase = .claimed) ∧
    (DeviceInv (sending 1 picked) ∧ Taken .picked 1 [7] (sending 1 picked) ∧
      ∃ pr ∈ (sending 1 picked).pairings, pr.ticket = 7 ∧ pr.port = 1 ∧ pr.phase ≠ .claimed) ∧
    (DeviceInv (sending 1 claimed) ∧ Taken .pickFail 1 [7, 4] (sending 1 claimed) ∧ ¬ (u8 [7, 4] 1).toNat ≤ 3) ∧
    DeviceInv (sending 1 claimed) ∧ Taken .discard 1 [8] (sending 1 claimed) ∧
      (∀ pr ∈ (sending 1 claimed).pairings, pr.ticket ≠ 8) ∧ ∀ e ∈ (sending 1 claimed).ring, e.ticket ≠ 8 :=
  ⟨meets claimed_inv (by decide), meets claimed_inv (by decide), meets picked_inv (by decide), meets claimed_inv (by decide),
    meets claimed_inv (by decide)⟩

theorem witness_ReportsCheckTheirTicket_ended :
    (DeviceInv (sending 1 ended) ∧ Taken .discard 1 [7] (sending 1 ended) ∧
      ∃ e ∈ (sending 1 ended).ring, e.ticket = 7 ∧ e.port = 1) ∧
    DeviceInv (sending 2 ended) ∧ Taken .discard 2 [7] (sending 2 ended) ∧
      ∃ e ∈ (sending 2 ended).ring, e.ticket = 7 ∧ e.port ≠ 2 :=
  ⟨meets ended_inv (by decide), meets ended_inv (by decide)⟩

theorem witness_PickedReport :
    DeviceInv (sending 1 claimed) ∧ Taken .picked 1 [7] (sending 1 claimed) ∧
      held .claimed 10 ∈ (sending 1 claimed).pairings ∧ (held .claimed 10).ticket = u8 [7] 0 ∧
      (held .claimed 10).port = 1 ∧ (held .claimed 10).phase = .claimed :=
  meets claimed_inv (by decide)

/-- Offsets at the tolerance, 20, and just beyond it below 0; before and after the open time. -/
theorem witness_BondedReport :
    (DeviceInv (sending 1 picked) ∧ Taken .bonded 1 [7, 0, 20, 255, 236] (sending 1 picked) ∧
      held (.picked 10) 10 ∈ (sending 1 picked).pairings ∧ (held (.picked 10) 10).ticket = 7 ∧
      (u16 [7, 0, 20, 255, 236] 3).toInt = -20 ∧ (sending 1 picked).clock.toNat < 100) ∧
    DeviceInv (sending 1 pickedDue) ∧ Taken .bonded 1 [7, 0, 0, 255, 235] (sending 1 pickedDue) ∧
      held (.picked 10) 10 ∈ (sending 1 pickedDue).pairings ∧ 100 ≤ (sending 1 pickedDue).clock.toNat :=
  ⟨meets picked_inv (by decide), meets pickedDue_inv (by decide)⟩

/-- The settlement of the bonded site, beside a held DOT. -/
theorem witness_BondedReport_settled :
    (DeviceInv (sending 1 (withDot picked (.paired 0 7) .empty .empty 3)) ∧
      Taken .bonded 1 [7, 0, 0, 0, 0] (sending 1 (withDot picked (.paired 0 7) .empty .empty 3)) ∧
      ((sending 1 (withDot picked (.paired 0 7) .empty .empty 3)).gate .A).waiter.isSome = true ∧
      ((sending 1 (withDot picked (.paired 0 7) .empty .empty 3)).lane .A).strips =
        [] ++ strip (.paired 0 7) .empty .empty 3 :: []) ∧
    DeviceInv (sending 1 (withDot picked (.paired 0 7) .skipped .skipped 1)) ∧
      Taken .bonded 1 [7, 0, 0, 0, 0] (sending 1 (withDot picked (.paired 0 7) .skipped .skipped 1)) ∧
      (sending 1 (withDot picked (.paired 0 7) .skipped .skipped 1)).role 5 = .indexer ∧
      ((sending 1 (withDot picked (.paired 0 7) .skipped .skipped 1)).lane .A).strips.head?.map
        (fun st => (st.arrival, st.unsettled)) = some (0, 1) :=
  ⟨meets withDot_inv.1 (by decide), meets withDot_inv.2.1 (by decide)⟩

theorem witness_FailedAndDiscardedPicks :
    (∀ body ∈ [[7, 0], [7, 1], [7, 2], [7, 3], [7, 4]], DeviceInv (sending 1 claimed) ∧ Taken .pickFail 1 body (sending 1 claimed)) ∧
      (held .claimed 10 ∈ (sending 1 claimed).pairings ∧ (held .claimed 10).phase = .claimed) ∧
      DeviceInv (sending 1 picked) ∧ Taken .discard 1 [7] (sending 1 picked) ∧
      held (.picked 10) 10 ∈ (sending 1 picked).pairings ∧ (held (.picked 10) 10).phase = .picked 10 := by
  refine ⟨fun body hb => ⟨claimed_inv.sending rfl rfl, taken_sending rfl ?_ (by decide)⟩, by decide,
    meets picked_inv (by decide)⟩
  revert body
  decide

/-! ### DOT and DOT_ABORT -/

theorem witness_DotServedRefusedOrHeld_refused :
    (DeviceInv (sending 3 setup) ∧ Taken .dot 3 [0, 0] (sending 3 setup) ∧ (sending 3 setup).line = .setup) ∧
    (DeviceInv (sending 3 paused) ∧ Taken .dot 3 [0, 0] (sending 3 paused) ∧ (sending 3 paused).line = .paused) ∧
    DeviceInv (sending 3 dispensing) ∧ Taken .dot 3 [0, 0] (sending 3 dispensing) ∧
      (sending 3 dispensing).line = .run ∧ ((sending 3 dispensing).gate .A).assignment.isSome = true ∧
      (sending 3 dispensing).role 3 = .dispenser .A :=
  ⟨meets setup_inv (by decide), meets paused_inv (by decide), meets dispensing_inv (by decide)⟩

/-- Lane B of `line` has no strip: waits of 0 and of 1 ms. -/
theorem witness_DotServedRefusedOrHeld_not_served :
    (DeviceInv (sending 4 line) ∧ Taken .dot 4 [0, 0] (sending 4 line) ∧ (sending 4 line).role 4 = .dispenser .B ∧
      ((sending 4 line).gate .B).assignment = none ∧ ((sending 4 line).lane .B).strips = []) ∧
    DeviceInv (sending 4 line) ∧ Taken .dot 4 [0, 1] (sending 4 line) ∧ 10 * min (u16 [0, 1] 0).toNat 10000 ≠ 0 :=
  ⟨meets line_inv (by decide), meets line_inv (by decide)⟩

/-- Lane A of `line` is served at site 1. -/
theorem witness_DotServedRefusedOrHeld_served :
    DeviceInv (sending 3 line) ∧ Taken .dot 3 [0, 0] (sending 3 line) ∧ ((sending 3 line).gate .A).assignment = none ∧
      ((sending 3 line).lane .A).wetAhead < ((sending 3 line).lane .A).wetLimit ∧
      ((sending 3 line).lane .A).strips = [] ++ strip (.wetted 0) .empty .empty 3 :: [] ∧
      (strip (.wetted 0) .empty .empty 3).sites[1]? = some .empty ∧
      ∀ j < 1, (strip (.wetted 0) .empty .empty 3).sites[j]? ≠ some .empty :=
  meets line_inv (by decide)

theorem witness_DotServedRefusedOrHeld_reexamined :
    DeviceInv fullWet ∧ (∃ w ∈ (fullWet.gate .A).waiter, w.port = 3) ∧
      ¬ (fullWet.lane .A).wetAhead < (fullWet.lane .A).wetLimit ∧
      DeviceInv roomy ∧ (∃ w ∈ (roomy.gate .A).waiter, w.port = 3) ∧
      (roomy.lane .A).wetAhead < (roomy.lane .A).wetLimit ∧
      (roomy.lane .A).strips = [] ++ strip (.wetted 0) .empty .empty 3 :: [] :=
  ⟨fullWet_inv, by decide, by decide, roomy_inv, by decide⟩

theorem witness_SiteTakenBack_abort :
    (DeviceInv (sending 3 line) ∧ Taken .dotAbort 3 [] (sending 3 line) ∧ ((sending 3 line).gate .A).assignment = none ∧
      (sending 3 line).role 3 = .dispenser .A) ∧
    (DeviceInv (sending 3 dispensing) ∧ Taken .dotAbort 3 [] (sending 3 dispensing) ∧
      ((sending 3 dispensing).gate .A).measurement = .idle ∧ ((sending 3 dispensing).gate .A).assignment.isSome = true) ∧
    DeviceInv (sending 3 pulsing) ∧ Taken .dotAbort 3 [] (sending 3 pulsing) ∧
      ((sending 3 pulsing).gate .A).measurement = .inProgress 1 true ∧
      ((sending 3 pulsing).gate .A).assignment.isSome = true :=
  ⟨meets line_inv (by decide), meets dispensing_inv (by decide), meets pulsing_inv (by decide)⟩

/-- The deadline is 20,000 ticks away, and just reached. -/
theorem witness_SiteTakenBack_deadline :
    (DeviceInv line ∧ line.resetAsserted = false ∧ (line.gate .A).assignment = none) ∧
    (DeviceInv dispensing ∧ ∃ a ∈ (dispensing.gate .A).assignment, ¬ elapsed a.deadline dispensing.clock < 2 ^ 31) ∧
    (DeviceInv dotDue ∧ (∃ a ∈ (dotDue.gate .A).assignment, a.deadlineRuns = true ∧ elapsed a.deadline dotDue.clock = 0) ∧
      (dotDue.gate .A).measurement.isBound = false) ∧
    DeviceInv dotDuePulsing ∧
      (∃ a ∈ (dotDuePulsing.gate .A).assignment, a.deadlineRuns = true ∧ elapsed a.deadline dotDuePulsing.clock = 0) ∧
      (dotDuePulsing.gate .A).measurement.isBound = true :=
  ⟨⟨line_inv, by decide⟩, ⟨dispensing_inv, by decide⟩, ⟨dotDue_inv, by decide⟩, dotDuePulsing_inv, by decide⟩

/-! ### Strips -/

/-- No lane 2; a fifth strip; product 1, which is not defined. -/
theorem witness_StripEnters_refused :
    (DeviceInv (sending 5 line) ∧ Taken .stripIn 5 (RequestBody.stripIn 2 5 0 []) (sending 5 line) ∧
      laneCode .A ≠ (2 : Octet) ∧ laneCode .B ≠ (2 : Octet)) ∧
    (DeviceInv (sending 5 fullLane) ∧ Taken .stripIn 5 (RequestBody.stripIn 0 5 0 []) (sending 5 fullLane) ∧
      u8 (RequestBody.stripIn 0 5 0 []) 0 = laneCode .A ∧ ((sending 5 fullLane).lane .A).strips.length = 4) ∧
    DeviceInv (sending 5 line) ∧ Taken .stripIn 5 (RequestBody.stripIn 0 5 1 []) (sending 5 line) ∧
      (sending 5 line).products[(1 : ProductCode)] = none :=
  ⟨meets line_inv (by decide), meets fullLane_inv (by decide), meets line_inv (by decide)⟩

/-- The second strip of lane A takes slot 1, its bad list naming the last site, 2, and 3, which it has not. -/
theorem witness_StripEnters_accepted :
    DeviceInv (sending 5 line) ∧ Taken .stripIn 5 (RequestBody.stripIn 0 5 0 [2, 3]) (sending 5 line) ∧
      u8 (RequestBody.stripIn 0 5 0 [2, 3]) 0 = laneCode .A ∧ u32 (RequestBody.stripIn 0 5 0 [2, 3]) 1 ≠ 0 ∧
      (0 : ProductCode).val = (u8 (RequestBody.stripIn 0 5 0 [2, 3]) 5).toNat ∧
      (sending 5 line).products[(0 : ProductCode)] = some glue ∧ ((sending 5 line).lane .A).strips.length < 4 ∧
      (∀ st ∈ ((sending 5 line).lane .A).strips, st.slot ≠ 1) ∧
      (∀ j : Fin 4, j < 1 → ∃ st ∈ ((sending 5 line).lane .A).strips, st.slot = j) ∧
      ((sending 5 line).gate .A).waiter = none :=
  meets line_inv (by decide)

/-- An all-SKIPPED strip in the empty lane B; and a strip of lane A whose site 1 a held DOT is given. -/
theorem witness_StripEnters_settled_or_dotted :
    (DeviceInv (sending 5 line) ∧ Taken .stripIn 5 (RequestBody.stripIn 1 5 0 [0, 1, 2]) (sending 5 line) ∧
      ((sending 5 line).lane .B).strips = []) ∧
    DeviceInv (sending 5 noStrip) ∧ Taken .stripIn 5 (RequestBody.stripIn 0 5 0 [0]) (sending 5 noStrip) ∧
      ((sending 5 noStrip).gate .A).waiter.isSome = true ∧
      ((sending 5 noStrip).lane .A).wetAhead < ((sending 5 noStrip).lane .A).wetLimit ∧
      ∀ st ∈ ((sending 5 noStrip).lane .A).strips, Site.empty ∉ st.sites :=
  ⟨meets line_inv (by decide), meets noStrip_inv (by decide)⟩

/-- The lane of a held DOT is at its wet-ahead limit, or the strip that enters has no EMPTY site. -/
theorem witness_StripEnters_still_held :
    (DeviceInv (sending 5 fullWet) ∧ Taken .stripIn 5 (RequestBody.stripIn 0 5 0 []) (sending 5 fullWet) ∧
      ((sending 5 fullWet).gate .A).waiter.isSome = true ∧
      ((sending 5 fullWet).lane .A).wetLimit ≤ ((sending 5 fullWet).lane .A).wetAhead) ∧
    DeviceInv (sending 5 noStrip) ∧ Taken .stripIn 5 (RequestBody.stripIn 0 5 0 [0, 1, 2]) (sending 5 noStrip) ∧
      ((sending 5 noStrip).gate .A).waiter.isSome = true ∧ ((sending 5 noStrip).lane .A).strips = [] :=
  ⟨meets fullWet_inv (by decide), meets noStrip_inv (by decide)⟩

/-- The departing strip leaves the lane of a held DOT below its limit with an EMPTY site, without a strip, and at its limit. -/
theorem witness_StripLeaves_held_dot :
    Blocked (sending 5 (behind (.wetted 0) .empty 3)) ∧ Blocked (sending 5 fullWet) ∧
    Blocked (sending 5 (behind .badDot (.wetted 0) 2)) ∧
    (DeviceInv (sending 5 (behind (.wetted 0) .empty 3)) ∧ Taken .stripOut 5 [0] (sending 5 (behind (.wetted 0) .empty 3)) ∧
      ((sending 5 (behind (.wetted 0) .empty 3)).gate .A).waiter.isSome = true) ∧
    (DeviceInv (sending 5 fullWet) ∧ Taken .stripOut 5 [0] (sending 5 fullWet) ∧
      ((sending 5 fullWet).lane .A).strips = strip (.wetted 0) .empty .empty 3 :: []) ∧
    DeviceInv (sending 5 (behind .badDot (.wetted 0) 2)) ∧ Taken .stripOut 5 [0] (sending 5 (behind .badDot (.wetted 0) 2)) ∧
      ((sending 5 (behind .badDot (.wetted 0) 2)).lane .A).wetLimit ≤
        ((sending 5 (behind .badDot (.wetted 0) 2)).lane .A).wetAhead -
          ((strip .badDot .empty .empty 2).sites.filter Site.countsWet).length :=
  ⟨blocked_of_empty rfl, blocked_of_empty rfl, blocked_of_empty rfl, meets behind_inv.1 (by decide), meets fullWet_inv (by decide),
    meets behind_inv.2 (by decide)⟩

theorem witness_StripLeaves :
    Blocked (sending 5 line) ∧ Blocked (sending 5 dispensing) ∧
    (DeviceInv (sending 5 line) ∧ Taken .stripOut 5 [2] (sending 5 line) ∧ laneCode .A ≠ (2 : Octet) ∧
      laneCode .B ≠ (2 : Octet)) ∧
    (DeviceInv (sending 5 line) ∧ Taken .stripOut 5 [1] (sending 5 line) ∧ u8 [1] 0 = laneCode .B ∧
      ((sending 5 line).lane .B).strips = []) ∧
    (DeviceInv (sending 5 line) ∧ Taken .stripOut 5 [0] (sending 5 line) ∧ u8 [0] 0 = laneCode .A ∧
      ((sending 5 line).lane .A).strips = strip (.wetted 0) .empty .empty 3 :: [] ∧
      ((sending 5 line).gate .A).waiter = none ∧ ((sending 5 line).gate .A).assignment = none) ∧
    DeviceInv (sending 5 dispensing) ∧ Taken .stripOut 5 [0] (sending 5 dispensing) ∧
      ((sending 5 dispensing).gate .A).waiter = none ∧
      ∃ a ∈ ((sending 5 dispensing).gate .A).assignment, a.arrival = (strip (.wetted 0) .dispensing .empty 3).arrival :=
  ⟨blocked_of_empty rfl, blocked_of_empty rfl, meets line_inv (by decide), meets line_inv (by decide), meets line_inv (by decide),
    meets dispensing_inv (by decide)⟩

/-- The strip leaves with the site of a pairing in CLAIMED, and in PICKED. -/
theorem witness_DepartureRevokes :
    (DeviceInv (sending 5 claimed) ∧ Taken .stripOut 5 [0] (sending 5 claimed) ∧
      ((sending 5 claimed).lane .A).strips = strip (.paired 0 7) .empty .empty 3 :: [] ∧
      ((strip (.paired 0 7) .empty .empty 3).sites.filterMap pairedUnder).filterMap (sending 5 claimed).pairing =
        [held .claimed 10]) ∧
    DeviceInv (sending 5 picked) ∧ Taken .stripOut 5 [0] (sending 5 picked) ∧
      ((strip (.paired 0 7) .empty .empty 3).sites.filterMap pairedUnder).filterMap (sending 5 picked).pairing =
        [held (.picked 10) 10] :=
  ⟨meets claimed_inv (by decide), meets picked_inv (by decide)⟩

/-- The head on S1 loses both its pairings, with nothing pending, and with an end count of 254. -/
def twoPairsTold : State :=
  { twoPairs with
    notices := twoPairs.notices.set 1 { NoticeState.blank with
      pending := #v[some (.pairingEnded 254 [(3, .bonded), (4, .expired)]), none, none, none] } }

theorem twoPairsTold_inv : DeviceInv twoPairsTold :=
  .of_laws (by decide) (by decide) (by decide) (by decide) (by decide) (by decide) (by decide)

theorem witness_DepartureRevokes_both :
    (DeviceInv (sending 5 twoPairs) ∧ Taken .stripOut 5 [0] (sending 5 twoPairs) ∧
      (((strip (.paired 0 7) (.paired 5 8) .empty 3).sites.filterMap pairedUnder).filterMap
        (sending 5 twoPairs).pairing).filter (fun x => x.port == 1) = (sending 5 twoPairs).pairings ∧
      ((sending 5 twoPairs).notice 1).pending[(0 : RankIx)] = none) ∧
    DeviceInv (sending 5 twoPairsTold) ∧ Taken .stripOut 5 [0] (sending 5 twoPairsTold) ∧
      ((sending 5 twoPairsTold).notice 1).pending[(0 : RankIx)] = some (.pairingEnded 254 [(3, .bonded), (4, .expired)]) :=
  ⟨meets twoPairs_inv (by decide), meets twoPairsTold_inv (by decide)⟩

/-! ### The clock, the timers and the gates -/

/-- With every port idle and no entry, waiter, assignment or pairing that is due, no timer is due. -/
theorem noTimerDue_of_idle {s : State} (ports : ∀ p : Port, s.link p = .idle)
    (waits : ∀ e ∈ s.waitList, elapsed e.start s.clock < e.length)
    (dots : ∀ l ∈ bothLanes, ∀ w ∈ (s.gate l).waiter, elapsed w.start s.clock < w.length)
    (deadlines : ∀ l ∈ bothLanes, ∀ a ∈ (s.gate l).assignment, a.deadlineRuns = true →
      Config.halfRange ≤ elapsed a.deadline s.clock)
    (leases : ∀ pr ∈ s.pairings, elapsed pr.leaseStart s.clock < pr.leaseLength) : NoTimerDue s := by
  refine ⟨fun p octets bits start h => ?_, waits, dots, deadlines, leases⟩
  rw [ports p] at h
  cases h

/-- A plain tick, with a lease one tick short of its end; and a tick that finds the lease due. -/
theorem witness_ClockTickVisitsOneSite :
    DeviceInv line ∧ line.resetAsserted = false ∧ line.visitOwed = false ∧ NoneInHand line ∧ NoTimerDue line ∧
      NoneInHand (flying .claimed .claimed 1009 497) ∧
      DeviceInv (flying .claimed .claimed 1009 497) ∧ NoTimerDue (flying .claimed .claimed 1009 497) ∧
      (flying .claimed .claimed 1009 497).visitOwed = false ∧
      DeviceInv claimedDue ∧ claimedDue.resetAsserted = false ∧
      ∃ pr ∈ claimedDue.pairings, elapsed pr.leaseStart claimedDue.clock = pr.leaseLength :=
  ⟨line_inv, rfl, rfl, by decide, noTimerDue_of_idle (by decide) (by decide) (by decide) (by decide) (by decide), by decide,
    .of_laws (by decide) (by decide) (by decide) (by decide) (by decide) (by decide) (by decide),
    noTimerDue_of_idle (by decide) (by decide) (by decide) (by decide) (by decide), rfl, claimedDue_inv, rfl, by decide⟩

/-- An idle part that owes the visit to position 0. -/
abbrev VisitsZero (s : State) : Prop :=
  s.resetAsserted = false ∧ s.visitOwed = true ∧ NoneInHand s ∧ s.pending = [] ∧ (s.sweepPos - 1).toNat = 0

/-- The visit to a site aged 99, and to one aged 100, the open time, alone and beside a held DOT. -/
theorem witness_ClockTickVisitsOneSite_visit :
    DeviceInv (sweeping 414) ∧ VisitsZero (sweeping 414) ∧ elapsed 414 (sweeping 414).clock < glue.openTime * 100 ∧
      DeviceInv (sweeping 413) ∧ VisitsZero (sweeping 413) ∧ glue.openTime * 100 ≤ elapsed 413 (sweeping 413).clock ∧
      (∃ st ∈ ((sweeping 413).lane .A).strips, st.slot.val = 0 ∧ st.sites[0]? = some (.wetted 413)) ∧
      ((sweeping 413).gate .A).waiter = none :=
  ⟨sweeping_inv.2, by decide, by decide, sweeping_inv.1, by decide, by decide, by decide, by decide⟩

theorem witness_ClockTickVisitsOneSite_visit_settles :
    DeviceInv (withDot (sweeping 413) (.wetted 413) .empty .empty 3) ∧
      VisitsZero (withDot (sweeping 413) (.wetted 413) .empty .empty 3) ∧
      DeviceInv (withDot (sweeping 413) (.wetted 413) .skipped .skipped 1) ∧
      VisitsZero (withDot (sweeping 413) (.wetted 413) .skipped .skipped 1) :=
  ⟨withDot_inv.2.2.2.2.1, by decide, withDot_inv.2.2.2.2.2, by decide⟩

/-- The settlement at the lease expiry, beside a held DOT. -/
theorem witness_LeaseExpires_settled :
    DeviceInv (withDot pickedDue (.paired 0 7) .empty .empty 3) ∧ DeviceInv (withDot pickedDue (.paired 0 7) .skipped .skipped 1) ∧
      held (.picked 10) 10 ∈ (withDot pickedDue (.paired 0 7) .empty .empty 3).pairings ∧
      ((withDot pickedDue (.paired 0 7) .empty .empty 3).gate .A).waiter.isSome = true ∧
      ((withDot pickedDue (.paired 0 7) .skipped .skipped 1).lane .A).strips.head?.map
        (fun st => (st.arrival, st.unsettled)) = some (0, 1) :=
  ⟨withDot_inv.2.2.1, withDot_inv.2.2.2.1, by decide⟩

/-- The lease of 1,000 ticks, at its start and just due. -/
theorem witness_LeaseExpires :
    DeviceInv line ∧ line.resetAsserted = false ∧ (∀ pr ∈ line.pairings, pr.ticket ≠ 7) ∧
      DeviceInv claimed ∧ held .claimed 10 ∈ claimed.pairings ∧
      elapsed (held .claimed 10).leaseStart claimed.clock < (held .claimed 10).leaseLength ∧
      DeviceInv claimedDue ∧ held .claimed 10 ∈ claimedDue.pairings ∧
      elapsed (held .claimed 10).leaseStart claimedDue.clock = (held .claimed 10).leaseLength ∧
      DeviceInv pickedDue ∧ held (.picked 10) 10 ∈ pickedDue.pairings ∧
      elapsed (held (.picked 10) 10).leaseStart pickedDue.clock = (held (.picked 10) 10).leaseLength :=
  ⟨line_inv, by decide, by decide, claimed_inv, by decide, by decide, claimedDue_inv, by decide, by decide, pickedDue_inv,
    by decide⟩

/-- A state's laws of the ports and held requests do not speak of the reading. -/
theorem LinkInv.at_reading {s : State} (h : LinkInv s) (now : Reading) : LinkInv { s with clock := now } :=
  ⟨h.links, h.onlyInRun, h.waitList, h.dotWaiters⟩

/-- The waits from reading 10 of 100 ticks, at readings 109 and 110, with each kind of obstacle. -/
theorem witness_WaitsExpire_pair :
    LinkInv { pairWaits (some (.selection .noSite)) with clock := 109 } ∧ elapsed 10 109 < 100 ∧
      LinkInv { pairWaits (some (.selection .noSite)) with clock := 110 } ∧ 100 ≤ elapsed 10 110 ∧
      LinkInv { pairWaits (some (.trace 509 3)) with clock := 110 } ∧
      (∃ e ∈ (pairWaits (some (.trace 509 3))).waitList, e.port = 2 ∧ e.obstacle = some (.trace 509 3)) ∧
      (pairWaits (some (.trace 509 3))).resetAsserted = false ∧ ∀ e ∈ (pairWaits (some (.trace 509 3))).waitList, e.port ≠ 1 :=
  ⟨LinkInv.at_reading pairWaits_inv.link 109, by decide, LinkInv.at_reading pairWaits_inv.link 110, by decide,
    ⟨by decide, by decide, by decide, by decide⟩, by decide⟩

theorem witness_WaitsExpire_dot :
    LinkInv { fullWet with clock := 109 } ∧ LinkInv { fullWet with clock := 110 } ∧
      (∃ w ∈ (fullWet.gate .A).waiter, w.port = 3 ∧ elapsed w.start 109 < w.length ∧ w.length ≤ elapsed w.start 110) ∧
      (fullWet.gate .B).waiter = none ∧ fullWet.resetAsserted = false :=
  ⟨LinkInv.at_reading fullWet_inv.link 109, LinkInv.at_reading fullWet_inv.link 110, by decide⟩

theorem witness_PulseComesIntoProgress :
    line.resetAsserted = false ∧ (line.gate .A).gateActive = false ∧ (pulsing.gate .A).gateActive = true ∧
      ((orphaning .started).gate .A).measurement = .started ∧ (line.gate .A).measurement ≠ .started := by decide

/-- An unbound pulse, a pulse no command told of, and none, with the gate active; counts of 254 that reach the ceiling. -/
theorem witness_PulsesComplete_unbound :
    DeviceInv (orphaning (.inProgress 1 false)) ∧ DeviceInv (orphaning .started) ∧ DeviceInv (orphaning .idle) ∧
      (orphaning .idle).resetAsserted = false ∧ ((orphaning .idle).gate .A).gateActive = true ∧
      ((orphaning .started).gate .A).measurement ≠ .idle ∧ ((orphaning .started).gate .A).assignment = none ∧
      min 255 (((orphaning .started).gate .A).orphans + 1) = 255 ∧ (line.gate .A).gateActive = false :=
  ⟨orphaning_inv.1, orphaning_inv.2.1, orphaning_inv.2.2, by decide⟩

/-- A bound pulse at the ends of the window 2–5, and outside it at 1 and at 6. -/
theorem witness_PulsesComplete_bound :
    DeviceInv pulsing ∧ pulsing.resetAsserted = false ∧ (pulsing.gate .A).gateActive = true ∧
      (pulsing.gate .A).measurement = .inProgress 1 true ∧
      (∃ a ∈ (pulsing.gate .A).assignment, ∃ st ∈ (pulsing.lane .A).strips, st.arrival = a.arrival ∧
        (pulsing.product st.product).dotMin = max 1 2 ∧ (pulsing.product st.product).dotMax = max 1 5 ∧
        ¬ (pulsing.product st.product).dotMin ≤ max 1 0 ∧ ¬ max 1 6 ≤ (pulsing.product st.product).dotMax) :=
  ⟨pulsing_inv, by decide⟩

/-! ### Selection, grants and passes -/

theorem witness_CandidateSitesInOrder : DeviceInv line ∧ candidates line 1 .either = [found.cand] := ⟨line_inv, by decide⟩

theorem witness_DieSearchIsCheapest :
    dieTableWf fresh.dies ∧ dieSearch fresh wide ⟨0, 0⟩ 2 = some (0, die .available) ∧ dieSearch fresh wide ⟨0, 0⟩ 4 = none := by
  decide

/-- No wafer; no candidate in lane B; a reach that holds no die; a first site that is served. -/
theorem witness_SelectionTakesTheFirstServed :
    (∀ b ∈ bothBanks, (bare.bank b).state ≠ .active) ∧ (line.bank .b0).state = .active ∧ candidates line 1 (.only .B) = [] ∧
      candidates line 3 .either ≠ [] ∧
      (∀ x ∈ candidates line 3 .either,
        dieSearch (line.bank .b0) line.reach[(3 : Port)] line.lastPick[(3 : Port)] (line.product x.product).gradeSet = none) ∧
      siteOrder (candidates line 1 .either) = [] ++ found.cand :: [] ∧
      dieSearch (line.bank .b0) line.reach[(1 : Port)] line.lastPick[(1 : Port)] (line.product found.cand.product).gradeSet =
        some (0, die .available) := by decide

theorem witness_NextTicketIsTheFirstFree : DeviceInv claimed ∧ nextTicket claimed = some 8 := ⟨claimed_inv, by decide⟩

/-- The PAIR that S2 has on the list is granted site 0 and die 0. -/
theorem witness_GrantMakesThePairing :
    DeviceInv pairPlaced ∧ pairPlaced.link 2 = .holding .pair ∧ select pairPlaced 2 .either = .found found ∧
      nextTicket pairPlaced = some 1 :=
  ⟨pairPlaced_inv, by decide⟩

/-- The PAIR of S2 waits while the trace is full. -/
def waitingTended : State :=
  { pairPlaced with notices := line.notices.set 0 { NoticeState.blank with inService := #v[false, false, true, false] } }

theorem waitingTended_inv : DeviceInv waitingTended :=
  .of_laws (by decide) (by decide) (by decide) (by decide) (by decide) (by decide) (by decide)

theorem witness_PassServesInListOrder_no_room :
    DeviceInv (traceOn waitingTended 512) ∧ (traceOn waitingTended 512).waitList = [⟨2, 2, .either, 10, 100, none⟩] ∧
      ¬ (traceOn waitingTended 512).trace.records.length + (traceOn waitingTended 512).pairings.length < 512 := by
  refine ⟨traceOn_inv waitingTended_inv 512 (by decide) rfl rfl, rfl, ?_⟩
  have level : ∀ n, (traceOn waitingTended n).trace.records.length + (traceOn waitingTended n).pairings.length = n := by
    intro n
    show ((List.range n).map lossRecord).length + 0 = n
    simp
  rw [level]
  decide

theorem witness_PassServesInListOrder_walk :
    TraceRoomLaw pairPlaced ∧ TraceRoomLaw (pairWaits (some (.selection .noSite))) ∧
      TraceRoomLaw (traceOn waitingTended 512) :=
  ⟨pairPlaced_inv.trace.room, pairWaits_inv.trace.room, (traceOn_inv waitingTended_inv 512 (by decide) rfl rfl).trace.room⟩

theorem witness_PassServesInListOrder :
    DeviceInv line ∧ line.waitList = [] ∧ DeviceInv pairPlaced ∧
      (∃ e ∈ pairPlaced.waitList.head?, select pairPlaced e.port e.choice = .found found) ∧
      pairPlaced.trace.records.length + pairPlaced.pairings.length < 512 ∧
      DeviceInv (pairWaits (some (.selection .noSite))) ∧
      ∃ e ∈ (pairWaits (some (.selection .noSite))).waitList.head?,
        select (pairWaits (some (.selection .noSite))) e.port e.choice = .failed .noSite :=
  ⟨line_inv, by decide, pairPlaced_inv, by decide, by decide, pairWaits_inv, by decide⟩

/-- The DISPENSER_A port has its rank 3 pending; the head's rank 1 gathers. -/
theorem witness_RaisingAndOutputs :
    (line.role 3).sourceAt 2 = some (Notice.pulseOrphan 2).source ∧ ((orphanTold false).notice 3).pending[(2 : RankIx)].isSome = true ∧
      (line.role 3).sourceAt 0 ≠ some (Notice.pulseOrphan 2).source ∧ (line.notice 3).pending[(2 : RankIx)] = none := by decide

theorem witness_FrameLayouts :
    1 ≤ ([15] : List Octet).length ∧ (List.replicate 64 (1 : Octet)).length = 64 ∧ ([] : List Octet).length ≤ 64 := by decide

/-! ### Laws that every step keeps -/

/-- A tick waits on a queue beside a strip, a wafer and a waiting PAIR. -/
def ticking : State := { pairWaits (some (.selection .noSite)) with pending := [.clockTick] }

theorem ticking_inv : DeviceInv ticking :=
  .of_laws (by decide) (by decide) (by decide) (by decide) (by decide) (by decide) (by decide)

theorem witness_EveryStepKeeps :
    DeviceInv ticking ∧ RoleLaw ticking ∧ RangeInv ticking ∧ TraceInv ticking ∧ LinkInv ticking ∧ MapInv ticking ∧
      NoticeInv ticking ∧ step ticking = .next (after .clockTick { ticking with pending := [] }) :=
  ⟨ticking_inv, ticking_inv.roles, ticking_inv.ranges, ticking_inv.trace, ticking_inv.link, ticking_inv.map, ticking_inv.notices,
    rfl⟩

theorem witness_EveryStepLeavesTheListBlocked : DeviceInv ticking ∧ Blocked ticking := ⟨ticking_inv, rfl⟩

end Sys2Proof.Tests
end

section
/-! PROOFS. Events: what a step can do, said once; what a request that is taken comes to, and what it may change. -/

namespace Sys2Proof.Proofs

open Sys2Proof Sys2Proof.Machine Sys2Proof.Safety

/-! ## What an event does -/

/-- The port has a partial frame in hand (R151). -/
def Receiving (s : State) (p : Port) : Prop := ∃ octets bits start, s.link p = .receiving octets bits start

theorem receiving_of_receives {s : State} {p : Port} {frame : List Octet} (h : s.receives p frame = true) : Receiving s p := by
  unfold State.receives at h
  split at h
  · rename_i octets bits start link
    exact ⟨octets, bits, start, link⟩
  · cases h

/-- Every command of a request kind is a frame of the kind that completes on its port. -/
theorem exec_requestOf (k : Kind) (p : Port) (body : List Octet) (s : State) :
    exec (requestOf k p body) s = request k (serve k) p body s := by
  cases k <;> rfl

/-- What a step on a queue's rest comes to: one case for each kind of event, with the condition under which it moves the state. -/
inductive Happens (s : State) : State → Prop
  | nothing : Happens s s
  | ownWork : s.resetAsserted = false → Happens s (catchUp s)
  | frame (k : Kind) (p : Port) (body : List Octet) : s.resetAsserted = false → Receiving s p →
      Happens s (frameCheck k p body (serve k) s)
  | format (p : Port) (kind : Octet) : s.resetAsserted = false → Receiving s p → Happens s (answerFormat p kind s)
  | frameInHand (k : Kind) (p : Port) (body : List Octet) : s.resetAsserted = false → Receiving s p →
      Happens s (keepInHand p (frameCheck k p body (serve k) s))
  | formatInHand (p : Port) (kind : Octet) : s.resetAsserted = false → Receiving s p →
      Happens s (keepInHand p (answerFormat p kind s))
  | bitIn (p : Port) (octets : List Octet) (bits : List Bool) : s.resetAsserted = false → Receiving s p →
      Happens s (s.setLink p (.receiving octets bits s.clock))
  | bitOut (p : Port) (k : Option Kind) (r : Response) (n : Nat) (m : Option GrantMark) : s.resetAsserted = false →
      s.link p = .answering k r n m → Happens s (s.setLink p (.answering k r (n + 1) m))
  | selFallPin (p : Port) : s.ports[p].selLow = false → (s.resetAsserted = true ∨ s.link p ≠ .idle) →
      Happens s (s.setPort p { s.ports[p] with selLow := true })
  | selFallOpens (p : Port) : s.ports[p].selLow = false → s.resetAsserted = false → s.link p = .idle →
      Happens s (s.setPort p { selLow := true, link := .receiving [] [] s.clock })
  | selRisePin (p : Port) : s.ports[p].selLow = true → s.resetAsserted = true →
      Happens s (s.setPort p { s.ports[p] with selLow := false })
  | selRiseCloses (p : Port) : s.ports[p].selLow = true → s.resetAsserted = false →
      Happens s (closeLink p (s.setPort p { s.ports[p] with selLow := false }))
  | frameExpiry (p : Port) : s.resetAsserted = false → Happens s (expireFrame p s)
  | leaseExpiry (t : Ticket) : s.resetAsserted = false → Happens s (expireLease t s)
  | deadlineExpiry (l : Lane) : s.resetAsserted = false → Happens s (expireDeadline l s)
  | pairWaitExpiry (p : Port) : s.resetAsserted = false → Happens s (expirePairWait p s)
  | dotWaitExpiry (l : Lane) : s.resetAsserted = false → Happens s (expireDotWait l s)
  | clockTick : s.resetAsserted = false → Happens s (tick s)
  | gateRise (l : Lane) : Happens s (gateRises l s)
  | gateFall (l : Lane) (width : Nat) : Happens s (gateFalls l width s)
  | pulseBegin (l : Lane) : s.resetAsserted = false → Happens s (pulseBegins l s)
  | pulseSaturation (l : Lane) : s.resetAsserted = false → Happens s (pulseSaturates l s)
  | resetAssert : Happens s (holdReset s)
  | resetRelease (dual : Bool) : Happens s (releaseReset dual s)

theorem happens_of_whenLive {f : State → State} {s t : State} (h : whenLive f s = .next t)
    (live : s.resetAsserted = false → Happens s (f s)) : Happens s t := by
  unfold whenLive at h
  cases r : s.resetAsserted with
  | true => simp [r] at h; exact h ▸ .nothing
  | false => simp [r] at h; exact h ▸ live r

theorem happens_of_request {k : Kind} {p : Port} {body : List Octet} {s t : State}
    (h : request k (serve k) p body s = .next t) : Happens s t := by
  unfold request at h
  split at h
  · cases h
  · refine happens_of_whenLive h fun live => ?_
    split
    · rename_i r; exact .frame k p body live (receiving_of_receives r)
    · exact .nothing

theorem happens_of_completeFrame {p : Port} {kind : Octet} {body : List Octet} {s : State} (live : s.resetAsserted = false)
    (r : Receiving s p) : Happens s (keepInHand p (completeFrame p kind body s)) := by
  unfold completeFrame
  split
  · exact .formatInHand p kind live r
  · exact .frameInHand _ p body live r

theorem happens_of_clockEdge (p : Port) (sdi : Bool) {s : State} (live : s.resetAsserted = false) :
    Happens s (clockEdge p sdi s) := by
  unfold clockEdge
  split
  · rename_i octets bits start link
    have r : Receiving s p := ⟨octets, bits, start, link⟩
    split
    · exact .bitIn p _ _ live r
    · unfold appendOctet
      split
      · exact .bitIn p _ _ live r
      · exact .formatInHand p _ live r
      · exact happens_of_completeFrame live r
  · rename_i link
    exact .bitOut p _ _ _ _ live link
  · exact .nothing

theorem happens_of_selFall {p : Port} {s t : State} (h : execSelFall p s = .next t) : Happens s t := by
  unfold execSelFall at h
  injection h with h
  subst h
  split
  · exact .nothing
  · rename_i high
    replace high : s.ports[p].selLow = false := by simpa using high
    by_cases r : s.resetAsserted = true
    · simpa [r] using Happens.selFallPin p high (.inl r)
    · rw [if_neg (by simpa using r)]
      split
      · rename_i i
        replace i : s.link p = .idle := by simpa [State.link] using i
        have e : (s.setPort p { s.ports[p] with selLow := true }).setLink p
            (.receiving [] [] (s.setPort p { s.ports[p] with selLow := true }).clock) =
            s.setPort p { selLow := true, link := .receiving [] [] s.clock } := by
          simp [State.setLink, State.setPort]
        rw [e]
        exact .selFallOpens p high (by simpa using r) i
      · rename_i i
        exact .selFallPin p high (.inr (by simpa [State.link] using i))

theorem happens_of_selRise {p : Port} {s t : State} (h : execSelRise p s = .next t) : Happens s t := by
  unfold execSelRise at h
  injection h with h
  subst h
  split
  · exact .nothing
  · rename_i low
    replace low : s.ports[p].selLow = true := by simpa using low
    by_cases r : s.resetAsserted = true
    · simpa [r] using Happens.selRisePin p low r
    · rw [if_neg (by simpa using r)]
      exact .selRiseCloses p low (by simpa using r)

theorem happens_of_unknownKind {p : Port} {kind : Octet} {body : List Octet} {s t : State}
    (h : execUnknownKindFrame p kind body s = .next t) : Happens s t := by
  unfold execUnknownKindFrame at h
  split at h
  · cases h
  · refine happens_of_whenLive h fun live => ?_
    split
    · rename_i r; exact .format p kind live (receiving_of_receives r)
    · exact .nothing

theorem happens_of_badHeader {p : Port} {kind : Octet} {declared : Half} {s t : State}
    (h : execFormatAtHeader p kind declared s = .next t) : Happens s t := by
  unfold execFormatAtHeader at h
  split at h
  · cases h
  · refine happens_of_whenLive h fun live => ?_
    split
    · rename_i r; exact .format p kind live (receiving_of_receives r)
    · exact .nothing

/-- A command's outcome is one of the cases of `Happens`. -/
theorem happens_of_exec {c : Instr} {s t : State} (h : exec c s = .next t) : Happens s t := by
  have requests : ∀ k p body, exec (requestOf k p body) s = .next t → Happens s t := fun k p body e =>
    happens_of_request (by rw [← exec_requestOf]; exact e)
  cases c with
  | ident p b => exact requests .ident p b h
  | clockRead p b => exact requests .clockRead p b h
  | noticeTake p b => exact requests .noticeTake p b h
  | noticeEnd p b => exact requests .noticeEnd p b h
  | noticeMask p b => exact requests .noticeMask p b h
  | pause p b => exact requests .pause p b h
  | role p b => exact requests .role p b h
  | product p b => exact requests .product p b h
  | lane p b => exact requests .lane p b h
  | reach p b => exact requests .reach p b h
  | start p b => exact requests .start p b h
  | resume p b => exact requests .resume p b h
  | lineEnd p b => exact requests .lineEnd p b h
  | clear p b => exact requests .clear p b h
  | lineStatus p b => exact requests .lineStatus p b h
  | mapOpen p b => exact requests .mapOpen p b h
  | mapRows p b => exact requests .mapRows p b h
  | mapClose p b => exact requests .mapClose p b h
  | mapAbort p b => exact requests .mapAbort p b h
  | dieMark p b => exact requests .dieMark p b h
  | traceRead p b => exact requests .traceRead p b h
  | traceLevel p b => exact requests .traceLevel p b h
  | pair p b => exact requests .pair p b h
  | picked p b => exact requests .picked p b h
  | bonded p b => exact requests .bonded p b h
  | pickFail p b => exact requests .pickFail p b h
  | discard p b => exact requests .discard p b h
  | dot p b => exact requests .dot p b h
  | dotAbort p b => exact requests .dotAbort p b h
  | stripIn p b => exact requests .stripIn p b h
  | stripOut p b => exact requests .stripOut p b h
  | waferIn p b => exact requests .waferIn p b h
  | waferOut p b => exact requests .waferOut p b h
  | unknownKindFrame p kind b => exact happens_of_unknownKind h
  | formatAtHeader p kind declared => exact happens_of_badHeader h
  | selFall p => exact happens_of_selFall h
  | selRise p => exact happens_of_selRise h
  | frameIdleExpiry p => exact happens_of_whenLive h (.frameExpiry p)
  | resetAssert => injection h with h; exact h ▸ .resetAssert
  | resetRelease dual => injection h with h; exact h ▸ .resetRelease dual
  | clockTick => exact happens_of_whenLive h .clockTick
  | leaseExpiry t => exact happens_of_whenLive h (.leaseExpiry t)
  | dotDeadlineExpiry l => exact happens_of_whenLive h (.deadlineExpiry l)
  | pairWaitExpiry p => exact happens_of_whenLive h (.pairWaitExpiry p)
  | dotWaitExpiry l => exact happens_of_whenLive h (.dotWaitExpiry l)
  | measurementStart l => injection h with h; exact h ▸ .gateRise l
  | pulseInProgress l => exact happens_of_whenLive h (.pulseBegin l)
  | pulseSaturation l => exact happens_of_whenLive h (.pulseSaturation l)
  | gateFallingEdge l w => injection h with h; exact h ▸ .gateFall l w.toNat
  | sclkRisingEdge p sdi => exact happens_of_whenLive h (happens_of_clockEdge p sdi)

/-- A step's outcome is one of the cases of `Happens`, on the state with what is left of the queue. -/
theorem happens_of_step {s t : State} (h : step s = .next t) : ∃ rest, Happens { s with pending := rest } t := by
  unfold step at h
  split at h
  · rename_i empty
    refine ⟨s.pending, ?_⟩
    injection h with h
    subst h
    unfold idle
    split
    · exact .nothing
    · rename_i r; exact .ownWork (by simpa using r)
  · rename_i c rest _
    exact ⟨rest, happens_of_exec h⟩

/-- A property that the queue has no part in is kept by every step when it is kept by everything that can happen. -/
theorem step_keeps {I : State → Prop} (queue : ∀ s rest, I s → I { s with pending := rest })
    (keeps : ∀ s t, I s → Happens s t → I t) (s t : State) (h : I s) (e : step s = .next t) : I t := by
  obtain ⟨rest, happens⟩ := happens_of_step e
  exact keeps _ t (queue s rest h) happens

/-! ## A request that is taken -/

theorem bodyFits_of_lengthOk {k : Kind} {body : List Octet} (h : lengthOk k body = true) : bodyFits body = true := by
  have short : body.length ≤ Config.maxBody := by
    cases k <;> simp [lengthOk, Kind.fixedLength] at h <;> simp [h, Config.maxBody]
    all_goals omega
  simpa [bodyFits] using short

/-- R151, R153: a request that is taken is served with its port in HOLDING. -/
theorem exec_of_taken {k : Kind} {p : Port} {body : List Octet} {s : State} (h : Taken k p body s) :
    exec (requestOf k p body) s = .next (serve k p body (s.setLink p (.holding k))) := by
  obtain ⟨⟨live, receives⟩, length, permits⟩ := h
  simp [exec_requestOf, request, bodyFits_of_lengthOk length, whenLive, live, receives, frameCheck, length, permits]

/-- A request that is taken comes to what its owner makes of the state in which its port holds it. -/
theorem exec_of_served {k : Kind} {p : Port} {body : List Octet} {s t : State} (h : Taken k p body s)
    (served : serve k p body (s.setLink p (.holding k)) = t) : exec (requestOf k p body) s = .next t := by
  rw [exec_of_taken h, served]

/-- R154: the answer reaches the port that holds the request, whatever else the request has changed. -/
theorem answeredAt_reply {k : Kind} {p : Port} {s u : State}
    (h : u.ports[p] = (s.setLink p (.holding k)).ports[p]) (r : Response) :
    AnsweredAt p k r none s (reply p r u) := by
  have e : u.ports[p.val] = { s.ports[p.val] with link := .holding k } := by simpa using h
  have link : u.link p = .holding k := by simp [State.link, e]
  simp [AnsweredAt, reply, handOver_of_holding link, e]

/-- A request that changes no port of its own but by its answer. -/
theorem answersWith_reply {k : Kind} {p : Port} {parts : List Part} {s u : State}
    (h : OnlyChanges parts (s.setLink p (.holding k)) u) (n : Part.ports ∉ parts) (r : Response) :
    AnswersWith p k r parts s (reply p r u) := by
  have ports := h.ports_eq n
  refine ⟨answeredAt_reply (by simp [ports]) r, ?_, ?_⟩
  · exact kept_trans (kept_setLink p (.holding k) s) (kept_trans (kept_of_ports_eq ports _) (kept_handOver p r none u))
  · exact (((only_setLink s p (.holding k)).mono (by simp)).trans (h.mono fun _ m => List.mem_cons_of_mem _ m)).trans
      ((only_reply p r u).mono (by simp))

/-- A request that is refused, or that only reads, changes nothing but its port. -/
theorem answersWith_reply_held {k : Kind} {p : Port} {s : State} (r : Response) :
    AnswersWith p k r [] s (reply p r (s.setLink p (.holding k))) :=
  answersWith_reply (.refl [] _) (by simp) r

end Sys2Proof.Proofs
end

section
/-! PROOFS. What each request may change: one frame for each kind, so that a law is kept by every request that does not touch
what it speaks of. -/

namespace Sys2Proof.Proofs

open Sys2Proof Sys2Proof.Machine Sys2Proof.Safety

/-- A sequence of two operations changes no more than both may. -/
theorem only_reply_after {parts : List Part} {s u : State} (h : OnlyChanges parts s u) (m : Part.ports ∈ parts) (p : Port)
    (r : Response) : OnlyChanges parts s (reply p r u) :=
  h.trans ((only_reply p r u).mono (by simpa using m))

theorem only_reply_mem {parts : List Part} (m : Part.ports ∈ parts) (p : Port) (r : Response) (s : State) :
    OnlyChanges parts s (reply p r s) := only_reply_after (.refl parts s) m p r

/-- What a request of each kind may change. -/
def serveParts : Kind → List Part
  | .ident | .clockRead | .lineStatus => [.ports]
  | .noticeTake => [.ports, .notices, .gates]
  | .noticeEnd | .noticeMask => [.ports, .notices]
  | .pause => [.ports, .notices, .line, .waitList, .gates]
  | .role => [.ports, .notices, .roles, .gates]
  | .product => [.ports, .products]
  | .lane => [.ports, .lanes]
  | .reach => .reach :: passParts
  | .start => .line :: passParts
  | .resume => .line :: .gates :: passParts
  | .lineEnd => [.ports, .line, .notices]
  | .clear => .line :: .lastPick :: endParts
  | .mapOpen | .mapRows | .mapClose | .mapAbort => [.ports, .banks]
  | .dieMark => passParts
  | .traceRead => passParts
  | .traceLevel => [.ports, .trace, .notices]
  | .pair => passParts
  | .picked => [.ports, .banks, .notices, .pairings, .lastPick]
  | .bonded | .pickFail | .discard => endParts
  | .dot | .dotAbort => [.ports, .gates, .lanes]
  | .stripIn => [.ports, .lanes, .gates, .notices]
  | .stripOut => endParts
  | .waferIn => .lastPick :: passParts
  | .waferOut => [.ports, .banks, .notices]

/-! ## The notice requests and Line Control -/

theorem only_clearOrphans (l : Lane) (s : State) : OnlyChanges [.gates] s (clearOrphans l s) := only_setGate s l _

theorem only_takeHandOn (x : Notice) (r : Role) (s : State) : OnlyChanges [.gates] s (takeHandOn x r s) := by
  unfold takeHandOn
  split
  · exact only_clearOrphans _ s
  · exact .refl _ s

theorem only_serveNoticeTake (p : Port) (body : List Octet) (s : State) :
    OnlyChanges [.ports, .notices, .gates] s (serveNoticeTake p body s) := by
  unfold serveNoticeTake
  split
  · exact only_reply_mem (by simp) p _ s
  · split
    · exact only_reply_mem (by simp) p _ s
    · exact only_reply_after (((only_setNotice s p _).mono (by simp)).trans ((only_takeHandOn _ _ _).mono (by simp)))
        (by simp) p _

theorem only_serveNoticeEnd (p : Port) (body : List Octet) (s : State) :
    OnlyChanges [.ports, .notices] s (serveNoticeEnd p body s) := by
  unfold serveNoticeEnd
  split
  · exact only_reply_mem (by simp) p _ s
  · rename_i k _
    split
    · exact only_reply_mem (by simp) p _ s
    · have finished := (only_setNotice s p ((s.notice p).finish k)).mono (b := [.ports, .notices]) (by simp)
      refine only_reply_after (finished.trans ?_) (by simp) p _
      split
      · exact (only_reevalTraceLevel _).mono (by simp)
      · exact .refl _ _

theorem only_answerAllEntries (st : Status) (s : State) : OnlyChanges [.waitList, .ports] s (answerAllEntries st s) := by
  have fold : OnlyChanges [.waitList, .ports] s (s.waitList.foldl (fun s e => reply e.port (resp st []) s) s) :=
    OnlyChanges.foldl (fun s (e : WaitEntry) => (only_reply e.port _ s).mono (by simp)) _ s
  refine fold.trans ?_
  simp [answerAllEntries, OnlyChanges, Part.list, Part.same]

theorem only_setLine (s : State) (x : LineState) : OnlyChanges [.line] s { s with line := x } := by
  simp [OnlyChanges, Part.list, Part.same]

theorem only_stopLine (p : Port) (s : State) :
    OnlyChanges [.notices, .line, .waitList, .gates, .ports] s (stopLine p s) := by
  have waits := (only_answerAllEntries .paused { s with line := .paused }).mono
    (b := [.notices, .line, .waitList, .gates, .ports]) (by simp)
  have dots : ∀ l u, OnlyChanges [.notices, .line, .waitList, .gates, .ports] u (answerWaiter l (resp .paused []) u) :=
    fun l u => (only_answerWaiter l _ u).mono (by simp)
  have told : ∀ u, OnlyChanges [.notices, .line, .waitList, .gates, .ports] u (raiseLineState .pause u) :=
    fun u => (only_raiseLineState _ u).mono (by simp)
  have h := ((((only_setLine s .paused).mono (by simp)).trans waits).trans ((dots .A _).trans (dots .B _))).trans (told _)
  unfold stopLine
  dsimp only
  split
  · exact h
  · exact h.trans ((only_raiseAt _ _ _).mono (by simp))

theorem only_servePause (p : Port) (body : List Octet) (s : State) :
    OnlyChanges [.ports, .notices, .line, .waitList, .gates] s (servePause p body s) := by
  unfold servePause
  refine only_reply_after ?_ (by simp) p _
  split
  · exact (only_stopLine p s).mono (by simp)
  · exact .refl _ s

theorem only_resetOrphans (before after : Role) (s : State) : OnlyChanges [.gates] s (resetOrphans before after s) := by
  have one : ∀ (l : Lane) (u : State),
      OnlyChanges [.gates] u (if before = .dispenser l || after = .dispenser l then clearOrphans l u else u) := by
    intro l u
    split
    · exact only_clearOrphans l u
    · exact .refl _ u
  exact (one .A s).trans (one .B _)

theorem only_assignRole (q : Port) (r : Role) (level : Nat) (s : State) :
    OnlyChanges [.notices, .roles, .gates] s (assignRole q r level s) := by
  have role : OnlyChanges [.notices, .roles, .gates] s { s with roles := s.roles.set q.val ⟨r, level⟩ q.isLt } := by
    simp [OnlyChanges, Part.list, Part.same]
  exact (role.trans ((only_setNotice _ q .blank).mono (by simp))).trans ((only_resetOrphans _ _ _).mono (by simp))

theorem only_serveRole (p : Port) (body : List Octet) (s : State) :
    OnlyChanges [.ports, .notices, .roles, .gates] s (serveRole p body s) := by
  have refused : ∀ r, OnlyChanges [.ports, .notices, .roles, .gates] s (reply p r s) :=
    fun r => only_reply_mem (by simp) p r s
  have accepted : ∀ q r level x,
      OnlyChanges [.ports, .notices, .roles, .gates] s (reply p x (assignRole q r level s)) :=
    fun q r level x => only_reply_after ((only_assignRole q r level s).mono (by simp)) (by simp) p x
  unfold serveRole
  dsimp only
  split
  · split
    · exact refused _
    · split
      · exact refused _
      · split
        · split
          · exact refused _
          · exact accepted _ _ _ _
        · split
          · exact accepted _ _ _ _
          · split
            · exact refused _
            · exact accepted _ _ _ _
  · exact refused _

theorem only_serveProduct (p : Port) (body : List Octet) (s : State) :
    OnlyChanges [.ports, .products] s (serveProduct p body s) := by
  have refused : ∀ r, OnlyChanges [.ports, .products] s (reply p r s) := fun r => only_reply_mem (by simp) p r s
  unfold serveProduct
  split
  · exact refused _
  · split
    · exact refused _
    · split
      · exact refused _
      · exact only_reply_after (by simp [OnlyChanges, Part.list, Part.same]) (by simp) p _

theorem only_serveLane (p : Port) (body : List Octet) (s : State) : OnlyChanges [.ports, .lanes] s (serveLane p body s) := by
  have refused : ∀ r, OnlyChanges [.ports, .lanes] s (reply p r s) := fun r => only_reply_mem (by simp) p r s
  unfold serveLane
  dsimp only
  split
  · exact refused _
  · split
    · exact refused _
    · split
      · exact refused _
      · exact only_reply_after ((only_setLane s _ _).mono (by simp)) (by simp) p _

theorem only_serveReach (p : Port) (body : List Octet) (s : State) :
    OnlyChanges (.reach :: passParts) s (serveReach p body s) := by
  have m : Part.ports ∈ Part.reach :: passParts := by simp [passParts]
  unfold serveReach
  split
  · split
    · exact only_reply_mem m p _ s
    · rename_i q r _ _ _
      have set : OnlyChanges (.reach :: passParts) s { s with reach := s.reach.set q.val r q.isLt } := by
        simp [OnlyChanges, passParts, Part.list, Part.same]
      refine only_reply_after ?_ m p _
      split
      · exact set.trans ((only_arbiterPass _).mono fun _ m => List.mem_cons_of_mem _ m)
      · exact set
  · exact only_reply_mem m p _ s

theorem only_pass_after {parts : List Part} {s u : State} (h : OnlyChanges parts s u) (m : ∀ part ∈ passParts, part ∈ parts) :
    OnlyChanges parts s (arbiterPass u) := h.trans ((only_arbiterPass u).mono m)

theorem only_serveStart (p : Port) (body : List Octet) (s : State) :
    OnlyChanges (.line :: passParts) s (serveStart p body s) := by
  have m : Part.ports ∈ Part.line :: passParts := by simp [passParts]
  have runs : OnlyChanges (.line :: passParts) s (raiseLineState .start { s with line := .run }) :=
    ((only_setLine s .run).mono (by simp)).trans ((only_raiseLineState _ _).mono (by simp [passParts]))
  unfold serveStart
  split
  · exact only_reply_mem m p _ s
  · split
    · exact only_reply_mem m p _ s
    · exact only_reply_after (only_pass_after runs fun _ m => List.mem_cons_of_mem _ m) m p _

theorem only_serveResume (p : Port) (body : List Octet) (s : State) :
    OnlyChanges (.line :: .gates :: passParts) s (serveResume p body s) := by
  have m : Part.ports ∈ Part.line :: Part.gates :: passParts := by simp [passParts]
  have runs : OnlyChanges (.line :: .gates :: passParts) s (raiseLineState .resume { s with line := .run }) :=
    ((only_setLine s .run).mono (by simp)).trans ((only_raiseLineState _ _).mono (by simp [passParts]))
  have dots : ∀ l u, OnlyChanges (.line :: .gates :: passParts) u (reexamine l u) :=
    fun l u => (only_reexamine l u).mono (by simp [passParts])
  unfold serveResume
  split
  · exact only_reply_mem m p _ s
  · exact only_reply_after ((only_pass_after runs fun _ m => by simp [m]).trans ((dots .A _).trans (dots .B _))) m p _

theorem only_serveLineEnd (p : Port) (body : List Octet) (s : State) :
    OnlyChanges [.ports, .line, .notices] s (serveLineEnd p body s) := by
  unfold serveLineEnd
  split
  · exact only_reply_mem (by simp) p _ s
  · split
    · exact only_reply_mem (by simp) p _ s
    · exact only_reply_after (((only_setLine s .setup).mono (by simp)).trans ((only_raiseLineState _ _).mono (by simp)))
        (by simp) p _

/-! ## The line clear -/

theorem only_clearPairings (prs : List Pairing) (s : State) : OnlyChanges endParts s (clearPairings prs s) := by
  induction prs generalizing s with
  | nil => exact .refl _ s
  | cons pr prs ih => exact (only_endPairing pr _ s).trans (ih _)

theorem only_clearGate (l : Lane) (s : State) : OnlyChanges [.gates, .ports] s (clearGate l s) :=
  (only_answerWaiter l _ s).trans ((only_dropAssignment l _).mono (by simp))

theorem only_clearLane (l : Lane) (s : State) : OnlyChanges [.lanes] s (clearLane l s) := only_setLane s l _

theorem only_clearBank (b : BankId) (s : State) : OnlyChanges [.banks] s (clearBank b s) := by
  unfold clearBank
  split
  · exact only_setBank s b _
  · exact .refl _ s

theorem only_resetLastPicks (s : State) : OnlyChanges [.lastPick] s (resetLastPicks s) := by
  simp [resetLastPicks, OnlyChanges, Part.list, Part.same]

theorem only_lineClear (s : State) : OnlyChanges (.line :: .lastPick :: endParts) s (lineClear s) := by
  have line := (only_setLine s .setup).mono (b := .line :: .lastPick :: endParts) (by simp)
  have waits : ∀ u, OnlyChanges (.line :: .lastPick :: endParts) u (answerAllEntries .cleared u) :=
    fun u => (only_answerAllEntries _ u).mono (by simp [endParts, passParts])
  have ends : ∀ prs u, OnlyChanges (.line :: .lastPick :: endParts) u (clearPairings prs u) :=
    fun prs u => (only_clearPairings prs u).mono fun _ m => by simp [m]
  have gates : ∀ l u, OnlyChanges (.line :: .lastPick :: endParts) u (clearGate l u) :=
    fun l u => (only_clearGate l u).mono (by simp [endParts, passParts])
  have lanes : ∀ l u, OnlyChanges (.line :: .lastPick :: endParts) u (clearLane l u) :=
    fun l u => (only_clearLane l u).mono (by simp [endParts, passParts])
  have banks : ∀ b u, OnlyChanges (.line :: .lastPick :: endParts) u (clearBank b u) :=
    fun b u => (only_clearBank b u).mono (by simp [endParts, passParts])
  have picks : ∀ u, OnlyChanges (.line :: .lastPick :: endParts) u (resetLastPicks u) :=
    fun u => (only_resetLastPicks u).mono (by simp)
  have told : ∀ u, OnlyChanges (.line :: .lastPick :: endParts) u (raiseLineState .clear u) :=
    fun u => (only_raiseLineState _ u).mono (by simp [endParts, passParts])
  exact (((line.trans ((waits _).trans (ends _ _))).trans ((gates .A _).trans (gates .B _))).trans
    ((lanes .A _).trans (lanes .B _))).trans (((banks .b0 _).trans (banks .b1 _)).trans ((picks _).trans (told _)))

theorem only_serveClear (p : Port) (body : List Octet) (s : State) :
    OnlyChanges (.line :: .lastPick :: endParts) s (serveClear p body s) :=
  only_reply_after (only_lineClear s) (by simp [endParts, passParts]) p _

/-! ## Maps, die and wafers -/

theorem only_serveMapOpen (p : Port) (body : List Octet) (s : State) : OnlyChanges [.ports, .banks] s (serveMapOpen p body s) := by
  have refused : ∀ r, OnlyChanges [.ports, .banks] s (reply p r s) := fun r => only_reply_mem (by simp) p r s
  unfold serveMapOpen
  split
  · exact refused _
  · split
    · exact refused _
    · split
      · exact refused _
      · exact only_reply_after ((only_setBank s _ _).mono (by simp)) (by simp) p _

theorem only_serveMapRows (p : Port) (body : List Octet) (s : State) : OnlyChanges [.ports, .banks] s (serveMapRows p body s) := by
  have refused : ∀ r, OnlyChanges [.ports, .banks] s (reply p r s) := fun r => only_reply_mem (by simp) p r s
  unfold serveMapRows
  dsimp only
  split
  · exact refused _
  · split
    · exact refused _
    · exact only_reply_after ((only_setBank s _ _).mono (by simp)) (by simp) p _

theorem only_serveMapClose (p : Port) (body : List Octet) (s : State) :
    OnlyChanges [.ports, .banks] s (serveMapClose p body s) := by
  unfold serveMapClose
  split
  · exact only_reply_mem (by simp) p _ s
  · dsimp only
    split
    · exact only_reply_after ((only_setBank s _ _).mono (by simp)) (by simp) p _
    · exact only_reply_after ((only_setBank s _ _).mono (by simp)) (by simp) p _

theorem only_serveMapAbort (p : Port) (body : List Octet) (s : State) :
    OnlyChanges [.ports, .banks] s (serveMapAbort p body s) := by
  unfold serveMapAbort
  split
  · exact only_reply_mem (by simp) p _ s
  · exact only_reply_after ((only_setBank s _ _).mono (by simp)) (by simp) p _

theorem only_serveDieMark (p : Port) (body : List Octet) (s : State) : OnlyChanges passParts s (serveDieMark p body s) := by
  have m : Part.ports ∈ passParts := by simp [passParts]
  unfold serveDieMark
  dsimp only
  split
  · split
    · exact only_reply_mem m p _ s
    · split
      · exact only_reply_mem m p _ s
      · split
        · exact only_reply_mem m p _ s
        · split
          · exact only_reply_mem m p _ s
          · exact only_reply_after (((only_changeDie _ _ _ s).mono (by simp [passParts])).trans (only_arbiterPasses _ _)) m p _
  · exact only_reply_mem m p _ s

theorem only_activate (b : BankId) (s : State) : OnlyChanges [.banks, .lastPick, .notices] s (activate b s) := by
  have h := ((only_setBank s b { s.bank b with state := .active }).mono (b := [.banks, .lastPick, .notices]) (by simp)).trans
    ((only_resetLastPicks _).mono (by simp))
  unfold activate
  dsimp only
  split
  · exact h.trans ((only_raiseTo _ _ _).mono (by simp))
  · exact h

theorem only_serveWaferIn (p : Port) (body : List Octet) (s : State) :
    OnlyChanges (.lastPick :: passParts) s (serveWaferIn p body s) := by
  have m : Part.ports ∈ Part.lastPick :: passParts := by simp [passParts]
  unfold serveWaferIn
  dsimp only
  split
  · exact only_reply_mem m p _ s
  · split
    · exact only_reply_mem m p _ s
    · split
      · exact only_reply_mem m p _ s
      · exact only_reply_after (only_pass_after ((only_activate _ s).mono (by simp [passParts]))
          fun _ m => List.mem_cons_of_mem _ m) m p _

theorem only_serveWaferOut (p : Port) (body : List Octet) (s : State) :
    OnlyChanges [.ports, .banks, .notices] s (serveWaferOut p body s) := by
  unfold serveWaferOut
  split
  · exact only_reply_mem (by simp) p _ s
  · exact only_reply_after (((only_setBank s _ _).mono (by simp)).trans ((only_retireIfClear _ _).mono (by simp))) (by simp) p _

/-! ## The trace requests -/

theorem only_dropRecords (n : Nat) (s : State) : OnlyChanges [.trace, .notices] s (dropRecords n s) := by
  refine OnlyChanges.trans ?_ ((only_reevalTraceLevel _).mono (by simp))
  simp [OnlyChanges, Part.list, Part.same]

theorem only_serveTraceRead (p : Port) (body : List Octet) (s : State) : OnlyChanges passParts s (serveTraceRead p body s) := by
  have drop := fun n => (only_dropRecords n s).mono (b := passParts) (by simp [passParts])
  unfold serveTraceRead
  dsimp only
  refine only_reply_after ?_ (by simp [passParts]) p _
  split
  · exact drop _
  · exact (drop _).trans (only_arbiterPass _)

theorem only_serveTraceLevel (p : Port) (body : List Octet) (s : State) :
    OnlyChanges [.ports, .trace, .notices] s (serveTraceLevel p body s) := by
  refine only_reply_after (OnlyChanges.trans ?_ ((only_reevalTraceLevel _).mono (by simp))) (by simp) p _
  simp [OnlyChanges, Part.list, Part.same]

/-! ## PAIR and the head reports -/

theorem only_placePair (e : WaitEntry) (s : State) : OnlyChanges passParts s (placePair e s) := by
  have placed : OnlyChanges passParts s { s with waitList := insertEntry e s.waitList } := by
    simp [OnlyChanges, passParts, Part.list, Part.same]
  have h := placed.trans (only_arbiterPass _)
  unfold placePair
  dsimp only
  split
  · exact h.trans ((only_answerEntry _ _).mono (by simp [passParts]))
  · exact h

theorem only_servePair (p : Port) (body : List Octet) (s : State) : OnlyChanges passParts s (servePair p body s) := by
  have refused : ∀ r, OnlyChanges passParts s (reply p r s) := fun r => only_reply_mem (by simp [passParts]) p r s
  unfold servePair
  split
  · exact refused _
  · split
    · exact refused _
    · split
      · exact refused _
      · split
        · exact refused _
        · exact only_placePair _ s

/-- A head report that its ticket check refuses changes its port alone. -/
theorem only_withTicket {parts : List Part} (m : Part.ports ∈ parts) (p : Port) (t : Ticket) {f : Pairing → State → State}
    (s : State) (h : ∀ pr, OnlyChanges parts s (f pr s)) : OnlyChanges parts s (withTicket p t f s) := by
  unfold withTicket
  split
  · exact h _
  · exact only_reply_mem m p _ s
  · exact only_reply_mem m p _ s
  · exact only_reply_mem m p _ s

theorem only_takePick (pr : Pairing) (s : State) : OnlyChanges [.banks, .notices, .pairings, .lastPick] s (takePick pr s) := by
  refine ((only_changeDie pr.bank (pr.dieIndex s) ((pr.dieRecord s).to .picked) s).mono (by simp)).trans ?_
  simp [takePick, OnlyChanges, Part.list, Part.same]

theorem only_servePicked (p : Port) (body : List Octet) (s : State) :
    OnlyChanges [.ports, .banks, .notices, .pairings, .lastPick] s (servePicked p body s) := by
  refine only_withTicket (by simp) p _ s fun pr => ?_
  split
  · exact only_reply_after ((only_takePick pr s).mono (by simp)) (by simp) p _
  · exact only_reply_mem (by simp) p _ s

theorem only_serveBonded (p : Port) (body : List Octet) (s : State) : OnlyChanges endParts s (serveBonded p body s) := by
  have m : Part.ports ∈ endParts := by simp [endParts, passParts]
  refine only_withTicket m p _ s fun pr => ?_
  split
  · exact only_reply_mem m p _ s
  · exact only_reply_after (only_endAndPass pr _ s) m p _

theorem only_servePickFail (p : Port) (body : List Octet) (s : State) : OnlyChanges endParts s (servePickFail p body s) := by
  have m : Part.ports ∈ endParts := by simp [endParts, passParts]
  refine only_withTicket m p _ s fun pr => ?_
  split
  · exact only_reply_mem m p _ s
  · exact only_reply_mem m p _ s
  · exact only_reply_after (only_endAndPass pr _ s) m p _

theorem only_serveDiscard (p : Port) (body : List Octet) (s : State) : OnlyChanges endParts s (serveDiscard p body s) := by
  have m : Part.ports ∈ endParts := by simp [endParts, passParts]
  refine only_withTicket m p _ s fun pr => ?_
  split
  · exact only_reply_mem m p _ s
  · exact only_reply_after (only_endAndPass pr _ s) m p _

/-! ## DOT and the strips -/

theorem only_tryDot (l : Lane) (p : Port) (waitMs : Nat) (s : State) :
    OnlyChanges [.ports, .gates, .lanes] s (tryDot l p waitMs s) := by
  unfold tryDot
  split
  · exact (only_grantDot l p _ _ s).mono (by simp)
  · split
    · exact only_reply_mem (by simp) p _ s
    · exact (only_setGate s l _).mono (by simp)

theorem only_serveDot (p : Port) (body : List Octet) (s : State) :
    OnlyChanges [.ports, .gates, .lanes] s (serveDot p body s) := by
  have refused : ∀ r, OnlyChanges [.ports, .gates, .lanes] s (reply p r s) := fun r => only_reply_mem (by simp) p r s
  unfold serveDot
  split
  · exact .refl _ s
  · split
    · exact refused _
    · split
      · exact refused _
      · split
        · exact refused _
        · exact only_tryDot _ p _ s

theorem only_serveDotAbort (p : Port) (body : List Octet) (s : State) :
    OnlyChanges [.ports, .gates, .lanes] s (serveDotAbort p body s) := by
  have refused : ∀ r, OnlyChanges [.ports, .gates, .lanes] s (reply p r s) := fun r => only_reply_mem (by simp) p r s
  unfold serveDotAbort
  split
  · exact .refl _ s
  · split
    · exact refused _
    · split
      · exact refused _
      · exact only_reply_after ((only_takeBackSite _ _ s).mono (by simp)) (by simp) p _

theorem only_serveStripIn (p : Port) (body : List Octet) (s : State) :
    OnlyChanges [.ports, .lanes, .gates, .notices] s (serveStripIn p body s) := by
  have refused : ∀ r, OnlyChanges [.ports, .lanes, .gates, .notices] s (reply p r s) :=
    fun r => only_reply_mem (by simp) p r s
  unfold serveStripIn
  split
  · exact refused _
  · rename_i l _
    split
    · exact refused _
    · split
      · split
        · exact refused _
        · refine only_reply_after (OnlyChanges.trans ?_ ((only_reexamine l _).mono (by simp))) (by simp) p _
          exact OnlyChanges.trans (t := enterStrip l _ s) ((only_setLane s l _).mono (by simp))
            ((only_settlementCheck l _ _).mono (by simp))
      · exact refused _

theorem only_revokeSites (sites : List Site) (s : State) : OnlyChanges endParts s (revokeSites sites s).2 := by
  have one : ∀ (x : Site) (acc : Nat × State), OnlyChanges endParts acc.2 (revokeSite x acc).2 := by
    intro x acc
    unfold revokeSite
    split
    · split
      · exact only_endPairing _ _ _
      · exact .refl _ _
    · exact .refl _ _
  have fold : ∀ acc : Nat × State, OnlyChanges endParts acc.2 (sites.foldl (fun acc x => revokeSite x acc) acc).2 := by
    induction sites with
    | nil => exact fun acc => .refl _ _
    | cons x sites ih => exact fun acc => (one x acc).trans (ih _)
  exact fold (0, s)

theorem only_endDepartingDot (l : Lane) (st : Strip) (s : State) :
    OnlyChanges [.gates, .notices] s (endDepartingDot l st s) := by
  unfold endDepartingDot
  split
  · exact .refl _ s
  · split
    · exact ((only_dropAssignment l s).mono (by simp)).trans ((only_raiseTo _ _ _).mono (by simp))
    · exact .refl _ s

theorem only_removeOldest (l : Lane) (s : State) : OnlyChanges [.lanes] s (removeOldest l s) := by
  unfold removeOldest
  split
  · exact .refl _ s
  · exact only_setLane s l _

theorem only_departStrip (l : Lane) (st : Strip) (s : State) : OnlyChanges endParts s (departStrip l st s) := by
  have dot := fun u => (only_endDepartingDot l st u).mono (b := endParts) (by simp [endParts, passParts])
  have gone := fun u => (only_removeOldest l u).mono (b := endParts) (by simp [endParts, passParts])
  have dots := fun u => (only_reexamine l u).mono (b := endParts) (by simp [endParts, passParts])
  have told := fun u => (only_settlementCheckOldest l u).mono (b := endParts) (by simp [endParts, passParts])
  exact (((only_revokeSites st.sites s).trans (dot _)).trans ((gone _).trans (dots _))).trans
    ((told _).trans ((only_arbiterPasses _ _).mono (by simp [endParts, passParts])))

theorem only_serveStripOut (p : Port) (body : List Octet) (s : State) : OnlyChanges endParts s (serveStripOut p body s) := by
  have m : Part.ports ∈ endParts := by simp [endParts, passParts]
  unfold serveStripOut
  split
  · exact only_reply_mem m p _ s
  · split
    · exact only_reply_mem m p _ s
    · exact only_reply_after (only_departStrip _ _ s) m p _

/-! ## Every request -/

/-- A request of a kind changes no more than `serveParts` names. -/
theorem only_serve (k : Kind) (p : Port) (body : List Octet) (s : State) :
    OnlyChanges (serveParts k) s (serve k p body s) := by
  cases k with
  | ident => exact only_reply p _ s
  | clockRead => exact only_reply p _ s
  | lineStatus => exact only_reply p _ s
  | noticeTake => exact only_serveNoticeTake p body s
  | noticeEnd => exact only_serveNoticeEnd p body s
  | noticeMask => exact only_reply_after ((only_setNotice s p _).mono (by simp [serveParts])) (by simp [serveParts]) p _
  | pause => exact only_servePause p body s
  | role => exact only_serveRole p body s
  | product => exact only_serveProduct p body s
  | lane => exact only_serveLane p body s
  | reach => exact only_serveReach p body s
  | start => exact only_serveStart p body s
  | resume => exact only_serveResume p body s
  | lineEnd => exact only_serveLineEnd p body s
  | clear => exact only_serveClear p body s
  | mapOpen => exact only_serveMapOpen p body s
  | mapRows => exact only_serveMapRows p body s
  | mapClose => exact only_serveMapClose p body s
  | mapAbort => exact only_serveMapAbort p body s
  | dieMark => exact only_serveDieMark p body s
  | traceRead => exact only_serveTraceRead p body s
  | traceLevel => exact only_serveTraceLevel p body s
  | pair => exact only_servePair p body s
  | picked => exact only_servePicked p body s
  | bonded => exact only_serveBonded p body s
  | pickFail => exact only_servePickFail p body s
  | discard => exact only_serveDiscard p body s
  | dot => exact only_serveDot p body s
  | dotAbort => exact only_serveDotAbort p body s
  | stripIn => exact only_serveStripIn p body s
  | stripOut => exact only_serveStripOut p body s
  | waferIn => exact only_serveWaferIn p body s
  | waferOut => exact only_serveWaferOut p body s

end Sys2Proof.Proofs
end

section
/-! PROOFS. Map banks: what each operation on a bank leaves of its die table, its AVAILABLE count and its references. -/

namespace Sys2Proof.Proofs

open Sys2Proof Sys2Proof.Machine Sys2Proof.Safety

/-! ## The AVAILABLE count of a die table (R5) -/

/-- How many die of a table are AVAILABLE. -/
def availableIn (t : List (Nat × DieRecord)) : Nat := (t.filter (fun e => e.2.isAvailable)).length

theorem availableIn_cons (e : Nat × DieRecord) (t : List (Nat × DieRecord)) :
    availableIn (e :: t) = (if e.2.isAvailable then 1 else 0) + availableIn t := by
  unfold availableIn
  by_cases h : e.2.isAvailable = true
  · simp [h]; omega
  · simp [h]

/-- An AVAILABLE die is counted. -/
theorem availableIn_pos {t : List (Nat × DieRecord)} {i : Nat} (h : (dieAt t i).isAvailable = true) : 0 < availableIn t := by
  induction t with
  | nil => simp [dieAt, DieRecord.blank, DieRecord.isAvailable] at h
  | cons e t ih =>
    rw [availableIn_cons]
    simp only [dieAt] at h
    split at h
    · simp [h]
    · have := ih h; omega

theorem recount_add (c n : Nat) (was now : Bool) (h : was = true → 0 < n) :
    recount (c + n) was now = c + recount n was now := by
  unfold recount
  cases was with
  | false => cases now <;> simp [Nat.add_assoc]
  | true =>
    have := h rfl
    cases now
    · simp; omega
    · simp

theorem recount_self (n : Nat) (b : Bool) : recount n b b = n := by simp [recount]

/-- A write of a die record changes the number of AVAILABLE die as R5 counts it. -/
theorem availableIn_putDie {t : List (Nat × DieRecord)} (h : dieTableWf t) (i : Nat) (r : DieRecord) :
    availableIn (putDie t i r) = recount (availableIn t) (dieAt t i).isAvailable r.isAvailable := by
  have blank : DieRecord.blank.isAvailable = false := rfl
  induction t with
  | nil => by_cases b : r = .blank <;> cases a : r.isAvailable <;> simp_all [putDie, dieAt, availableIn, recount]
  | cons e t ih =>
    obtain ⟨k, x⟩ := e
    have hp := List.pairwise_cons.1 h.1
    have rest := ih ⟨hp.2, fun e m => h.2 e (List.mem_cons_of_mem _ m)⟩
    rcases Nat.lt_trichotomy i k with lt | rfl | gt
    · have unlisted : dieAt ((k, x) :: t) i = .blank :=
        dieAt_of_lt (by intro e m; rcases List.mem_cons.1 m with rfl | m; exacts [lt, lt.trans (hp.1 e m)])
      rw [unlisted, blank]
      by_cases b : r = .blank
      · simp [putDie, lt, b, blank, recount]
      · simp only [putDie, if_pos lt, if_neg b, availableIn_cons, recount]
        simp
        omega
    · have here : dieAt ((i, x) :: t) i = x := by simp [dieAt]
      rw [here]
      by_cases b : r = .blank
      · simp only [putDie, if_neg (Nat.lt_irrefl i), if_true, availableIn_cons, b, blank, recount]
        split <;> simp
      · simp only [putDie, if_neg (Nat.lt_irrefl i), if_neg b, if_true, availableIn_cons, recount]
        split <;> split <;> omega
    · have there : dieAt ((k, x) :: t) i = dieAt t i := by simp [dieAt, Nat.ne_of_gt gt]
      rw [there]
      simp only [putDie, if_neg (Nat.not_lt.2 gt.le), if_neg (Nat.ne_of_gt gt), availableIn_cons, rest]
      exact (recount_add _ _ _ _ availableIn_pos).symm

/-! ## Banks -/

theorem mem_bothBanks (b : BankId) : b ∈ bothBanks := by cases b <;> decide

theorem mem_bothLanes (l : Lane) : l ∈ bothLanes := by cases l <;> decide

@[simp] theorem withDie_state (b : MapBank) (i : Nat) (r : DieRecord) : (b.withDie i r).state = b.state := rfl
@[simp] theorem withDie_refs (b : MapBank) (i : Nat) (r : DieRecord) : (b.withDie i r).refs = b.refs := rfl
@[simp] theorem withDie_waferId (b : MapBank) (i : Nat) (r : DieRecord) : (b.withDie i r).waferId = b.waferId := rfl
@[simp] theorem withDie_cols (b : MapBank) (i : Nat) (r : DieRecord) : (b.withDie i r).cols = b.cols := rfl
@[simp] theorem withDie_rows (b : MapBank) (i : Nat) (r : DieRecord) : (b.withDie i r).rows = b.rows := rfl
@[simp] theorem withDie_dies (b : MapBank) (i : Nat) (r : DieRecord) : (b.withDie i r).dies = putDie b.dies i r := rfl

/-- The die tables and the counts of the two banks are what they stand for. -/
def DieLaws (s : State) : Prop := ∀ b : BankId, DieCountLaw (s.bank b)

/-- The references of the banks are the pairings in flight on their die, each of them on an ACTIVE or RETIRING bank. -/
def RefLaw (s : State) : Prop :=
  (∀ b : BankId, (s.bank b).refs = (s.pairings.filter (fun pr => pr.bank == b)).length) ∧
    ∀ pr ∈ s.pairings, (s.bank pr.bank).onTable = true

/-- A RETIRING bank has a pairing in flight on it (R14). -/
def RetiringLaw (s : State) : Prop := ∀ b : BankId, (s.bank b).state = .retiring → 0 < (s.bank b).refs

/-- The laws of the map banks but for R14, which the common end of a pairing restores last. -/
structure MapBase (s : State) : Prop where
  states : BankLaw s
  dies : DieLaws s
  refs : RefLaw s

theorem mapInv_iff (s : State) : MapInv s ↔ MapBase s ∧ RetiringLaw s := by
  constructor
  · rintro ⟨states, die0, die1, references, onTable⟩
    refine ⟨⟨states, fun b => ?_, fun b => (references b (mem_bothBanks b)).1, onTable⟩,
      fun b => (references b (mem_bothBanks b)).2⟩
    cases b
    · exact die0
    · exact die1
  · rintro ⟨⟨states, dies, refs, onTable⟩, retiring⟩
    exact ⟨states, dies .b0, dies .b1, fun b _ => ⟨refs b, retiring b⟩, onTable⟩

theorem bank_eq_of_banks {s t : State} (h : t.banks = s.banks) (b : BankId) : t.bank b = s.bank b := by
  simp only [State.bank, h]

/-- R1: which banks are LOADING, ACTIVE or RETIRING says whether the law of the bank states holds. -/
theorem bankLaw_of_states {s t : State} (h : ∀ b, (t.bank b).state = (s.bank b).state) (k : BankLaw s) : BankLaw t := by
  have h0 : t.banks.b0.state = s.banks.b0.state := h .b0
  have h1 : t.banks.b1.state = s.banks.b1.state := h .b1
  simpa only [BankLaw, MapBank.onTable, h0, h1] using k

theorem onTable_of_state {a b : MapBank} (h : a.state = b.state) : a.onTable = b.onTable := by
  simp only [MapBank.onTable, h]

theorem mapBase_of_eq {s t : State} (hb : t.banks = s.banks) (hp : t.pairings = s.pairings) (h : MapBase s) : MapBase t := by
  have bank := bank_eq_of_banks hb
  refine ⟨bankLaw_of_states (fun b => by rw [bank]) h.states, fun b => bank b ▸ h.dies b, fun b => ?_, fun pr m => ?_⟩
  · rw [bank, hp]; exact h.refs.1 b
  · rw [bank]; exact h.refs.2 pr (hp ▸ m)

theorem retiringLaw_of_eq {s t : State} (hb : t.banks = s.banks) (h : RetiringLaw s) : RetiringLaw t := by
  intro b
  rw [bank_eq_of_banks hb]
  exact h b

/-- The laws of the map banks speak of the banks and the pairings alone. -/
theorem mapInv_of_eq {s t : State} (hb : t.banks = s.banks) (hp : t.pairings = s.pairings) (h : MapInv s) : MapInv t := by
  rw [mapInv_iff] at h ⊢
  exact ⟨mapBase_of_eq hb hp h.1, retiringLaw_of_eq hb h.2⟩

theorem mapInv_of_only {parts : List Part} {s t : State} (o : OnlyChanges parts s t) (nb : Part.banks ∉ parts)
    (np : Part.pairings ∉ parts) (h : MapInv s) : MapInv t := mapInv_of_eq (o.banks_eq nb) (o.pairings_eq np) h

theorem onTable_of_active {b : MapBank} (h : b.state = .active) : b.onTable = true := by simp [MapBank.onTable, h]

theorem state_ne_empty_of_onTable {b : MapBank} (h : b.onTable = true) : b.state ≠ .empty := by
  intro e
  simp [MapBank.onTable, e] at h

/-- R4: a bank that is neither ACTIVE nor RETIRING has no pairing in flight on it. -/
theorem no_pairing_of_not_onTable {s : State} (h : RefLaw s) {b : BankId} (n : (s.bank b).onTable = false) :
    s.pairings.filter (fun pr => pr.bank == b) = [] := by
  rw [List.filter_eq_nil_iff]
  intro pr m e
  have on := h.2 pr m
  rw [beq_iff_eq.1 e, n] at on
  cases on

theorem refs_of_not_onTable {s : State} (h : RefLaw s) {b : BankId} (n : (s.bank b).onTable = false) : (s.bank b).refs = 0 := by
  rw [h.1 b, no_pairing_of_not_onTable h n, List.length_nil]

/-! ## A bank replaced -/

theorem bank_setBank (s : State) (b k : BankId) (x : MapBank) :
    (s.setBank b x).bank k = if k = b then x else s.bank k := by
  split
  · rename_i e; rw [e, State.bank_setBank_self]
  · rename_i e; exact State.bank_setBank_of_ne s x e

/-- A bank replaced by one with the same references that meets the laws keeps the laws, where no bank comes onto the table and
none leaves it, and none begins to load. -/
theorem mapInv_setBank {s : State} (h : MapInv s) (b : BankId) (x : MapBank) (states : BankLaw (s.setBank b x))
    (die : DieCountLaw x) (refs : x.refs = (s.bank b).refs)
    (onTable : (s.bank b).onTable = true → x.onTable = true)
    (retiring : x.state = .retiring → 0 < x.refs) : MapInv (s.setBank b x) := by
  rw [mapInv_iff] at h ⊢
  obtain ⟨base, ret⟩ := h
  refine ⟨⟨states, fun k => ?_, fun k => ?_, fun pr m => ?_⟩, fun k => ?_⟩ <;> rw [bank_setBank] <;> split
  · exact die
  · exact base.dies k
  · rename_i e; rw [refs, State.setBank_pairings, e]; exact base.refs.1 b
  · exact base.refs.1 k
  · rename_i e; exact onTable (e ▸ base.refs.2 pr m)
  · exact base.refs.2 pr m
  · exact retiring
  · exact ret k

/-- A bank blanked keeps the laws where no pairing is in flight on it (R2). -/
theorem mapInv_setBank_blank {s : State} (h : MapInv s) (b : BankId) (n : (s.bank b).onTable = false) :
    MapInv (s.setBank b .blank) := by
  refine mapInv_setBank h b .blank ?_ ?_ ?_ ?_ ?_
  · have k := h.states
    cases b <;> simp_all [BankLaw, State.setBank, PerBank.set, MapBank.blank, MapBank.onTable]
  · exact ⟨⟨List.Pairwise.nil, by simp [MapBank.blank]⟩, rfl, fun _ => rfl⟩
  · exact (refs_of_not_onTable ((mapInv_iff s).1 h).1.refs n).symm
  · intro on; rw [n] at on; cases on
  · intro r; cases r

/-! ## A die changed -/

theorem dieCountLaw_withDie {b : MapBank} (h : DieCountLaw b) (n : b.state ≠ .empty) (i : Nat) (r : DieRecord) :
    DieCountLaw (b.withDie i r) := by
  obtain ⟨wf, count, _⟩ := h
  refine ⟨putDie_wf wf i r, ?_, fun e => absurd e n⟩
  have := availableIn_putDie wf i r
  simp only [availableIn] at this
  rw [withDie_dies, this, ← count]
  rfl

theorem dieCountLaw_refs {b : MapBank} (h : DieCountLaw b) (n : b.state ≠ .empty) (k : Nat) : DieCountLaw { b with refs := k } :=
  ⟨h.1, h.2.1, fun e => absurd e n⟩

/-- R5: a die change of a bank that is not EMPTY keeps the laws of the map banks. -/
theorem mapInv_changeDie {s : State} (h : MapInv s) {b : BankId} (n : (s.bank b).state ≠ .empty) (i : Nat) (r : DieRecord) :
    MapInv (changeDie b i r s) := by
  have bank : ∀ k, (changeDie b i r s).bank k = if k = b then (s.bank b).withDie i r else s.bank k :=
    fun k => bank_changeDie b k i r s
  have pairings : (changeDie b i r s).pairings = s.pairings := (only_changeDie b i r s).pairings_eq (by simp)
  have state : ∀ k, ((changeDie b i r s).bank k).state = (s.bank k).state := fun k => by
    rw [bank]; split
    · rename_i e; rw [e]; rfl
    · rfl
  have refs : ∀ k, ((changeDie b i r s).bank k).refs = (s.bank k).refs := fun k => by
    rw [bank]; split
    · rename_i e; rw [e]; rfl
    · rfl
  rw [mapInv_iff] at h ⊢
  obtain ⟨base, ret⟩ := h
  refine ⟨⟨bankLaw_of_states state base.states, fun k => ?_, fun k => ?_, fun pr m => ?_⟩, fun k e => ?_⟩
  · rw [bank]; split
    · exact dieCountLaw_withDie (base.dies b) n i r
    · exact base.dies k
  · rw [refs, pairings]; exact base.refs.1 k
  · rw [onTable_of_state (state _)]; exact base.refs.2 pr (pairings ▸ m)
  · rw [refs]; rw [state] at e; exact ret k e

/-! ## The grant of a pairing -/

/-- R92, step 2: the claimed bank has its die CLAIMED and one more reference; the other stands. -/
theorem bank_claimDie (f : Found) (s : State) (k : BankId) : (claimDie f s).bank k =
    if k = f.bank then
      { (s.bank f.bank).withDie f.die { f.record with state := .claimed } with refs := (s.bank f.bank).refs + 1 }
    else s.bank k := by
  unfold claimDie
  simp only [bank_setBank, bank_changeDie]
  split <;> simp

theorem banks_grantPair (p : Port) (f : Found) (t : Ticket) (s : State) :
    (grantPair p f t s).banks = (claimDie f { s with lastTicket := t }).banks := by
  unfold grantPair
  dsimp only
  rw [(only_handOver p _ _ _).banks_eq (by simp)]
  exact (only_pairSite f t _).banks_eq (by simp)

/-- R92, step 5: the grant enters its pairing behind those in flight. -/
theorem pairings_grantPair (p : Port) (f : Found) (t : Ticket) (s : State) :
    (grantPair p f t s).pairings = s.pairings ++ [pairingFor s p f t] := by
  unfold grantPair
  dsimp only
  rw [(only_handOver p _ _ _).pairings_eq (by simp)]
  simp only [removeEntry]
  rw [(only_pairSite f t _).pairings_eq (by simp), (only_claimDie f _).pairings_eq (by simp)]

theorem bank_grantPair (p : Port) (f : Found) (t : Ticket) (s : State) (k : BankId) : (grantPair p f t s).bank k =
    if k = f.bank then
      { (s.bank f.bank).withDie f.die { f.record with state := .claimed } with refs := (s.bank f.bank).refs + 1 }
    else s.bank k := by
  rw [bank_eq_of_banks (banks_grantPair p f t s), bank_claimDie]
  rfl

theorem mapInv_grantPair {s : State} (h : MapInv s) (p : Port) (f : Found) (t : Ticket) (a : (s.bank f.bank).state = .active) :
    MapInv (grantPair p f t s) := by
  have bank := bank_grantPair p f t s
  have state : ∀ k, ((grantPair p f t s).bank k).state = (s.bank k).state := fun k => by
    rw [bank]; split
    · rename_i e; rw [e]; rfl
    · rfl
  have ne : (s.bank f.bank).state ≠ .empty := by rw [a]; decide
  rw [mapInv_iff] at h ⊢
  obtain ⟨base, ret⟩ := h
  refine ⟨⟨bankLaw_of_states state base.states, fun k => ?_, fun k => ?_, fun pr m => ?_⟩, fun k e => ?_⟩
  · rw [bank]; split
    · exact dieCountLaw_refs (dieCountLaw_withDie (base.dies f.bank) ne _ _) ne _
    · exact base.dies k
  · rw [bank, pairings_grantPair, List.filter_append, List.length_append, ← base.refs.1 k]
    split
    · rename_i e; simp [e, pairingFor]
    · rename_i e; simp [pairingFor, Ne.symm e]
  · rw [onTable_of_state (state _)]
    rw [pairings_grantPair] at m
    rcases List.mem_append.1 m with m | m
    · exact base.refs.2 pr m
    · rw [List.mem_singleton.1 m]; exact onTable_of_active a
  · rw [bank]; split
    · simp
    · rw [state] at e; exact ret k e

/-! ## Selection and the passes -/

theorem activeBank_state {s : State} {b : BankId} (h : s.activeBank = some b) : (s.bank b).state = .active := by
  unfold State.activeBank at h
  split at h
  · rename_i a; cases h; exact a
  · split at h
    · rename_i a; cases h; exact a
    · cases h

theorem firstServed_bank {s : State} {p : Port} {bk : BankId} {cs : List Candidate} {f : Found}
    (h : firstServed s p bk cs = some f) : f.bank = bk := by
  induction cs with
  | nil => cases h
  | cons c cs ih =>
    simp only [firstServed] at h
    split at h
    · cases h; rfl
    · exact ih h

/-- R83: a selection that finds names the ACTIVE bank, and its first site in order with a die. -/
theorem select_found {s : State} {p : Port} {c : LaneChoice} {f : Found} (h : select s p c = .found f) :
    s.activeBank = some f.bank ∧ firstServed s p f.bank (siteOrder (candidates s p c)) = some f := by
  unfold select at h
  split at h
  · cases h
  · rename_i bk active
    split at h
    · cases h
    · split at h
      · rename_i g served
        cases h
        rw [firstServed_bank served]
        exact ⟨active, served⟩
      · cases h

/-- R108: one entry of a pass is granted what its selection finds, or the state changes in the entry's obstacle alone. -/
theorem tryEntry_cases (e : WaitEntry) (s : State) :
    (∃ f t, s.trace.canReserve = true ∧ select s e.port e.choice = .found f ∧ nextTicket s = some t ∧
      tryEntry e s = grantPair e.port f t s) ∨
    (∃ o, tryEntry e s = setObstacle e.port o s) ∨ tryEntry e s = s := by
  unfold tryEntry
  split
  · exact .inr (.inl ⟨_, rfl⟩)
  · rename_i room
    split
    · exact .inr (.inl ⟨_, rfl⟩)
    · rename_i f found
      split
      · rename_i t ticket
        exact .inl ⟨f, t, by simpa using room, found, ticket, rfl⟩
      · exact .inr (.inr rfl)

theorem mapInv_tryEntry {s : State} (h : MapInv s) (e : WaitEntry) : MapInv (tryEntry e s) := by
  rcases tryEntry_cases e s with ⟨f, t, _, found, _, eq⟩ | ⟨o, eq⟩ | eq <;> rw [eq]
  · exact mapInv_grantPair h e.port f t (activeBank_state (select_found found).1)
  · exact mapInv_of_only (only_setObstacle e.port o s) (by simp) (by simp) h
  · exact h

/-- A property that every entry's try keeps is kept by a pass. -/
theorem walk_keeps {I : State → Prop} (keeps : ∀ e s, I s → I (tryEntry e s)) (es : List WaitEntry) (s : State) (h : I s) :
    I (walk es s) := by
  induction es generalizing s with
  | nil => exact h
  | cons e es ih => exact ih _ (keeps e s h)

theorem arbiterPass_keeps {I : State → Prop} (keeps : ∀ e s, I s → I (tryEntry e s)) {s : State} (h : I s) :
    I (arbiterPass s) := walk_keeps keeps _ s h

theorem arbiterPasses_keeps {I : State → Prop} (keeps : ∀ s, I s → I (arbiterPass s)) (n : Nat) {s : State} (h : I s) :
    I (arbiterPasses n s) := by
  induction n generalizing s with
  | zero => exact h
  | succ n ih => exact ih (keeps s h)

theorem mapInv_arbiterPass {s : State} (h : MapInv s) : MapInv (arbiterPass s) :=
  arbiterPass_keeps (I := MapInv) (fun e _ h => mapInv_tryEntry h e) h

theorem mapInv_arbiterPasses {s : State} (h : MapInv s) (n : Nat) : MapInv (arbiterPasses n s) :=
  arbiterPasses_keeps (I := MapInv) (fun _ h => mapInv_arbiterPass h) n h

/-! ## The end of a pairing -/

/-- The pairing that a ticket names stands in the table behind pairings of other tickets, and is the one that leaves with it. -/
theorem pairing_split {s : State} {t : Ticket} {pr : Pairing} (h : s.pairing t = some pr) :
    pr.ticket = t ∧ ∃ older newer, s.pairings = older ++ pr :: newer ∧ (∀ q ∈ older, q.ticket ≠ t) ∧
      s.pairings.eraseP (fun q => q.ticket == pr.ticket) = older ++ newer := by
  obtain ⟨eq, older, newer, split, others⟩ := List.find?_eq_some_iff_append.1 h
  have ticket : pr.ticket = t := by simpa using eq
  have other : ∀ q ∈ older, q.ticket ≠ t := fun q m => by simpa using others q m
  refine ⟨ticket, older, newer, split, other, ?_⟩
  rw [split, List.eraseP_append_right _ (fun q m => by simpa [ticket] using other q m)]
  simp

theorem mem_of_pairing {s : State} {t : Ticket} {pr : Pairing} (h : s.pairing t = some pr) : pr ∈ s.pairings :=
  List.mem_of_find?_eq_some h

/-- R94, step 2: the released bank has its die changed and one reference less; the other stands. -/
theorem bank_releaseDie (pr : Pairing) (r : DieRecord) (s : State) (k : BankId) : (releaseDie pr r s).bank k =
    if k = pr.bank then
      { (s.bank pr.bank).withDie (pr.dieIndex s) r with refs := (s.bank pr.bank).refs - 1 }
    else s.bank k := by
  unfold releaseDie
  simp only [bank_setBank, bank_changeDie]
  split <;> simp

/-- R94, steps 2 to 5. -/
def endedBeforeRetire (pr : Pairing) (e : PairEnd) (s : State) : State :=
  retireTicket pr e.outcome (closeTrace pr e.record (releaseSite pr e.site (releaseDie pr e.die s)))

/-- The common end of a pairing is its steps 2 to 5, the retirement of the bank and the announcement (R94). -/
theorem endPairing_eq (pr : Pairing) (e : PairEnd) (s : State) : endPairing pr e s =
    if e.announce then
      raiseAt pr.port (.pairingEnded 1 [(pr.ticket, e.outcome)]) (retireIfClear pr.bank (endedBeforeRetire pr e s))
    else retireIfClear pr.bank (endedBeforeRetire pr e s) := rfl

theorem banks_endedBeforeRetire (pr : Pairing) (e : PairEnd) (s : State) :
    (endedBeforeRetire pr e s).banks = (releaseDie pr e.die s).banks := by
  unfold endedBeforeRetire retireTicket
  dsimp only
  rw [(only_closeTrace pr e.record _).banks_eq (by simp), (only_releaseSite pr e.site _).banks_eq (by simp)]

theorem pairings_endedBeforeRetire (pr : Pairing) (e : PairEnd) (s : State) :
    (endedBeforeRetire pr e s).pairings = s.pairings.eraseP (fun q => q.ticket == pr.ticket) := by
  unfold endedBeforeRetire retireTicket
  dsimp only
  rw [(only_closeTrace pr e.record _).pairings_eq (by simp), (only_releaseSite pr e.site _).pairings_eq (by simp),
    (only_releaseDie pr e.die s).pairings_eq (by simp)]

theorem pairings_endPairing (pr : Pairing) (e : PairEnd) (s : State) :
    (endPairing pr e s).pairings = s.pairings.eraseP (fun q => q.ticket == pr.ticket) := by
  have h : (retireIfClear pr.bank (endedBeforeRetire pr e s)).pairings = s.pairings.eraseP (fun q => q.ticket == pr.ticket) := by
    rw [(only_retireIfClear _ _).pairings_eq (by simp), pairings_endedBeforeRetire]
  rw [endPairing_eq]
  split
  · rw [(only_raiseAt _ _ _).pairings_eq (by simp), h]
  · exact h

theorem mapBase_endedBeforeRetire {s : State} (h : MapBase s) {t : Ticket} {pr : Pairing} (named : s.pairing t = some pr)
    (e : PairEnd) : MapBase (endedBeforeRetire pr e s) := by
  have bank : ∀ k, (endedBeforeRetire pr e s).bank k = _ := fun k =>
    (bank_eq_of_banks (banks_endedBeforeRetire pr e s) k).trans (bank_releaseDie pr e.die s k)
  have state : ∀ k, ((endedBeforeRetire pr e s).bank k).state = (s.bank k).state := fun k => by
    rw [bank]; split
    · rename_i e; rw [e]; rfl
    · rfl
  obtain ⟨ticket, older, newer, split, _, erased⟩ := pairing_split named
  have pairings : (endedBeforeRetire pr e s).pairings = older ++ newer := (pairings_endedBeforeRetire pr e s).trans erased
  have ne := state_ne_empty_of_onTable (h.refs.2 pr (mem_of_pairing named))
  refine ⟨bankLaw_of_states state h.states, fun k => ?_, fun k => ?_, fun q m => ?_⟩
  · rw [bank]; split
    · exact dieCountLaw_refs (dieCountLaw_withDie (h.dies pr.bank) ne _ _) ne _
    · exact h.dies k
  · have count := h.refs.1 k
    rw [split, List.filter_append, List.length_append] at count
    rw [bank, pairings, List.filter_append, List.length_append]
    split
    · rename_i eq
      subst eq
      simp at count
      show (s.bank pr.bank).refs - 1 = _
      omega
    · rename_i eq
      simpa [Ne.symm eq] using count
  · rw [onTable_of_state (state _)]
    rw [pairings] at m
    exact h.refs.2 q (by rw [split]; simp only [List.mem_append, List.mem_cons] at m ⊢; tauto)

/-- R14: a RETIRING bank without references becomes EMPTY, and any other bank stands. -/
theorem bank_retireIfClear (b : BankId) (s : State) (k : BankId) : (retireIfClear b s).bank k =
    if k = b ∧ (s.bank b).state = .retiring ∧ (s.bank b).refs = 0 then .blank else s.bank k := by
  unfold retireIfClear
  by_cases c : (s.bank b).state = .retiring ∧ (s.bank b).refs = 0
  · rw [if_pos (by simp [c])]
    have raised := bank_eq_of_banks ((only_raiseTo .wafer (.waferClear (s.bank b).waferId) s).banks_eq (by simp))
    rw [bank_setBank, raised]
    simp [c]
  · rw [if_neg (by simpa using c), if_neg (fun x => c x.2)]

/-- R14: the retirement of a bank restores the law of RETIRING banks, where the other bank meets it. -/
theorem mapInv_retireIfClear {s : State} (h : MapBase s) {b : BankId}
    (others : ∀ k, k ≠ b → (s.bank k).state = .retiring → 0 < (s.bank k).refs) : MapInv (retireIfClear b s) := by
  have bank := bank_retireIfClear b s
  have pairings : (retireIfClear b s).pairings = s.pairings := (only_retireIfClear b s).pairings_eq (by simp)
  by_cases c : (s.bank b).state = .retiring ∧ (s.bank b).refs = 0
  · have none : s.pairings.filter (fun pr => pr.bank == b) = [] := List.length_eq_zero_iff.1 (by rw [← h.refs.1 b, c.2])
    have away : ∀ pr ∈ s.pairings, pr.bank ≠ b := fun pr m e => by
      have := List.filter_eq_nil_iff.1 none pr m
      simp [e] at this
    rw [mapInv_iff]
    refine ⟨⟨?_, fun k => ?_, fun k => ?_, fun pr m => ?_⟩, fun k => ?_⟩
    · have b0 : (retireIfClear b s).banks.b0 = _ := bank .b0
      have b1 : (retireIfClear b s).banks.b1 = _ := bank .b1
      have states := h.states
      cases b <;> simp [BankLaw, b0, b1, c, MapBank.blank, MapBank.onTable]
    · rw [bank]; split
      · exact ⟨⟨List.Pairwise.nil, by simp [MapBank.blank]⟩, rfl, fun _ => rfl⟩
      · exact h.dies k
    · rw [bank, pairings]; split
      · rename_i e; rw [e.1, none]; rfl
      · exact h.refs.1 k
    · rw [pairings] at m
      rw [bank, if_neg fun x => away pr m x.1]
      exact h.refs.2 pr m
    · rw [bank]; split
      · intro e; cases e
      · rename_i n
        exact others k fun e => n ⟨e, c⟩
  · have same : ∀ k, (retireIfClear b s).bank k = s.bank k := fun k => by rw [bank, if_neg fun x => c x.2]
    rw [mapInv_iff]
    refine ⟨⟨bankLaw_of_states (fun k => by rw [same]) h.states, fun k => same k ▸ h.dies k, fun k => ?_, fun pr m => ?_⟩,
      fun k e => ?_⟩
    · rw [same, pairings]; exact h.refs.1 k
    · rw [same]; exact h.refs.2 pr (pairings ▸ m)
    · rw [same] at e ⊢
      by_cases eq : k = b
      · subst eq; exact Nat.pos_of_ne_zero fun z => c ⟨e, z⟩
      · exact others k eq e

/-- R94: the common end of the pairing that a ticket names keeps the laws of the map banks. -/
theorem mapInv_endPairing {s : State} (h : MapInv s) {t : Ticket} {pr : Pairing} (named : s.pairing t = some pr) (e : PairEnd) :
    MapInv (endPairing pr e s) := by
  have retired : MapInv (retireIfClear pr.bank (endedBeforeRetire pr e s)) := by
    obtain ⟨base, ret⟩ := (mapInv_iff s).1 h
    refine mapInv_retireIfClear (mapBase_endedBeforeRetire base named e) fun k ne => ?_
    rw [bank_eq_of_banks (banks_endedBeforeRetire pr e s), bank_releaseDie, if_neg ne]
    exact ret k
  rw [endPairing_eq]
  split
  · exact mapInv_of_only (only_raiseAt _ _ _) (by simp) (by simp) retired
  · exact retired

theorem mapInv_endAndPass {s : State} (h : MapInv s) {t : Ticket} {pr : Pairing} (named : s.pairing t = some pr) (e : PairEnd) :
    MapInv (endAndPass pr e s) := mapInv_arbiterPasses (mapInv_endPairing h named e) _

end Sys2Proof.Proofs
end

section
/-! PROOFS. The maps: every step keeps the laws of the map banks (R1, R2, R4, R5, R14). -/

namespace Sys2Proof.Proofs

open Sys2Proof Sys2Proof.Machine Sys2Proof.Safety

/-! ## Loading a bank -/

theorem loadingBank_eq_some {s : State} {b : BankId} (h : s.loadingBank = some b) : (s.bank b).state = .loading := by
  unfold State.loadingBank at h
  split at h
  · rename_i a; cases h; exact a
  · split at h
    · rename_i a; cases h; exact a
    · cases h

theorem loadingBank_eq_none {s : State} (h : s.loadingBank = none) (b : BankId) : (s.bank b).state ≠ .loading := by
  unfold State.loadingBank at h
  split at h
  · cases h
  · split at h
    · cases h
    · rename_i n0 n1; cases b; exacts [n0, n1]

theorem emptyBank_eq_some {s : State} {b : BankId} (h : s.emptyBank = some b) : (s.bank b).state = .empty := by
  unfold State.emptyBank at h
  split at h
  · rename_i a; cases h; exact a
  · split at h
    · rename_i a; cases h; exact a
    · cases h

theorem stagedBank_eq_some {s : State} {w : Tag} {b : BankId} (h : s.stagedBank w = some b) :
    (s.bank b).state = .staged ∧ (s.bank b).waferId = w := by
  unfold State.stagedBank at h
  split at h
  · rename_i a; cases h; simpa [MapBank.stagedFor, State.bank, PerBank.get] using a
  · split at h
    · rename_i a; cases h; simpa [MapBank.stagedFor, State.bank, PerBank.get] using a
    · cases h

theorem not_onTable {b : MapBank} (ha : b.state ≠ .active) (hr : b.state ≠ .retiring) : b.onTable = false := by
  simp [MapBank.onTable, ha, hr]

/-- One grade written keeps the state and the references of its bank, and its laws (R5, R7). -/
theorem dieCountLaw_loadGrades {b : MapBank} (h : DieCountLaw b) (l : b.state = .loading) (i : Nat) (gs : List Octet) :
    DieCountLaw (b.loadGrades i gs) ∧ (b.loadGrades i gs).state = .loading ∧ (b.loadGrades i gs).refs = b.refs := by
  induction gs generalizing b i with
  | nil => exact ⟨h, l, rfl⟩
  | cons g gs ih =>
    have ne : b.state ≠ .empty := by rw [l]; decide
    have one : DieCountLaw (b.loadDie i (g.setWidth 4)) := by
      have w := dieCountLaw_withDie h ne i (loadedDie (g.setWidth 4))
      exact ⟨w.1, w.2.1, fun e => absurd e ne⟩
    exact ih one l (i + 1)

theorem mapInv_serveMapOpen {s : State} (h : MapInv s) (p : Port) (body : List Octet) : MapInv (serveMapOpen p body s) := by
  have answered : ∀ r u, MapInv u → MapInv (reply p r u) := fun r u k => mapInv_of_only (only_reply p r u) (by simp) (by simp) k
  unfold serveMapOpen
  split
  · exact answered _ _ h
  · split
    · exact answered _ _ h
    · rename_i quiet
      split
      · exact answered _ _ h
      · rename_i b empty
        replace empty := emptyBank_eq_some empty
        have unloaded := loadingBank_eq_none (by simpa using quiet)
        have off : (s.bank b).onTable = false := not_onTable (by rw [empty]; decide) (by rw [empty]; decide)
        refine answered _ _ (mapInv_setBank h b _ ?_ ?_ ?_ ?_ ?_)
        · have k := h.states
          have n0 : s.banks.b0.state ≠ .loading := unloaded .b0
          have n1 : s.banks.b1.state ≠ .loading := unloaded .b1
          cases b <;> simp_all [BankLaw, State.setBank, PerBank.set, openedBank, MapBank.onTable]
        · exact ⟨⟨List.Pairwise.nil, by simp [openedBank]⟩, rfl, fun e => by cases e⟩
        · exact (refs_of_not_onTable ((mapInv_iff s).1 h).1.refs off).symm
        · intro on; rw [off] at on; cases on
        · intro r; cases r

theorem mapInv_serveMapRows {s : State} (h : MapInv s) (p : Port) (body : List Octet) : MapInv (serveMapRows p body s) := by
  have answered : ∀ r u, MapInv u → MapInv (reply p r u) := fun r u k => mapInv_of_only (only_reply p r u) (by simp) (by simp) k
  unfold serveMapRows
  dsimp only
  split
  · exact answered _ _ h
  · rename_i b loading
    split
    · exact answered _ _ h
    · replace loading := loadingBank_eq_some loading
      obtain ⟨law, state, refs⟩ := dieCountLaw_loadGrades (((mapInv_iff s).1 h).1.dies b) loading (u16 body 0).toNat
        (gradesOfBody body)
      refine answered _ _ (mapInv_setBank h b _ ?_ ?_ refs ?_ ?_)
      · refine bankLaw_of_states (fun k => ?_) h.states
        rw [bank_setBank]
        split
        · rename_i e; rw [e, loading]; exact state
        · rfl
      · exact ⟨law.1, law.2.1, fun e => by rw [show _ = BankState.loading from state] at e; cases e⟩
      · intro on; rw [not_onTable (by rw [loading]; decide) (by rw [loading]; decide)] at on; cases on
      · intro r; rw [show _ = BankState.loading from state] at r; cases r

theorem mapInv_serveMapClose {s : State} (h : MapInv s) (p : Port) (body : List Octet) : MapInv (serveMapClose p body s) := by
  have answered : ∀ r u, MapInv u → MapInv (reply p r u) := fun r u k => mapInv_of_only (only_reply p r u) (by simp) (by simp) k
  unfold serveMapClose
  split
  · exact answered _ _ h
  · rename_i b loading
    replace loading := loadingBank_eq_some loading
    have off : (s.bank b).onTable = false := not_onTable (by rw [loading]; decide) (by rw [loading]; decide)
    dsimp only
    split
    · have law := ((mapInv_iff s).1 h).1.dies b
      refine answered _ _ (mapInv_setBank h b _ ?_ ⟨law.1, law.2.1, fun e => by cases e⟩ rfl ?_ ?_)
      · have k := h.states
        cases b <;> simp_all [BankLaw, State.setBank, PerBank.set, MapBank.onTable]
      · intro on; rw [off] at on; cases on
      · intro r; cases r
    · exact answered _ _ (mapInv_setBank_blank h b off)

theorem mapInv_serveMapAbort {s : State} (h : MapInv s) (p : Port) (body : List Octet) : MapInv (serveMapAbort p body s) := by
  have answered : ∀ r u, MapInv u → MapInv (reply p r u) := fun r u k => mapInv_of_only (only_reply p r u) (by simp) (by simp) k
  unfold serveMapAbort
  split
  · exact answered _ _ h
  · rename_i b loading
    replace loading := loadingBank_eq_some loading
    exact answered _ _ (mapInv_setBank_blank h b (not_onTable (by rw [loading]; decide) (by rw [loading]; decide)))

/-! ## Die and wafers -/

theorem mapInv_serveDieMark {s : State} (h : MapInv s) (p : Port) (body : List Octet) : MapInv (serveDieMark p body s) := by
  have answered : ∀ r u, MapInv u → MapInv (reply p r u) := fun r u k => mapInv_of_only (only_reply p r u) (by simp) (by simp) k
  unfold serveDieMark
  dsimp only
  split
  · rename_i b a _ _
    split
    · exact answered _ _ h
    · rename_i holds
      split
      · exact answered _ _ h
      · split
        · exact answered _ _ h
        · split
          · exact answered _ _ h
          · have ne : (s.bank b).state ≠ .empty := fun e => holds (by simp [MapBank.holdsMap, e])
            exact answered _ _ (mapInv_arbiterPasses (mapInv_changeDie h ne _ _) _)
  · exact answered _ _ h

/-- R11: a STAGED bank becomes ACTIVE where no bank is on the table. -/
theorem mapInv_activate {s : State} (h : MapInv s) {b : BankId} (staged : (s.bank b).state = .staged)
    (clear : ∀ k, (s.bank k).onTable = false) : MapInv (activate b s) := by
  have set : MapInv (s.setBank b { s.bank b with state := .active }) := by
    have law := ((mapInv_iff s).1 h).1.dies b
    refine mapInv_setBank h b _ ?_ ⟨law.1, law.2.1, fun e => by cases e⟩ rfl (fun _ => rfl) (fun r => by cases r)
    have k := h.states
    have off0 : s.banks.b0.onTable = false := clear .b0
    have off1 : s.banks.b1.onTable = false := clear .b1
    cases b <;> simp_all [BankLaw, State.setBank, PerBank.set, MapBank.onTable]
  have picks := mapInv_of_only (only_resetLastPicks _) (by simp) (by simp) set
  unfold activate
  dsimp only
  split
  · exact mapInv_of_only (only_raiseTo _ _ _) (by simp) (by simp) picks
  · exact picks

theorem mapInv_serveWaferIn {s : State} (h : MapInv s) (p : Port) (body : List Octet) : MapInv (serveWaferIn p body s) := by
  have answered : ∀ r u, MapInv u → MapInv (reply p r u) := fun r u k => mapInv_of_only (only_reply p r u) (by simp) (by simp) k
  unfold serveWaferIn
  dsimp only
  split
  · exact answered _ _ h
  · rename_i clear
    split
    · exact answered _ _ h
    · split
      · exact answered _ _ h
      · rename_i b staged
        refine answered _ _ (mapInv_arbiterPass (mapInv_activate h (stagedBank_eq_some staged).1 fun k => ?_))
        simp only [Bool.or_eq_true, not_or, Bool.not_eq_true] at clear
        cases k
        · exact clear.1
        · exact clear.2

theorem mapInv_serveWaferOut {s : State} (h : MapInv s) (p : Port) (body : List Octet) : MapInv (serveWaferOut p body s) := by
  have answered : ∀ r u, MapInv u → MapInv (reply p r u) := fun r u k => mapInv_of_only (only_reply p r u) (by simp) (by simp) k
  unfold serveWaferOut
  split
  · exact answered _ _ h
  · rename_i b active
    replace active := activeBank_state active
    obtain ⟨base, ret⟩ := (mapInv_iff s).1 h
    have bank : ∀ k, (s.setBank b { s.bank b with state := .retiring }).bank k = _ := fun k => bank_setBank s b k _
    refine answered _ _ (mapInv_retireIfClear ⟨?_, fun k => ?_, fun k => ?_, fun pr m => ?_⟩ fun k ne => ?_)
    · have k := h.states
      cases b <;> simp_all [BankLaw, State.setBank, PerBank.set, MapBank.onTable, State.bank, PerBank.get]
    · rw [bank]; split
      · exact ⟨(base.dies b).1, (base.dies b).2.1, fun e => by cases e⟩
      · exact base.dies k
    · rw [bank]; split
      · rename_i e; rw [e]; exact base.refs.1 b
      · exact base.refs.1 k
    · rw [bank]; split
      · rfl
      · exact base.refs.2 pr m
    · rw [bank, if_neg ne]
      exact ret k

/-! ## PAIR and the head reports -/

theorem mapInv_answerEntry {s : State} (h : MapInv s) (p : Port) : MapInv (answerEntry p s) :=
  mapInv_of_only (only_answerEntry p s) (by simp) (by simp) h

theorem mapInv_servePair {s : State} (h : MapInv s) (p : Port) (body : List Octet) : MapInv (servePair p body s) := by
  have answered : ∀ r u, MapInv u → MapInv (reply p r u) := fun r u k => mapInv_of_only (only_reply p r u) (by simp) (by simp) k
  unfold servePair
  split
  · exact answered _ _ h
  · split
    · exact answered _ _ h
    · split
      · exact answered _ _ h
      · split
        · exact answered _ _ h
        · rename_i c _ _ _ _
          have passed := mapInv_arbiterPass
            (s := { s with waitList := insertEntry (entryFor s p c (u16 body 1).toNat) s.waitList })
            (mapInv_of_eq (s := s) rfl rfl h)
          unfold placePair
          dsimp only
          split
          · exact mapInv_answerEntry passed _
          · exact passed

/-- R95: a report that its ticket check lets through concerns the pairing that its ticket names. -/
theorem checkTicket_mine {s : State} {p : Port} {t : Ticket} {pr : Pairing} (h : checkTicket s p t = .mine pr) :
    s.pairing t = some pr ∧ pr.port = p := by
  unfold checkTicket at h
  split at h
  · rename_i q named
    split at h
    · rename_i port; cases h; exact ⟨named, port⟩
    · cases h
  · split at h
    · split at h <;> cases h
    · cases h

/-- A property that answers keep is kept by a head report, where it is kept for the pairing that the ticket names. -/
theorem withTicket_keeps {I : State → Prop} {p : Port} {t : Ticket} {f : Pairing → State → State} {s : State}
    (answered : ∀ r, I (reply p r s)) (mine : ∀ pr, s.pairing t = some pr → pr.port = p → I (f pr s)) :
    I (withTicket p t f s) := by
  unfold withTicket
  split
  · rename_i pr check
    exact mine pr (checkTicket_mine check).1 (checkTicket_mine check).2
  · exact answered _
  · exact answered _
  · exact answered _

/-- R1, R4: all pairings in flight are on the one bank that is ACTIVE or RETIRING. -/
theorem pairing_bank_unique {s : State} (h : MapInv s) {q r : Pairing} (hq : q ∈ s.pairings) (hr : r ∈ s.pairings) :
    q.bank = r.bank := by
  have on := h.references.2
  have one := h.states.2
  have onq := on q hq
  have onr := on r hr
  cases eq : q.bank <;> cases er : r.bank <;> rw [eq] at onq <;> rw [er] at onr
  · exact absurd ⟨onq, onr⟩ one
  · exact absurd ⟨onr, onq⟩ one

/-- Pairing records changed, each staying on its bank, keep the laws of the map banks. -/
theorem mapInv_map_pairings {s t : State} (h : MapInv s) {f : Pairing → Pairing} (same : ∀ q ∈ s.pairings, (f q).bank = q.bank)
    (hb : t.banks = s.banks) (hp : t.pairings = s.pairings.map f) : MapInv t := by
  obtain ⟨base, ret⟩ := (mapInv_iff s).1 h
  have bank := bank_eq_of_banks hb
  rw [mapInv_iff]
  refine ⟨⟨bankLaw_of_states (fun b => by rw [bank]) base.states, fun b => bank b ▸ base.dies b, fun b => ?_, fun pr m => ?_⟩,
    retiringLaw_of_eq hb ret⟩
  · rw [bank, base.refs.1 b, hp, List.filter_map, List.length_map]
    exact congrArg List.length (List.filter_congr fun q m => by simp [same q m])
  · rw [hp] at m
    obtain ⟨q, mq, rfl⟩ := List.mem_map.1 m
    rw [same q mq, bank]
    exact base.refs.2 q mq

/-- R96: a PICKED report keeps the bank of every pairing. -/
theorem mapInv_takePick {s : State} (h : MapInv s) {t : Ticket} {pr : Pairing} (named : s.pairing t = some pr) :
    MapInv (takePick pr s) := by
  have mem := mem_of_pairing named
  have onTable := h.references.2 pr mem
  have changed := mapInv_changeDie h (state_ne_empty_of_onTable onTable) (pr.dieIndex s) ((pr.dieRecord s).to .picked)
  have pairings : (changeDie pr.bank (pr.dieIndex s) ((pr.dieRecord s).to .picked) s).pairings = s.pairings :=
    (only_changeDie _ _ _ s).pairings_eq (by simp)
  refine mapInv_map_pairings changed (f := fun q => if q.ticket = pr.ticket then pickedPairing pr s else q)
    (fun q m => ?_) rfl rfl
  rw [pairings] at m
  split
  · exact (pairing_bank_unique h mem m : pr.bank = q.bank)
  · rfl

theorem mapInv_servePicked {s : State} (h : MapInv s) (p : Port) (body : List Octet) : MapInv (servePicked p body s) := by
  have answered : ∀ r u, MapInv u → MapInv (reply p r u) := fun r u k => mapInv_of_only (only_reply p r u) (by simp) (by simp) k
  refine withTicket_keeps (fun r => answered r s h) fun pr named _ => ?_
  split
  · exact answered _ _ (mapInv_takePick h named)
  · exact answered _ _ h

theorem mapInv_serveBonded {s : State} (h : MapInv s) (p : Port) (body : List Octet) : MapInv (serveBonded p body s) := by
  have answered : ∀ r u, MapInv u → MapInv (reply p r u) := fun r u k => mapInv_of_only (only_reply p r u) (by simp) (by simp) k
  refine withTicket_keeps (fun r => answered r s h) fun pr named _ => ?_
  split
  · exact answered _ _ h
  · exact answered _ _ (mapInv_endAndPass h named _)

theorem mapInv_servePickFail {s : State} (h : MapInv s) (p : Port) (body : List Octet) : MapInv (servePickFail p body s) := by
  have answered : ∀ r u, MapInv u → MapInv (reply p r u) := fun r u k => mapInv_of_only (only_reply p r u) (by simp) (by simp) k
  refine withTicket_keeps (fun r => answered r s h) fun pr named _ => ?_
  split
  · exact answered _ _ h
  · exact answered _ _ h
  · exact answered _ _ (mapInv_endAndPass h named _)

theorem mapInv_serveDiscard {s : State} (h : MapInv s) (p : Port) (body : List Octet) : MapInv (serveDiscard p body s) := by
  have answered : ∀ r u, MapInv u → MapInv (reply p r u) := fun r u k => mapInv_of_only (only_reply p r u) (by simp) (by simp) k
  refine withTicket_keeps (fun r => answered r s h) fun pr named _ => ?_
  split
  · exact answered _ _ h
  · exact answered _ _ (mapInv_endAndPass h named _)

/-! ## The line clear and the departure of a strip -/

/-- The oldest pairing of a table is the one that its ticket names. -/
theorem pairing_of_cons {s : State} {pr : Pairing} {prs : List Pairing} (h : s.pairings = pr :: prs) :
    s.pairing pr.ticket = some pr := by simp [State.pairing, h]

theorem pairings_endPairing_of_cons {s : State} {pr : Pairing} {prs : List Pairing} (h : s.pairings = pr :: prs) (e : PairEnd) :
    (endPairing pr e s).pairings = prs := by simp [pairings_endPairing, h]

/-- What each end of the pairing at the head of the table keeps is kept while the table is emptied (R103). -/
theorem clearPairings_keeps {I : State → Prop}
    (keeps : ∀ s pr prs, s.pairings = pr :: prs → I s → I (endPairing pr (clearEnd pr s) s)) (prs : List Pairing) (s : State)
    (all : s.pairings = prs) (h : I s) : I (clearPairings prs s) ∧ (clearPairings prs s).pairings = [] := by
  induction prs generalizing s with
  | nil => exact ⟨h, all⟩
  | cons pr prs ih => exact ih _ (pairings_endPairing_of_cons all _) (keeps s pr prs all h)

theorem mapInv_clearBank {s : State} (h : MapInv s) (b : BankId) : MapInv (clearBank b s) := by
  unfold clearBank
  split
  · rename_i loading
    exact mapInv_setBank_blank h b (not_onTable (by rw [loading]; decide) (by rw [loading]; decide))
  · exact h

theorem mapInv_lineClear {s : State} (h : MapInv s) : MapInv (lineClear s) := by
  have answered : MapInv (answerAllEntries .cleared { s with line := .setup }) :=
    mapInv_of_only (only_answerAllEntries _ _) (by simp) (by simp) (mapInv_of_eq (s := s) rfl rfl h)
  have ended := (clearPairings_keeps (I := MapInv)
    (fun u pr prs all k => mapInv_endPairing k (pairing_of_cons all) _) _ _ rfl answered).1
  have gate : ∀ l u, MapInv u → MapInv (clearGate l u) := fun l u k =>
    mapInv_of_only (only_clearGate l u) (by simp) (by simp) k
  have lane : ∀ l u, MapInv u → MapInv (clearLane l u) := fun l u k =>
    mapInv_of_only (only_clearLane l u) (by simp) (by simp) k
  have lanes := lane .B _ (lane .A _ (gate .B _ (gate .A _ ended)))
  have banks := mapInv_clearBank (mapInv_clearBank lanes .b0) .b1
  exact mapInv_of_only (only_raiseLineState _ _) (by simp) (by simp)
    (mapInv_of_only (only_resetLastPicks _) (by simp) (by simp) banks)

/-- What each revocation keeps is kept by the revocations of a departing strip (R36). -/
theorem revokeSites_keeps {I : State → Prop}
    (keeps : ∀ s t pr, s.pairing t = some pr → I s → I (endPairing pr (revocationEnd pr s) s)) (sites : List Site) {s : State}
    (h : I s) : I (revokeSites sites s).2 := by
  have one : ∀ (x : Site) (acc : Nat × State), I acc.2 → I (revokeSite x acc).2 := by
    intro x acc k
    unfold revokeSite
    split
    · split
      · rename_i pr named
        exact keeps _ _ pr named k
      · exact k
    · exact k
  have fold : ∀ acc : Nat × State, I acc.2 → I (sites.foldl (fun acc x => revokeSite x acc) acc).2 := by
    induction sites with
    | nil => exact fun acc k => k
    | cons x sites ih => exact fun acc k => ih _ (one x acc k)
  exact fold (0, s) h

theorem mapInv_departStrip {s : State} (h : MapInv s) (l : Lane) (st : Strip) : MapInv (departStrip l st s) := by
  have revoked := revokeSites_keeps (I := MapInv) (fun u t pr named k => mapInv_endPairing k named _) st.sites h
  have dot := mapInv_of_only (only_endDepartingDot l st _) (by simp) (by simp) revoked
  have gone := mapInv_of_only (only_removeOldest l _) (by simp) (by simp) dot
  have dots := mapInv_of_only (only_reexamine l _) (by simp) (by simp) gone
  exact mapInv_arbiterPasses (mapInv_of_only (only_settlementCheckOldest l _) (by simp) (by simp) dots) _

/-! ## Every request and every event -/

theorem mapInv_serve {s : State} (h : MapInv s) (k : Kind) (p : Port) (body : List Octet) : MapInv (serve k p body s) := by
  by_cases apart : Part.banks ∉ serveParts k ∧ Part.pairings ∉ serveParts k
  · exact mapInv_of_only (only_serve k p body s) apart.1 apart.2 h
  have answered : ∀ r u, MapInv u → MapInv (reply p r u) := fun r u k => mapInv_of_only (only_reply p r u) (by simp) (by simp) k
  have lined : ∀ c x, MapInv (raiseLineState c { s with line := x }) := fun c x =>
    mapInv_of_only (only_raiseLineState c _) (by simp) (by simp) (mapInv_of_eq (s := s) rfl rfl h)
  cases k with
  | mapOpen => exact mapInv_serveMapOpen h p body
  | mapRows => exact mapInv_serveMapRows h p body
  | mapClose => exact mapInv_serveMapClose h p body
  | mapAbort => exact mapInv_serveMapAbort h p body
  | dieMark => exact mapInv_serveDieMark h p body
  | waferIn => exact mapInv_serveWaferIn h p body
  | waferOut => exact mapInv_serveWaferOut h p body
  | pair => exact mapInv_servePair h p body
  | picked => exact mapInv_servePicked h p body
  | bonded => exact mapInv_serveBonded h p body
  | pickFail => exact mapInv_servePickFail h p body
  | discard => exact mapInv_serveDiscard h p body
  | clear =>
    show MapInv (reply p (okResp (clearCounts s)) (lineClear s))
    exact answered _ _ (mapInv_lineClear h)
  | reach =>
    show MapInv (serveReach p body s)
    unfold serveReach
    split
    · split
      · exact answered _ _ h
      · refine answered _ _ ?_
        split
        · exact mapInv_arbiterPass (mapInv_of_eq (s := s) rfl rfl h)
        · exact mapInv_of_eq (s := s) rfl rfl h
    · exact answered _ _ h
  | start =>
    show MapInv (serveStart p body s)
    unfold serveStart
    split
    · exact answered _ _ h
    · split
      · exact answered _ _ h
      · exact answered _ _ (mapInv_arbiterPass (lined _ _))
  | resume =>
    show MapInv (serveResume p body s)
    unfold serveResume
    split
    · exact answered _ _ h
    · have dots : ∀ l u, MapInv u → MapInv (reexamine l u) := fun l u k =>
        mapInv_of_only (only_reexamine l u) (by simp) (by simp) k
      exact answered _ _ (dots _ _ (dots _ _ (mapInv_arbiterPass (lined _ _))))
  | traceRead =>
    have dropped : ∀ n, MapInv (dropRecords n s) := fun n => mapInv_of_only (only_dropRecords n s) (by simp) (by simp) h
    show MapInv (serveTraceRead p body s)
    unfold serveTraceRead
    dsimp only
    refine answered _ _ ?_
    split
    · exact dropped _
    · exact mapInv_arbiterPass (dropped _)
  | stripOut =>
    show MapInv (serveStripOut p body s)
    unfold serveStripOut
    split
    · exact answered _ _ h
    · split
      · exact answered _ _ h
      · exact answered _ _ (mapInv_departStrip h _ _)
  | _ => exact absurd (by simp [serveParts]) apart

theorem mapInv_of_ports {s t : State} (o : OnlyChanges [.ports] s t) (h : MapInv s) : MapInv t :=
  mapInv_of_only o (by simp) (by simp) h

theorem only_answerAtPort (p : Port) (r : Response) (s : State) : OnlyChanges [.ports] s (answerAtPort p r s) :=
  only_setLink s p _

/-- What the port's own answers and every request keep is kept by a frame that completes (R153). -/
theorem frameCheck_keeps {I : State → Prop} {k : Kind} {p : Port} {body : List Octet} {s : State}
    (answered : ∀ r, I (answerAtPort p r s))
    (served : lengthOk k body = true → kindPermits k (s.role p) = true → I (serve k p body (s.setLink p (.holding k)))) :
    I (frameCheck k p body (serve k) s) := by
  unfold frameCheck
  split
  · exact answered _
  · rename_i length
    split
    · exact answered _
    · rename_i permits
      exact served (by simpa using length) (by simpa using permits)

theorem mapInv_frameCheck {s : State} (h : MapInv s) (k : Kind) (p : Port) (body : List Octet) :
    MapInv (frameCheck k p body (serve k) s) :=
  frameCheck_keeps (I := MapInv) (fun r => mapInv_of_ports (only_answerAtPort p r s) h)
    fun _ _ => mapInv_serve (mapInv_of_ports (only_setLink s p _) h) k p body

theorem only_releaseHeld (p : Port) (s : State) : OnlyChanges [.waitList, .gates] s (releaseHeld p s) := by
  have drop : ∀ (l : Lane) (u : State), OnlyChanges [.waitList, .gates] u
      (match (u.gate l).waiter with
        | some w => if w.port = p then u.setGate l { u.gate l with waiter := none } else u
        | none => u) := by
    intro l u
    split
    · split
      · exact (only_setGate u l _).mono (by simp)
      · exact .refl _ u
    · exact .refl _ u
  have entry : OnlyChanges [.waitList, .gates] s (removeEntry p s) := by simp [removeEntry, OnlyChanges, Part.list, Part.same]
  exact (entry.trans (drop .A _)).trans (drop .B _)

theorem only_withdrawDot (m : GrantMark) (s : State) : OnlyChanges [.lanes, .gates] s (withdrawDot m s) := by
  unfold withdrawDot
  split
  · exact .refl _ s
  · split
    · exact .refl _ s
    · split
      · exact only_takeBackSite _ _ s
      · exact .refl _ s

/-- R93: a withdrawal concerns a pairing that its ticket names. -/
theorem markedPairing_eq_some {s : State} {t : Ticket} {p : Port} {g : Reading} {pr : Pairing}
    (h : markedPairing s t p g = some pr) : s.pairing t = some pr ∧ pr.port = p ∧ pr.grantTime = g ∧ pr.phase = .claimed := by
  obtain ⟨q, named, eq⟩ := Option.bind_eq_some_iff.1 h
  split at eq
  · rename_i c
    cases eq
    simp only [Bool.and_eq_true, decide_eq_true_eq, beq_iff_eq] at c
    exact ⟨named, c.1.1, c.1.2, c.2⟩
  · cases eq

theorem mapInv_withdraw {s : State} (h : MapInv s) (m : Option GrantMark) : MapInv (withdraw m s) := by
  unfold withdraw
  split
  · exact h
  · unfold withdrawPair
    split
    · rename_i pr marked
      exact mapInv_endAndPass h (markedPairing_eq_some marked).1 _
    · exact h
  · exact mapInv_of_only (only_withdrawDot _ s) (by simp) (by simp) h

theorem mapInv_closeLink {s : State} (h : MapInv s) (p : Port) : MapInv (closeLink p s) := by
  have moved : ∀ x, MapInv (s.setLink p x) := fun x => mapInv_of_ports (only_setLink s p x) h
  unfold closeLink
  split
  · exact h
  · exact moved _
  · exact mapInv_of_only (only_releaseHeld p _) (by simp) (by simp) (moved _)
  · exact mapInv_withdraw (moved _) _
  · split
    · exact moved _
    · exact mapInv_withdraw (moved _) _
  · exact moved _

theorem mapInv_expireLease {s : State} (h : MapInv s) (t : Ticket) : MapInv (expireLease t s) := by
  unfold expireLease
  split
  · exact h
  · rename_i pr named
    split
    · exact mapInv_endAndPass h named _
    · exact h

/-- What each of a list's operations keeps is kept by them all. -/
theorem foldl_keeps {α : Type} {I : State → Prop} {f : State → α → State} (keeps : ∀ s x, I s → I (f s x)) (xs : List α)
    {s : State} (h : I s) : I (xs.foldl f s) := by
  induction xs generalizing s with
  | nil => exact h
  | cons x xs ih => exact ih (keeps s x h)

theorem only_advanceClock (s : State) : OnlyChanges [.clock, .sweep, .visit, .gates] s (advanceClock s) := by
  simp [advanceClock, OnlyChanges, Part.list, Part.same]

theorem mapInv_tick {s : State} (h : MapInv s) : MapInv (tick s) := by
  have caught : MapInv (catchUp s) := mapInv_of_only (only_catchUp s) (by simp [visitParts]) (by simp [visitParts]) h
  have frames := foldl_keeps (I := MapInv) (f := fun s p => expireFrame p s)
    (fun u p k => mapInv_of_ports (only_expireFrame p u) k) allPorts caught
  have waits := foldl_keeps (I := MapInv) (f := fun s p => expirePairWait p s)
    (fun u p k => mapInv_of_only (only_expirePairWait p u) (by simp) (by simp) k) allPorts frames
  have dot : ∀ l u, MapInv u → MapInv (expireDotWait l u) := fun l u k =>
    mapInv_of_only (only_expireDotWait l u) (by simp) (by simp) k
  have deadline : ∀ l u, MapInv u → MapInv (expireDeadline l u) := fun l u k =>
    mapInv_of_only (only_expireDeadline l u) (by simp) (by simp) k
  have dots := deadline .B _ (deadline .A _ (dot .B _ (dot .A _ waits)))
  have leases : MapInv (settle s) :=
    foldl_keeps (I := MapInv) (f := fun s t => expireLease t s) (fun u t k => mapInv_expireLease k t) _ dots
  exact mapInv_of_only (only_advanceClock (settle s)) (by simp) (by simp) leases

/-! ## The gates -/

theorem mapInv_completePulse {s : State} (h : MapInv s) (l : Lane) (width : Nat) (bound : Bool) :
    MapInv (completePulse l width bound s) := by
  unfold completePulse
  split
  · unfold judgeDot
    dsimp only
    split
    · exact mapInv_arbiterPass (mapInv_of_only (only_changeSite _ _ _ _ _) (by simp) (by simp)
        (mapInv_of_only (only_setGate s l _) (by simp) (by simp) h))
    · exact mapInv_of_only (only_raiseTo _ _ _) (by simp) (by simp)
        (mapInv_of_only (only_handOnSettled _ _ _) (by simp) (by simp)
          (mapInv_of_only (only_changeSite _ _ _ _ _) (by simp) (by simp)
            (mapInv_of_only (only_setGate s l _) (by simp) (by simp) h)))
  · exact mapInv_of_only (only_raiseTo _ _ _) (by simp) (by simp) (mapInv_of_only (only_setGate s l _) (by simp) (by simp) h)

theorem mapInv_pulseSaturates {s : State} (h : MapInv s) (l : Lane) : MapInv (pulseSaturates l s) := by
  unfold pulseSaturates
  split
  · exact mapInv_completePulse (mapInv_of_only (only_setGate s l _) (by simp) (by simp) h) _ _ _
  · exact h

theorem mapInv_gateFalls {s : State} (h : MapInv s) (l : Lane) (width : Nat) : MapInv (gateFalls l width s) := by
  have set : ∀ x, MapInv (s.setGate l x) := fun x => mapInv_of_only (only_setGate s l x) (by simp) (by simp) h
  unfold gateFalls
  dsimp only
  split
  · exact h
  · split
    · exact set _
    · split
      · split
        · exact set _
        · exact mapInv_completePulse (set _) _ _ _
      · exact set _

theorem only_gateRises (l : Lane) (s : State) : OnlyChanges [.gates] s (gateRises l s) := by
  unfold gateRises
  dsimp only
  split
  · exact .refl _ s
  · split
    · exact only_setGate s l _
    · exact only_setGate s l _

theorem only_pulseBegins (l : Lane) (s : State) : OnlyChanges [.gates] s (pulseBegins l s) := by
  unfold pulseBegins
  split
  · exact only_setGate s l _
  · exact .refl _ s

theorem only_releaseReset (dual : Bool) (s : State) :
    OnlyChanges [.reset, .strap, .gates, .ports] s (releaseReset dual s) := by
  unfold releaseReset
  split
  · exact .refl _ s
  · simp [OnlyChanges, Part.list, Part.same]

theorem mapInv_reset : MapInv State.reset := by
  have law : ∀ b, DieCountLaw (State.reset.bank b) := fun b => by cases b <;> decide
  exact ⟨by decide, law .b0, law .b1, by decide⟩

/-- Everything that can happen keeps the laws of the map banks. -/
theorem mapInv_happens (s t : State) (h : MapInv s) (e : Happens s t) : MapInv t := by
  cases e with
  | nothing => exact h
  | ownWork => exact mapInv_of_only (only_catchUp s) (by simp [visitParts]) (by simp [visitParts]) h
  | frame k p body => exact mapInv_frameCheck h k p body
  | format p kind => exact mapInv_of_ports (only_answerAtPort p _ s) h
  | frameInHand k p body => exact mapInv_of_ports (only_keepInHand p _) (mapInv_frameCheck h k p body)
  | formatInHand p kind => exact mapInv_of_ports (only_keepInHand p _) (mapInv_of_ports (only_answerAtPort p _ s) h)
  | bitIn p octets bits => exact mapInv_of_ports (only_setLink s p _) h
  | bitOut p k r n m => exact mapInv_of_ports (only_setLink s p _) h
  | selFallPin p => exact mapInv_of_ports (only_setPort s p _) h
  | selFallOpens p => exact mapInv_of_ports (only_setPort s p _) h
  | selRisePin p => exact mapInv_of_ports (only_setPort s p _) h
  | selRiseCloses p => exact mapInv_closeLink (mapInv_of_ports (only_setPort s p _) h) p
  | frameExpiry p => exact mapInv_of_ports (only_expireFrame p s) h
  | leaseExpiry t => exact mapInv_expireLease h t
  | deadlineExpiry l => exact mapInv_of_only (only_expireDeadline l s) (by simp) (by simp) h
  | pairWaitExpiry p => exact mapInv_of_only (only_expirePairWait p s) (by simp) (by simp) h
  | dotWaitExpiry l => exact mapInv_of_only (only_expireDotWait l s) (by simp) (by simp) h
  | clockTick => exact mapInv_tick h
  | gateRise l => exact mapInv_of_only (only_gateRises l s) (by simp) (by simp) h
  | gateFall l width => exact mapInv_gateFalls h l width
  | pulseBegin l => exact mapInv_of_only (only_pulseBegins l s) (by simp) (by simp) h
  | pulseSaturation l => exact mapInv_pulseSaturates h l
  | resetAssert => exact mapInv_of_eq (s := State.reset) rfl rfl mapInv_reset
  | resetRelease dual => exact mapInv_of_only (only_releaseReset dual s) (by simp) (by simp) h

/-- Settles O57: the laws of the map banks are kept by everything that can happen, and the queue has no part in them. -/
theorem everyStepKeepsTheMaps : Obligations.EveryStepKeepsTheMaps := by
  unfold Obligations.EveryStepKeepsTheMaps
  exact step_keeps (fun s _ h => mapInv_of_eq (s := s) rfl rfl h) mapInv_happens

end Sys2Proof.Proofs
end

section
/-! PROOFS. The map and wafer requests that no pass follows: MAP_OPEN, MAP_ROWS, MAP_CLOSE, MAP_ABORT and WAFER_OUT. -/

namespace Sys2Proof.Proofs

open Sys2Proof Sys2Proof.Machine Sys2Proof.Safety

/-! ## Which bank is named -/

theorem loadingBank_none_iff (s : State) : s.loadingBank = none ↔ ∀ b ∈ bothBanks, (s.bank b).state ≠ .loading := by
  refine ⟨fun h b _ => loadingBank_eq_none h b, fun h => ?_⟩
  have n0 : s.banks.b0.state ≠ .loading := h .b0 (mem_bothBanks .b0)
  have n1 : s.banks.b1.state ≠ .loading := h .b1 (mem_bothBanks .b1)
  simp [State.loadingBank, n0, n1]

/-- R1: the LOADING bank is the one that is found. -/
theorem loadingBank_of_loading {s : State} (h : BankLaw s) {b : BankId} (l : (s.bank b).state = .loading) :
    s.loadingBank = some b := by
  cases b with
  | b0 => exact if_pos l
  | b1 =>
    have n0 : s.banks.b0.state ≠ .loading := fun e => h.1 ⟨e, l⟩
    have l1 : s.banks.b1.state = .loading := l
    simp [State.loadingBank, n0, l1]

theorem emptyBank_none_iff (s : State) : s.emptyBank = none ↔ ∀ b ∈ bothBanks, (s.bank b).state ≠ .empty := by
  constructor
  · intro h b _
    unfold State.emptyBank at h
    split at h
    · cases h
    · split at h
      · cases h
      · rename_i n0 n1; cases b; exacts [n0, n1]
  · intro h
    have n0 : s.banks.b0.state ≠ .empty := h .b0 (mem_bothBanks .b0)
    have n1 : s.banks.b1.state ≠ .empty := h .b1 (mem_bothBanks .b1)
    simp [State.emptyBank, n0, n1]

theorem emptyBank_of_lowest {s : State} {b : BankId} (e : (s.bank b).state = .empty)
    (lowest : b = .b1 → s.banks.b0.state ≠ .empty) : s.emptyBank = some b := by
  cases b with
  | b0 => exact if_pos e
  | b1 =>
    have e1 : s.banks.b1.state = .empty := e
    simp [State.emptyBank, lowest rfl, e1]

theorem activeBank_none_iff (s : State) : s.activeBank = none ↔ ∀ b ∈ bothBanks, (s.bank b).state ≠ .active := by
  constructor
  · intro h b _
    unfold State.activeBank at h
    split at h
    · cases h
    · split at h
      · cases h
      · rename_i n0 n1; cases b; exacts [n0, n1]
  · intro h
    have n0 : s.banks.b0.state ≠ .active := h .b0 (mem_bothBanks .b0)
    have n1 : s.banks.b1.state ≠ .active := h .b1 (mem_bothBanks .b1)
    simp [State.activeBank, n0, n1]

/-- R1: the ACTIVE bank is the one that is found. -/
theorem activeBank_of_active {s : State} (h : BankLaw s) {b : BankId} (a : (s.bank b).state = .active) :
    s.activeBank = some b := by
  cases b with
  | b0 => exact if_pos a
  | b1 =>
    have a1 : s.banks.b1.state = .active := a
    have n0 : s.banks.b0.state ≠ .active := fun e => h.2 ⟨onTable_of_active e, onTable_of_active a1⟩
    simp [State.activeBank, n0, a1]

/-! ## MAP_OPEN, MAP_CLOSE and MAP_ABORT -/

/-- R6: the check of the header is the ranges of its fields. -/
theorem headerOk_iff (b : MapBank) : b.headerOk = true ↔
    b.waferId ≠ 0 ∧ 1 ≤ b.cols ∧ b.cols ≤ 256 ∧ 1 ≤ b.rows ∧ b.rows ≤ 256 ∧ b.cols * b.rows ≤ 16384 ∧
      100 ≤ b.colPitch ∧ b.colPitch ≤ 50000 ∧ 100 ≤ b.rowPitch ∧ b.rowPitch ≤ 50000 := by
  have limit : Config.maxDie = 16384 := rfl
  simp only [MapBank.headerOk, MapBank.size, limit, Bool.and_eq_true, bne_iff_ne, decide_eq_true_eq, and_assoc]

theorem serveMapOpen_of_bad_header {p : Port} {body : List Octet} (s : State) (bad : ¬ (openedBank body).headerOk = true) :
    serveMapOpen p body s = reply p (resp .range []) s := by simp [serveMapOpen, bad]

theorem serveMapOpen_of_no_room {p : Port} {body : List Octet} {s : State} (good : (openedBank body).headerOk = true)
    (full : s.loadingBank.isSome = true ∨ s.emptyBank = none) : serveMapOpen p body s = reply p (resp .busy []) s := by
  rcases full with loads | none
  · simp [serveMapOpen, good, loads]
  · simp [serveMapOpen, good, none]

theorem serveMapOpen_of_empty {p : Port} {body : List Octet} {s : State} {b : BankId}
    (good : (openedBank body).headerOk = true) (quiet : s.loadingBank = none) (empty : s.emptyBank = some b) :
    serveMapOpen p body s = reply p (okResp [bankCode b]) (s.setBank b (openedBank body)) := by
  simp [serveMapOpen, good, quiet, empty]

theorem serveMapClose_of_none {p : Port} {body : List Octet} {s : State} (quiet : s.loadingBank = none) :
    serveMapClose p body s = reply p (resp .noMap []) s := by simp [serveMapClose, quiet]

theorem serveMapClose_of_agreeing {p : Port} {body : List Octet} {s : State} {b : BankId} (loads : s.loadingBank = some b)
    (agrees : (u16 body 0).toNat = (s.bank b).cols * (s.bank b).rows ∧
      (s.bank b).received = (s.bank b).cols * (s.bank b).rows ∧ u16 body 2 = (s.bank b).check) :
    serveMapClose p body s =
      reply p (okResp (bankCode b :: nat16 (s.bank b).available)) (s.setBank b { s.bank b with state := .staged }) := by
  simp [serveMapClose, loads, MapBank.size, agrees]

theorem serveMapClose_of_differing {p : Port} {body : List Octet} {s : State} {b : BankId} (loads : s.loadingBank = some b)
    (differs : ¬ ((u16 body 0).toNat = (s.bank b).cols * (s.bank b).rows ∧
      (s.bank b).received = (s.bank b).cols * (s.bank b).rows ∧ u16 body 2 = (s.bank b).check)) :
    serveMapClose p body s =
      reply p (resp .checkFail (nat16 (s.bank b).received ++ be16 (s.bank b).check)) (s.setBank b .blank) := by
  change ¬ (_ = (s.bank b).size ∧ _ = (s.bank b).size ∧ _) at differs
  simp only [serveMapClose, loads]
  exact if_neg (by simpa [and_assoc] using differs)

theorem serveMapAbort_of_none {p : Port} {body : List Octet} {s : State} (quiet : s.loadingBank = none) :
    serveMapAbort p body s = reply p (resp .noneHere []) s := by simp [serveMapAbort, quiet]

theorem serveMapAbort_of_loading {p : Port} {body : List Octet} {s : State} {b : BankId} (loads : s.loadingBank = some b) :
    serveMapAbort p body s = reply p (okResp [bankCode b]) (s.setBank b .blank) := by simp [serveMapAbort, loads]

/-- A request that sets one bank and answers. -/
theorem answersWith_setBank {k : Kind} {p : Port} {s : State} (b : BankId) (x : MapBank) (r : Response) :
    AnswersWith p k r [.banks] s (reply p r ((s.setLink p (.holding k)).setBank b x)) ∧
      (reply p r ((s.setLink p (.holding k)).setBank b x)).banks = s.banks.set b x :=
  ⟨answersWith_reply (only_setBank _ b x) (by simp) r, (only_reply p r _).banks_eq (by simp)⟩

/-- Settles O24: each request by the branch that its checks take. -/
theorem mapOpenedClosedAborted : Obligations.MapOpenedClosedAborted := by
  unfold Obligations.MapOpenedClosedAborted
  intro p body s law
  refine ⟨fun taken => ⟨fun bad => ?_, fun good full => ?_, fun good quiet b _ empty lowest => ?_⟩,
    fun taken => ⟨fun quiet => ?_, fun b _ loads => ⟨fun agrees => ?_, fun differs => ?_⟩⟩,
    fun taken => ⟨fun quiet => ?_, fun b _ loads => ?_⟩⟩
  · exact ⟨_, exec_of_served taken (serveMapOpen_of_bad_header _ fun h => bad ((headerOk_iff (openedBank body)).1 h)),
      answersWith_reply_held _⟩
  · have full' : s.loadingBank.isSome = true ∨ s.emptyBank = none := full.imp
      (fun ⟨b, _, l⟩ => by rw [loadingBank_of_loading law l]; rfl) (emptyBank_none_iff s).2
    exact ⟨_, exec_of_served taken (serveMapOpen_of_no_room ((headerOk_iff (openedBank body)).2 good) full'),
      answersWith_reply_held _⟩
  · exact ⟨_, exec_of_served taken (serveMapOpen_of_empty ((headerOk_iff (openedBank body)).2 good)
      ((loadingBank_none_iff s).2 quiet) (emptyBank_of_lowest empty lowest)), answersWith_setBank b (openedBank body) _⟩
  · exact ⟨_, exec_of_served taken (serveMapClose_of_none ((loadingBank_none_iff s).2 quiet)), answersWith_reply_held _⟩
  · exact ⟨_, exec_of_served taken (serveMapClose_of_agreeing (loadingBank_of_loading law loads) agrees),
      answersWith_setBank b { s.bank b with state := .staged } _⟩
  · exact ⟨_, exec_of_served taken (serveMapClose_of_differing (loadingBank_of_loading law loads) differs),
      answersWith_setBank b .blank _⟩
  · exact ⟨_, exec_of_served taken (serveMapAbort_of_none (body := body) ((loadingBank_none_iff s).2 quiet)), answersWith_reply_held _⟩
  · exact ⟨_, exec_of_served taken (serveMapAbort_of_loading (body := body) (loadingBank_of_loading law loads)),
      answersWith_setBank b .blank _⟩

/-! ## MAP_ROWS -/

/-- R7, R8: what the grades of a list leave of a bank whose die table is canonical: the header but the check, and each record. -/
theorem loadGrades_spec {b : MapBank} (wf : dieTableWf b.dies) (i : Nat) (gs : List Octet) :
    b.loadGrades i gs = { b with
      check := b.check + BitVec.ofNat 16 ((gs.zipIdx i).map (fun e => (e.2 + 1) * (e.1.setWidth 4).toNat)).sum
      available := (b.loadGrades i gs).available
      dies := (b.loadGrades i gs).dies } ∧
    ∀ j, dieAt (b.loadGrades i gs).dies j =
      if i ≤ j ∧ j < i + gs.length then loadedDie ((gs.getD (j - i) 0).setWidth 4) else dieAt b.dies j := by
  induction gs generalizing b i with
  | nil => exact ⟨by simp [MapBank.loadGrades], fun j => by simp [MapBank.loadGrades]⟩
  | cons g gs ih =>
    obtain ⟨header, die⟩ := ih (b := b.loadDie i (g.setWidth 4)) (putDie_wf wf i _) (i + 1)
    have next : b.loadGrades i (g :: gs) = (b.loadDie i (g.setWidth 4)).loadGrades (i + 1) gs := rfl
    have check : (b.loadDie i (g.setWidth 4)).check = b.check + BitVec.ofNat 16 ((i + 1) * (g.setWidth 4).toNat) := rfl
    rw [next]
    refine ⟨?_, fun j => ?_⟩
    · rw [header]
      simp only [check, List.zipIdx_cons, List.map_cons, List.sum_cons, BitVec.ofNat_add, BitVec.add_assoc]
      rfl
    · have here : dieAt (b.loadDie i (g.setWidth 4)).dies j = if j = i then loadedDie (g.setWidth 4) else dieAt b.dies j :=
        dieAt_putDie wf i j _
      rw [die j, here, List.length_cons]
      rcases Nat.lt_trichotomy j i with lt | rfl | gt
      · rw [if_neg (by omega), if_neg (by omega), if_neg (by omega)]
      · rw [if_neg (by omega), if_pos rfl, if_pos (by omega), Nat.sub_self]
        rfl
      · have index : j - i = (j - (i + 1)) + 1 := by omega
        rw [index, List.getD_cons_succ, if_neg (by omega : ¬ j = i)]
        by_cases inside : j < i + 1 + gs.length
        · rw [if_pos (by omega), if_pos (by omega)]
        · rw [if_neg (by omega), if_neg (by omega)]

theorem setWidth_four_toNat {g : Octet} (h : ¬ 15 < g.toNat) : (g.setWidth 4).toNat = g.toNat := by
  simp; omega

/-- R7: the record of a grade octet in range. -/
theorem loadedDie_of_octet {g : Octet} (h : ¬ 15 < g.toNat) : loadedDie (g.setWidth 4) =
    { grade := g.setWidth 4, state := if g = 0 then .reject else if g = 15 then .absent else .available, retry := 0 } := by
  have zero : g.setWidth 4 = (0 : Grade) ↔ g = 0 := by
    constructor <;> intro e
    · apply BitVec.eq_of_toNat_eq; have := congrArg BitVec.toNat e; rw [setWidth_four_toNat h] at this; simpa using this
    · rw [e]; rfl
  have fifteen : g.setWidth 4 = (15 : Grade) ↔ g = 15 := by
    constructor <;> intro e
    · apply BitVec.eq_of_toNat_eq; have := congrArg BitVec.toNat e; rw [setWidth_four_toNat h] at this; simpa using this
    · rw [e]; rfl
  simp only [loadedDie, zero, fifteen]

theorem serveMapRows_of_none {p : Port} {body : List Octet} {s : State} (quiet : s.loadingBank = none) :
    serveMapRows p body s = reply p (resp .noMap []) s := by simp [serveMapRows, quiet]

theorem serveMapRows_of_loading {p : Port} {body : List Octet} {s : State} {b : BankId} (loads : s.loadingBank = some b) :
    serveMapRows p body s =
      if (∃ g ∈ body.drop 3, 15 < g.toNat) ∨ (u16 body 0).toNat ≠ (s.bank b).received ∨
          (s.bank b).cols * (s.bank b).rows < (u16 body 0).toNat + (body.drop 3).length then reply p (resp .range []) s
      else
        let bank := (s.bank b).loadGrades (u16 body 0).toNat (body.drop 3)
        reply p (okResp (nat16 (bank.received + (body.drop 3).length) ++ be16 bank.check))
          (s.setBank b { bank with received := bank.received + (body.drop 3).length }) := by
  simp [serveMapRows, loads, gradesOfBody, MapBank.size, or_assoc]

theorem serveMapRows_of_refused {p : Port} {body : List Octet} {s : State} {b : BankId} (loads : s.loadingBank = some b)
    (refused : (∃ g ∈ body.drop 3, 15 < g.toNat) ∨ (u16 body 0).toNat ≠ (s.bank b).received ∨
      (s.bank b).cols * (s.bank b).rows < (u16 body 0).toNat + (body.drop 3).length) :
    serveMapRows p body s = reply p (resp .range []) s := by
  rw [serveMapRows_of_loading loads, if_pos refused]

/-- R7, R8: the bank that an accepted MAP_ROWS leaves. -/
def rowsLoaded (b : MapBank) (body : List Octet) : MapBank :=
  { b.loadGrades (u16 body 0).toNat (body.drop 3) with
    received := (b.loadGrades (u16 body 0).toNat (body.drop 3)).received + (body.drop 3).length }

theorem serveMapRows_of_accepted {p : Port} {body : List Octet} {s : State} {b : BankId} (loads : s.loadingBank = some b)
    (accepted : ¬ ((∃ g ∈ body.drop 3, 15 < g.toNat) ∨ (u16 body 0).toNat ≠ (s.bank b).received ∨
      (s.bank b).cols * (s.bank b).rows < (u16 body 0).toNat + (body.drop 3).length)) :
    serveMapRows p body s =
      reply p (okResp (nat16 (rowsLoaded (s.bank b) body).received ++ be16 (rowsLoaded (s.bank b) body).check))
        (s.setBank b (rowsLoaded (s.bank b) body)) := by
  rw [serveMapRows_of_loading loads, if_neg accepted]
  rfl

/-- R8: the terms of grades in range are those of their octets. -/
theorem check_terms {gs : List Octet} (inRange : ∀ g ∈ gs, ¬ 15 < g.toNat) (i : Nat) :
    ((gs.zipIdx i).map (fun e => (e.2 + 1) * (e.1.setWidth 4).toNat)).sum =
      (gs.zipIdx.map (fun e => (i + e.2 + 1) * e.1.toNat)).sum := by
  rw [List.zipIdx_eq_map_add (i := i), List.map_map]
  refine congrArg List.sum (List.map_congr_left fun e m => ?_)
  have g := inRange e.1 (List.fst_mem_of_mem_zipIdx m)
  simp only [Function.comp, setWidth_four_toNat g]

/-- R5, R7, R8: what an accepted MAP_ROWS leaves of its bank, field by field. -/
theorem rowsLoaded_eq {b : MapBank} (law : DieCountLaw b) (loads : b.state = .loading) {body : List Octet}
    (inRange : ∀ g ∈ body.drop 3, ¬ 15 < g.toNat) (next : (u16 body 0).toNat = b.received) :
    rowsLoaded b body = { b with
      received := (u16 body 0).toNat + (body.drop 3).length
      check := b.check + BitVec.ofNat 16 (((body.drop 3).zipIdx.map (fun e => ((u16 body 0).toNat + e.2 + 1) * e.1.toNat)).sum)
      available := ((rowsLoaded b body).dies.filter (fun e => e.2.state == .available)).length
      dies := (rowsLoaded b body).dies } := by
  have header := (loadGrades_spec law.1 (u16 body 0).toNat (body.drop 3)).1
  have available := (dieCountLaw_loadGrades law loads (u16 body 0).toNat (body.drop 3)).1.2.1
  rw [check_terms inRange] at header
  rw [show (rowsLoaded b body).dies.filter (fun e => e.2.state == .available) =
    (b.loadGrades (u16 body 0).toNat (body.drop 3)).dies.filter (fun e => e.2.isAvailable) from rfl, ← available]
  unfold rowsLoaded
  rw [header, next]

/-- Settles O25: each branch of the checks; an accepted list by what its grades leave of the bank. -/
theorem mapRowsLoaded : Obligations.MapRowsLoaded := by
  unfold Obligations.MapRowsLoaded
  intro p body s law taken
  refine ⟨fun quiet => ?_, fun b _ loads => ⟨fun refused => ?_, fun accepted => ?_⟩⟩
  · exact ⟨_, exec_of_served taken (serveMapRows_of_none ((loadingBank_none_iff s).2 quiet)), answersWith_reply_held _⟩
  · exact ⟨_, exec_of_served taken (serveMapRows_of_refused (loadingBank_of_loading law.states loads) refused),
      answersWith_reply_held _⟩
  · have inRange : ∀ g ∈ body.drop 3, ¬ 15 < g.toNat := fun g m h => accepted (.inl ⟨g, m, h⟩)
    have next : (u16 body 0).toNat = (s.bank b).received := by
      by_contra h; exact accepted (.inr (.inl h))
    have count := ((mapInv_iff s).1 law).1.dies b
    have die := (loadGrades_spec count.1 (u16 body 0).toNat (body.drop 3)).2
    have loaded := rowsLoaded_eq count loads inRange next
    have received := congrArg MapBank.received loaded
    have check := congrArg MapBank.check loaded
    dsimp only at received check
    obtain ⟨t, runs, answers, banks⟩ : ∃ t, exec (requestOf .mapRows p body) s = .next t ∧
        AnswersWith p .mapRows
          (okResp (nat16 (rowsLoaded (s.bank b) body).received ++ be16 (rowsLoaded (s.bank b) body).check)) [.banks] s t ∧
        t.banks = s.banks.set b (rowsLoaded (s.bank b) body) :=
      ⟨_, exec_of_served taken (serveMapRows_of_accepted (loadingBank_of_loading law.states loads) accepted),
        answersWith_setBank b _ _⟩
    have bank : t.bank b = rowsLoaded (s.bank b) body := by rw [State.bank, banks, PerBank.get_set_self]
    rw [received, check] at answers
    refine ⟨t, runs, answers, ?_, fun e m => ?_, fun i _ outside => ?_⟩
    · rw [bank]
      exact banks.trans (congrArg _ loaded)
    · obtain ⟨_, inside, entry_eq⟩ := List.mem_zipIdx m
      have lt : e.2 < (body.drop 3).length := by omega
      have entry : (body.drop 3).getD e.2 0 = e.1 := by rw [List.getD_eq_getElem _ _ lt, entry_eq]; rfl
      rw [bank]
      refine (die _).trans ?_
      rw [if_pos ⟨Nat.le_add_right _ _, Nat.add_lt_add_left lt _⟩, Nat.add_sub_cancel_left, entry]
      exact loadedDie_of_octet (inRange _ (List.fst_mem_of_mem_zipIdx m))
    · rw [bank]
      exact (die i).trans (if_neg (by omega))

/-! ## WAFER_OUT -/

theorem serveWaferOut_of_none {p : Port} {body : List Octet} {s : State} (none : s.activeBank = none) :
    serveWaferOut p body s = reply p (resp .noneHere []) s := by simp [serveWaferOut, none]

theorem serveWaferOut_of_active {p : Port} {body : List Octet} {s : State} {b : BankId} (active : s.activeBank = some b) :
    serveWaferOut p body s = reply p (okResp (be32 (s.bank b).waferId ++ [oct (s.bank b).refs]))
      (retireIfClear b (s.setBank b { s.bank b with state := .retiring })) := by simp [serveWaferOut, active]

/-- R14: a bank set to RETIRING stays so while it has a reference. -/
theorem retireIfClear_of_refs {b : BankId} {s : State} (h : (s.bank b).refs ≠ 0) : retireIfClear b s = s := by
  simp [retireIfClear, h]

theorem retireIfClear_of_clear {b : BankId} {s : State} (r : (s.bank b).state = .retiring) (h : (s.bank b).refs = 0) :
    retireIfClear b s = (raiseTo .wafer (.waferClear (s.bank b).waferId) s).setBank b .blank := by
  simp [retireIfClear, r, h]

/-! ## Raising to the port that holds a role (R134, R141) -/

theorem mem_allPorts (p : Port) : p ∈ allPorts := by fin_cases p <;> decide

/-- Where at most one port holds a role, a port that holds it is the one that is found. -/
theorem holder_of_role {s : State} {r : Role} (one : roleCount s r ≤ 1) {q : Port} (h : s.role q = r) : s.holder r = some q := by
  have mem : q ∈ allPorts.filter (fun p => s.role p == r) := by simp [mem_allPorts, h]
  cases found : s.holder r with
  | none =>
    have := List.find?_eq_none.1 found q (mem_allPorts q)
    simp [h] at this
  | some x =>
    have x_role : s.role x = r := by simpa using List.find?_some found
    have mem_x : x ∈ allPorts.filter (fun p => s.role p == r) := by simp [mem_allPorts, x_role]
    unfold roleCount at one
    obtain ⟨y, only⟩ := List.length_eq_one_iff.1 (le_antisymm one (List.length_pos_of_mem mem))
    rw [only, List.mem_singleton] at mem mem_x
    rw [mem, mem_x]

/-- R141: a raising to a role that at most one port holds changes the notice state of that port alone. -/
theorem notice_raiseTo {s : State} {r : Role} (one : roleCount s r ≤ 1) (x : Notice) (q : Port) :
    (raiseTo r x s).notice q = if s.role q = r then afterRaise x q s else s.notice q := by
  unfold raiseTo
  split
  · rename_i none
    rw [if_neg]
    intro e
    rw [holder_of_role one e] at none
    cases none
  · rename_i p found
    have p_role : s.role p = r := by simpa using List.find?_some found
    rw [notice_raiseAt]
    by_cases e : q = p
    · rw [if_pos e, if_pos (e ▸ p_role), e]
    · rw [if_neg e, if_neg]
      intro e'
      rw [holder_of_role one e'] at found
      exact e (Option.some.inj found)

/-- What a raising leaves depends on the roles and the notices alone. -/
theorem afterRaise_congr {s t : State} (roles : t.roles = s.roles) (notices : t.notices = s.notices) (x : Notice) (q : Port) :
    afterRaise x q t = afterRaise x q s := by
  unfold afterRaise
  rw [show t.role q = s.role q by simp only [State.role, roles], show t.notice q = s.notice q by simp only [State.notice, notices]]

theorem roleCount_congr {s t : State} (roles : t.roles = s.roles) (r : Role) : roleCount t r = roleCount s r := by
  simp only [roleCount, State.role, roles]

theorem notice_congr {s t : State} (notices : t.notices = s.notices) (q : Port) : t.notice q = s.notice q := by
  simp only [State.notice, notices]

/-- Settles O28: with no ACTIVE bank the answer alone; else by whether a pairing is in flight on it. -/
theorem waferLeaves : Obligations.WaferLeaves := by
  unfold Obligations.WaferLeaves
  intro p body s law taken
  refine ⟨fun none => ?_, fun b _ active => ?_⟩
  · exact ⟨_, exec_of_served taken (serveWaferOut_of_none (body := body) ((activeBank_none_iff s).2 none)),
      answersWith_reply_held _⟩
  · obtain ⟨held, held_eq⟩ : ∃ u, u = s.setLink p (.holding .waferOut) := ⟨_, rfl⟩
    obtain ⟨gone, gone_eq⟩ : ∃ u, u = held.setBank b { s.bank b with state := .retiring } := ⟨_, rfl⟩
    have bank : gone.bank b = { s.bank b with state := .retiring } := by rw [gone_eq, State.bank_setBank_self]
    have only : OnlyChanges [.banks, .notices] held (retireIfClear b gone) := by
      rw [gone_eq]; exact ((only_setBank held b _).mono (by simp)).trans (only_retireIfClear b _)
    have served : serveWaferOut p body held =
        reply p (okResp (be32 (s.bank b).waferId ++ [oct (s.bank b).refs])) (retireIfClear b gone) := by
      rw [gone_eq, held_eq]
      exact serveWaferOut_of_active (activeBank_of_active law.map.states active)
    have answered : ∀ r u, (reply p r u).banks = u.banks ∧ (reply p r u).notices = u.notices := fun r u =>
      ⟨(only_reply p r u).banks_eq (by simp), (only_reply p r u).notices_eq (by simp)⟩
    refine ⟨_, exec_of_served taken (held_eq ▸ served), answersWith_reply (held_eq ▸ only) (by simp) _, fun busy => ?_,
      fun clear => ?_⟩
    · rw [(answered _ _).1, (answered _ _).2, retireIfClear_of_refs (by rw [bank]; exact busy), gone_eq, held_eq]
      exact ⟨rfl, rfl⟩
    · have roles : gone.roles = s.roles := by rw [gone_eq, held_eq]; rfl
      have notices : gone.notices = s.notices := by rw [gone_eq, held_eq]; rfl
      have role : ∀ q, gone.role q = s.role q := fun q => by simp only [State.role, roles]
      have raised := (only_raiseTo .wafer (.waferClear (gone.bank b).waferId) gone).banks_eq (by simp)
      have one : roleCount gone .wafer ≤ 1 := by rw [roleCount_congr roles]; exact law.roles.2.2.2.2.1
      rw [(answered _ _).1, retireIfClear_of_clear (by rw [bank]) (by rw [bank]; exact clear)]
      refine ⟨?_, fun q => ?_⟩
      · show PerBank.set _ b _ = _
        rw [raised, gone_eq, held_eq]
        exact PerBank.set_set _ b _ _
      · rw [notice_congr (answered _ _).2, State.notice_setBank, notice_raiseTo one, role, bank, afterRaise_congr roles notices,
          notice_congr notices]

end Sys2Proof.Proofs
end

section
/-! PROOFS. Selection and the arbiter pass: what a found selection names, when an entry can be granted, that no change of a pass
makes it grantable later, and that a pass leaves its list blocked (R72, R76, R81, R83, R90, R108, R110). -/

namespace Sys2Proof.Proofs

open Sys2Proof Sys2Proof.Machine Sys2Proof.Safety

/-! ## The die search (R81, R82) -/

/-- A listed record is the one that its index reads. -/
theorem dieAt_of_mem {t : List (Nat × DieRecord)} (wf : dieTableWf t) {e : Nat × DieRecord} (m : e ∈ t) : dieAt t e.1 = e.2 := by
  induction t with
  | nil => cases m
  | cons d t ih =>
    obtain ⟨k, x⟩ := d
    have hp := List.pairwise_cons.1 wf.1
    rcases List.mem_cons.1 m with rfl | m
    · simp [dieAt]
    · have lt := hp.1 e m
      simp only [dieAt, if_neg (Nat.ne_of_gt lt)]
      exact ih ⟨hp.2, fun e m => wf.2 e (List.mem_cons_of_mem _ m)⟩ m

/-- An index that reads a record that is not blank is listed with it. -/
theorem mem_of_dieAt {t : List (Nat × DieRecord)} {i : Nat} (h : dieAt t i ≠ .blank) : (i, dieAt t i) ∈ t := by
  induction t with
  | nil => exact absurd rfl h
  | cons d t ih =>
    simp only [dieAt] at h ⊢
    split at h
    · rename_i e; rw [if_pos e, e]; exact List.mem_cons_self
    · rename_i ne; rw [if_neg ne]; exact List.mem_cons_of_mem _ (ih h)

theorem foldl_betterDie_mem (b : MapBank) (start : Pos) (es : List (Nat × DieRecord)) (best : Option (Nat × DieRecord))
    {d : Nat × DieRecord} (h : es.foldl (betterDie b start) best = some d) : d ∈ es ∨ best = some d := by
  induction es generalizing best with
  | nil => exact .inr h
  | cons e es ih =>
    rcases ih _ h with m | better
    · exact .inl (List.mem_cons_of_mem _ m)
    · unfold betterDie at better
      split at better
      · cases better; exact .inl List.mem_cons_self
      · split at better
        · cases better; exact .inl List.mem_cons_self
        · exact .inr better

theorem foldl_betterDie_isSome (b : MapBank) (start : Pos) (es : List (Nat × DieRecord)) (d : Nat × DieRecord) :
    (es.foldl (betterDie b start) (some d)).isSome = true := by
  induction es generalizing d with
  | nil => rfl
  | cons e es ih =>
    rw [List.foldl_cons, betterDie]
    split
    · exact ih e
    · exact ih d

/-- R81: the die that a search finds is listed and matches. -/
theorem dieSearch_mem {b : MapBank} {r : Reach} {start : Pos} {g : BitVec 16} {d : Nat × DieRecord}
    (h : dieSearch b r start g = some d) : d ∈ b.dies ∧ matchingDie b r g d = true := by
  rcases foldl_betterDie_mem b start _ none h with m | none
  · exact List.mem_filter.1 m
  · cases none

/-- R81: a search finds a die exactly where one matches. -/
theorem dieSearch_isSome_iff (b : MapBank) (r : Reach) (start : Pos) (g : BitVec 16) :
    (dieSearch b r start g).isSome = true ↔ ∃ e ∈ b.dies, matchingDie b r g e = true := by
  constructor
  · intro h
    obtain ⟨d, found⟩ := Option.isSome_iff_exists.1 h
    exact ⟨d, dieSearch_mem found⟩
  · rintro ⟨e, m, matching⟩
    unfold dieSearch
    have listed := List.mem_filter.2 ⟨m, matching⟩
    cases list : b.dies.filter (matchingDie b r g) with
    | nil => rw [list] at listed; cases listed
    | cons d es => exact foldl_betterDie_isSome b start es d

/-! ## Candidates and their order (R76, R77) -/

theorem mem_insertByAge (c d : Candidate) (cs : List Candidate) : d ∈ insertByAge c cs ↔ d = c ∨ d ∈ cs := by
  induction cs with
  | nil => simp [insertByAge]
  | cons e cs ih =>
    simp only [insertByAge]
    split
    · simp
    · simp only [List.mem_cons, ih]; tauto

/-- R77: the site order lists the candidates. -/
theorem mem_siteOrder (c : Candidate) (cs : List Candidate) : c ∈ siteOrder cs ↔ c ∈ cs := by
  have fold : ∀ acc : List Candidate, c ∈ cs.foldl (fun acc c => insertByAge c acc) acc ↔ c ∈ acc ∨ c ∈ cs := by
    induction cs with
    | nil => simp
    | cons d cs ih =>
      intro acc
      rw [List.foldl_cons, ih, mem_insertByAge, List.mem_cons]
      tauto
  rw [siteOrder, fold]
  simp

/-- R76: the candidates of a strip are its eligible WETTED sites. -/
theorem mem_stripCandidates {s : State} {l : Lane} {st : Strip} {c : Candidate} : c ∈ stripCandidates s l st ↔
    ∃ w, st.sites[c.site]? = some (.wetted w) ∧ eligibleAge (s.product st.product) (elapsed w s.clock) = true ∧
      c = { lane := l, arrival := st.arrival, stripId := st.id, product := st.product, site := c.site,
            age := elapsed w s.clock } := by
  unfold stripCandidates
  rw [List.mem_filterMap]
  constructor
  · rintro ⟨⟨x, i⟩, m, eq⟩
    cases x with
    | wetted w =>
      dsimp only at eq
      split at eq
      · rename_i eligible
        cases eq
        exact ⟨w, List.mem_zipIdx_iff_getElem?.1 m, eligible, rfl⟩
      · cases eq
    | _ => cases eq
  · rintro ⟨w, wet, eligible, eq⟩
    refine ⟨(.wetted w, c.site), List.mem_zipIdx_iff_getElem?.2 wet, ?_⟩
    dsimp only
    rw [if_pos eligible, ← eq]

theorem mem_candidates {s : State} {p : Port} {ch : LaneChoice} {c : Candidate} : c ∈ candidates s p ch ↔
    ∃ l, laneAllowed s p ch l = true ∧ ∃ st ∈ (s.lane l).strips, c ∈ stripCandidates s l st := by
  unfold candidates laneCandidates
  rw [List.mem_append]
  constructor
  · rintro (m | m) <;> split at m
    · rename_i a; exact ⟨.A, a, List.mem_flatMap.1 m⟩
    · cases m
    · rename_i a; exact ⟨.B, a, List.mem_flatMap.1 m⟩
    · cases m
  · rintro ⟨l, a, m⟩
    cases l
    · left; rw [if_pos a]; exact List.mem_flatMap.2 m
    · right; rw [if_pos a]; exact List.mem_flatMap.2 m

/-- R83: what a search through the sites names: one of them, and a die that matches for it. -/
theorem firstServed_spec {s : State} {p : Port} {bk : BankId} {cs : List Candidate} {f : Found}
    (h : firstServed s p bk cs = some f) : f.bank = bk ∧ f.cand ∈ cs ∧ (f.die, f.record) ∈ (s.bank bk).dies ∧
      matchingDie (s.bank bk) s.reach[p] (s.product f.cand.product).gradeSet (f.die, f.record) = true := by
  induction cs with
  | nil => cases h
  | cons c cs ih =>
    simp only [firstServed] at h
    split at h
    · rename_i d found
      cases h
      exact ⟨rfl, List.mem_cons_self, dieSearch_mem found⟩
    · obtain ⟨b, m, rest⟩ := ih h
      exact ⟨b, List.mem_cons_of_mem _ m, rest⟩

theorem firstServed_isSome_iff (s : State) (p : Port) (bk : BankId) (cs : List Candidate) :
    (firstServed s p bk cs).isSome = true ↔
      ∃ c ∈ cs, ∃ e ∈ (s.bank bk).dies, matchingDie (s.bank bk) s.reach[p] (s.product c.product).gradeSet e = true := by
  induction cs with
  | nil => simp [firstServed]
  | cons c cs ih =>
    simp only [firstServed, List.exists_mem_cons_iff]
    rw [← dieSearch_isSome_iff (start := s.lastPick[p])]
    split
    · rename_i d found; rw [found]; exact ⟨fun _ => .inl rfl, fun _ => rfl⟩
    · rename_i none; rw [none, ih]; exact ⟨.inr, fun h => h.resolve_left (by simp)⟩

/-- What a found selection names: the ACTIVE bank, a candidate site, and an AVAILABLE die of an accepted grade (R72, R76, R81). -/
theorem select_spec {s : State} {p : Port} {ch : LaneChoice} {f : Found} (h : select s p ch = .found f) :
    s.activeBank = some f.bank ∧ f.cand ∈ candidates s p ch ∧ (f.die, f.record) ∈ (s.bank f.bank).dies ∧
      matchingDie (s.bank f.bank) s.reach[p] (s.product f.cand.product).gradeSet (f.die, f.record) = true := by
  obtain ⟨active, served⟩ := select_found h
  obtain ⟨_, m, rest⟩ := firstServed_spec served
  exact ⟨active, (mem_siteOrder _ _).1 m, rest⟩

/-- R83: a selection finds exactly where a candidate and a die that matches for it stand. -/
theorem select_found_iff (s : State) (p : Port) (ch : LaneChoice) : (∃ f, select s p ch = .found f) ↔
    ∃ bk, s.activeBank = some bk ∧ ∃ c ∈ candidates s p ch, ∃ e ∈ (s.bank bk).dies,
      matchingDie (s.bank bk) s.reach[p] (s.product c.product).gradeSet e = true := by
  constructor
  · rintro ⟨f, found⟩
    obtain ⟨active, m, die, matching⟩ := select_spec found
    exact ⟨f.bank, active, f.cand, m, _, die, matching⟩
  · rintro ⟨bk, active, c, m, served⟩
    have order := (mem_siteOrder c _).2 m
    obtain ⟨f, found⟩ := Option.isSome_iff_exists.1 ((firstServed_isSome_iff s p bk _).2 ⟨c, order, served⟩)
    refine ⟨f, ?_⟩
    simp only [select, active]
    split
    · rename_i none; rw [none] at order; cases order
    · rw [found]

/-! ## Tickets (R90) -/

/-- R90: a ticket is found exactly where one of 1 to 255 is free. -/
theorem nextTicket_isSome_iff (s : State) : (nextTicket s).isSome = true ↔
    ∃ n, 1 ≤ n ∧ n ≤ 255 ∧ s.ticketHeld (BitVec.ofNat 8 n) = false := by
  unfold nextTicket
  rw [List.find?_isSome]
  constructor
  · rintro ⟨t, m, free⟩
    obtain ⟨k, _, rfl⟩ := List.mem_map.1 m
    exact ⟨(s.lastTicket.toNat + k) % 255 + 1, by omega, by omega, by simpa using free⟩
  · rintro ⟨n, low, high, free⟩
    have last := s.lastTicket.isLt
    refine ⟨BitVec.ofNat 8 n, List.mem_map.2 ⟨(n + 509 - s.lastTicket.toNat) % 255, List.mem_range.2 (by omega), ?_⟩,
      by simpa using free⟩
    congr 1
    omega

/-! ## When an entry can be granted -/

/-- R108: a try of the PAIR of this port and lane choice is granted. -/
def Grantable (s : State) (p : Port) (ch : LaneChoice) : Prop :=
  s.trace.canReserve = true ∧ (∃ f, select s p ch = .found f) ∧ (nextTicket s).isSome = true

theorem tryEntry_of_grantable {e : WaitEntry} {s : State} (h : Grantable s e.port e.choice) :
    ∃ f t, select s e.port e.choice = .found f ∧ nextTicket s = some t ∧ tryEntry e s = grantPair e.port f t s := by
  obtain ⟨room, ⟨f, found⟩, ticket⟩ := h
  obtain ⟨t, ticket⟩ := Option.isSome_iff_exists.1 ticket
  exact ⟨f, t, found, ticket, by simp [tryEntry, room, found, ticket]⟩

theorem tryEntry_of_not_grantable {e : WaitEntry} {s : State} (h : ¬ Grantable s e.port e.choice) :
    (∃ o, tryEntry e s = setObstacle e.port o s) ∨ tryEntry e s = s := by
  rcases tryEntry_cases e s with ⟨f, t, room, found, ticket, _⟩ | rest
  · exact absurd ⟨room, ⟨f, found⟩, by rw [ticket]; rfl⟩ h
  · exact rest

/-- What a selection and the try of an entry read. -/
theorem grantable_congr {s t : State} (clock : t.clock = s.clock) (products : t.products = s.products)
    (banks : t.banks = s.banks) (lanes : t.lanes = s.lanes) (reach : t.reach = s.reach) (trace : t.trace = s.trace)
    (pairings : t.pairings = s.pairings) (ring : t.ring = s.ring) (p : Port) (ch : LaneChoice) :
    Grantable t p ch ↔ Grantable s p ch := by
  have cands : candidates t p ch = candidates s p ch := by
    cases s; cases t
    dsimp only at clock products lanes reach
    subst clock products lanes reach
    rfl
  have found : (∃ f, select t p ch = .found f) ↔ ∃ f, select s p ch = .found f := by
    rw [select_found_iff, select_found_iff, cands]
    simp only [State.activeBank, State.bank, State.product, banks, reach, products]
  have ticket : (nextTicket t).isSome = true ↔ (nextTicket s).isSome = true := by
    rw [nextTicket_isSome_iff, nextTicket_isSome_iff]
    simp only [State.ticketHeld, pairings, ring]
  rw [Grantable, Grantable, found, ticket, trace]

theorem grantable_of_only {parts : List Part} {s t : State} (o : OnlyChanges parts s t)
    (n : ∀ part ∈ [Part.clock, .products, .banks, .lanes, .reach, .trace, .pairings, .ring], part ∉ parts) (p : Port)
    (ch : LaneChoice) : Grantable t p ch ↔ Grantable s p ch :=
  grantable_congr (o.clock_eq (n _ (by simp))) (o.products_eq (n _ (by simp))) (o.banks_eq (n _ (by simp)))
    (o.lanes_eq (n _ (by simp))) (o.reach_eq (n _ (by simp))) (o.trace_eq (n _ (by simp)))
    (o.pairings_eq (n _ (by simp))) (o.ring_eq (n _ (by simp))) p ch

/-! ## What a grant leaves of what a selection reads -/

theorem lanes_grantPair (p : Port) (f : Found) (t : Ticket) (s : State) :
    (grantPair p f t s).lanes = (pairSite f t s).lanes := by
  have claimed : (claimDie f { s with lastTicket := t }).lanes = s.lanes := (only_claimDie f _).lanes_eq (by simp)
  have site : ∀ u : State, u.lanes = s.lanes → (pairSite f t u).lanes = (pairSite f t s).lanes := by
    intro u eq
    have lane : ∀ l, u.lane l = s.lane l := fun l => by simp only [State.lane, eq]
    simp only [pairSite, changeSite, State.site, State.strip, lane]
    split
    · split
      · exact eq
      · simp only [State.setLane, eq]
    · exact eq
  unfold grantPair
  dsimp only
  rw [(only_handOver p _ _ _).lanes_eq (by simp)]
  exact site _ claimed

theorem trace_grantPair (p : Port) (f : Found) (t : Ticket) (s : State) :
    (grantPair p f t s).trace = { s.trace with reservations := s.trace.reservations + 1 } := by
  unfold grantPair
  dsimp only
  rw [(only_handOver p _ _ _).trace_eq (by simp)]
  simp only [removeEntry]
  rw [(only_pairSite f t _).trace_eq (by simp), (only_claimDie f _).trace_eq (by simp)]

theorem waitList_grantPair (p : Port) (f : Found) (t : Ticket) (s : State) :
    (grantPair p f t s).waitList = s.waitList.filter (fun e => e.port != p) := by
  unfold grantPair
  dsimp only
  rw [(only_handOver p _ _ _).waitList_eq (by simp)]
  simp only [removeEntry]
  rw [(only_pairSite f t _).waitList_eq (by simp), (only_claimDie f _).waitList_eq (by simp)]

/-- A strip whose arrival number is changed by nothing: each strip after an update is one from before, or the updated one. -/
theorem mem_updateStrip {a : BitVec 32} {f : Strip → Strip} {strips : List Strip} {x : Strip} (m : x ∈ updateStrip a f strips) :
    x ∈ strips ∨ ∃ st ∈ strips, st.arrival = a ∧ x = f st := by
  induction strips with
  | nil => cases m
  | cons st strips ih =>
    simp only [updateStrip] at m
    split at m
    · rename_i e
      rcases List.mem_cons.1 m with rfl | m
      · exact .inr ⟨st, List.mem_cons_self, e, rfl⟩
      · exact .inl (List.mem_cons_of_mem _ m)
    · rcases List.mem_cons.1 m with rfl | m
      · exact .inl List.mem_cons_self
      · rcases ih m with m | ⟨y, m, rest⟩
        · exact .inl (List.mem_cons_of_mem _ m)
        · exact .inr ⟨y, List.mem_cons_of_mem _ m, rest⟩

/-- R92, step 3: pairing a site adds no candidate. -/
theorem candidates_pairSite {f : Found} {t : Ticket} {s : State} {p : Port} {ch : LaneChoice} {c : Candidate}
    (h : c ∈ candidates (pairSite f t s) p ch) : c ∈ candidates s p ch := by
  unfold pairSite at h
  split at h
  · rename_i w wet
    rw [changeSite_of_some wet] at h
    rw [mem_candidates] at h ⊢
    obtain ⟨l, allowed, st, m, cand⟩ := h
    by_cases e : l = f.cand.lane
    · subst e
      rw [State.lane_setLane_self] at m
      rcases mem_updateStrip m with same | ⟨old, listed, _, rfl⟩
      · exact ⟨_, allowed, st, same, cand⟩
      · refine ⟨_, allowed, old, listed, ?_⟩
        rw [mem_stripCandidates] at cand ⊢
        obtain ⟨v, site, rest⟩ := cand
        refine ⟨v, ?_, rest⟩
        simp only [Strip.withSite, List.getElem?_set] at site
        split at site
        · split at site <;> simp at site
        · exact site
    · rw [State.lane_setLane_of_ne s _ e] at m
      exact ⟨l, allowed, st, m, cand⟩
  · exact h

/-- A bank with a die claimed offers no die that it did not offer before. -/
theorem matchingDie_withDie {b : MapBank} {i : Nat} {r : DieRecord} (n : r.isAvailable = false) {reach : Reach} {g : BitVec 16}
    {e : Nat × DieRecord} (m : e ∈ (b.withDie i r).dies) (h : matchingDie (b.withDie i r) reach g e = true) :
    e ∈ b.dies ∧ matchingDie b reach g e = true := by
  rcases mem_putDie m with ⟨rfl, _⟩ | m
  · simp [matchingDie, n] at h
  · exact ⟨m, h⟩

/-- R110: a grant makes no other PAIR grantable. -/
theorem grantable_of_grantPair {p q : Port} {f : Found} {t : Ticket} {s : State} {ch : LaneChoice}
    (h : Grantable (grantPair p f t s) q ch) : Grantable s q ch := by
  obtain ⟨room, found, ticket⟩ := h
  have only := only_grantPair p f t s
  have reach : (grantPair p f t s).reach = s.reach := only.reach_eq (by simp [passParts])
  have products : (grantPair p f t s).products = s.products := only.products_eq (by simp [passParts])
  have clock : (grantPair p f t s).clock = s.clock := only.clock_eq (by simp [passParts])
  have bank := bank_grantPair p f t s
  have state : ∀ k, ((grantPair p f t s).bank k).state = (s.bank k).state := fun k => by
    rw [bank]; split
    · rename_i e; rw [e]; rfl
    · rfl
  refine ⟨?_, ?_, ?_⟩
  · rw [trace_grantPair] at room
    simp only [TraceQueue.canReserve, decide_eq_true_eq] at room ⊢
    omega
  · rw [select_found_iff] at found ⊢
    obtain ⟨bk, active, c, m, e, die, matching⟩ := found
    have s0 : (grantPair p f t s).banks.b0.state = s.banks.b0.state := state .b0
    have s1 : (grantPair p f t s).banks.b1.state = s.banks.b1.state := state .b1
    have product : (grantPair p f t s).product c.product = s.product c.product := by simp only [State.product, products]
    refine ⟨bk, by simpa only [State.activeBank, s0, s1] using active, c, ?_, e, ?_⟩
    · refine candidates_pairSite (f := f) (t := t) ?_
      have same : candidates (grantPair p f t s) q ch = candidates (pairSite f t s) q ch := by
        have lanes := lanes_grantPair p f t s
        have o := only_pairSite f t s
        have r := reach.trans (o.reach_eq (by simp)).symm
        have pr := products.trans (o.products_eq (by simp)).symm
        have cl := clock.trans (o.clock_eq (by simp)).symm
        generalize grantPair p f t s = u at lanes r pr cl
        generalize pairSite f t s = v at lanes r pr cl
        cases u; cases v
        dsimp only at lanes r pr cl
        subst lanes r pr cl
        rfl
      rw [← same]
      exact m
    · rw [bank] at die matching
      rw [product, reach] at matching
      split at die
      · rename_i eq
        rw [if_pos eq] at matching
        subst eq
        exact matchingDie_withDie (r := { f.record with state := .claimed }) rfl die matching
      · rename_i ne
        rw [if_neg ne] at matching
        exact ⟨die, matching⟩
  · rw [nextTicket_isSome_iff] at ticket ⊢
    obtain ⟨n, low, high, free⟩ := ticket
    refine ⟨n, low, high, ?_⟩
    have ring : (grantPair p f t s).ring = s.ring := only.ring_eq (by simp [passParts])
    simp only [State.ticketHeld, pairings_grantPair, ring, List.any_append, Bool.or_eq_false_iff] at free ⊢
    exact ⟨free.1.1, free.2⟩

/-- R110: a try of one entry makes no PAIR grantable that was not. -/
theorem grantable_of_tryEntry {e : WaitEntry} {s : State} {q : Port} {ch : LaneChoice} (h : Grantable (tryEntry e s) q ch) :
    Grantable s q ch := by
  rcases tryEntry_cases e s with ⟨f, t, _, _, _, eq⟩ | ⟨o, eq⟩ | eq <;> rw [eq] at h
  · exact grantable_of_grantPair h
  · exact (grantable_of_only (only_setObstacle e.port o s) (by simp) q ch).1 h
  · exact h

/-! ## A pass leaves its list blocked -/

/-- R110: no entry of the wait list can be granted. -/
def Stuck (s : State) : Prop := ∀ e ∈ s.waitList, ¬ Grantable s e.port e.choice

/-- An entry of the list before an obstacle was set: the same port and lane choice. -/
theorem mem_setObstacle {p : Port} {o : Obstacle} {s : State} {e : WaitEntry} (m : e ∈ (setObstacle p o s).waitList) :
    ∃ d ∈ s.waitList, d.port = e.port ∧ d.choice = e.choice ∧ d.level = e.level ∧ d.start = e.start ∧ d.length = e.length := by
  obtain ⟨d, md, eq⟩ := List.mem_map.1 m
  refine ⟨d, md, ?_⟩
  split at eq <;> subst eq <;> exact ⟨rfl, rfl, rfl, rfl, rfl⟩

/-- Every entry that a try leaves on the list was there before, with the same port, choice, level and timer. -/
theorem mem_tryEntry {x : WaitEntry} {s : State} {e : WaitEntry} (m : e ∈ (tryEntry x s).waitList) :
    ∃ d ∈ s.waitList, d.port = e.port ∧ d.choice = e.choice ∧ d.level = e.level ∧ d.start = e.start ∧ d.length = e.length := by
  rcases tryEntry_cases x s with ⟨f, t, _, _, _, eq⟩ | ⟨o, eq⟩ | eq <;> rw [eq] at m
  · rw [waitList_grantPair] at m
    exact ⟨e, (List.mem_filter.1 m).1, rfl, rfl, rfl, rfl, rfl⟩
  · exact mem_setObstacle m
  · exact ⟨e, m, rfl, rfl, rfl, rfl, rfl⟩

/-- A walk through every entry that could be granted leaves none that can. -/
theorem stuck_walk (es : List WaitEntry) (s : State)
    (h : ∀ e ∈ s.waitList, (∃ d ∈ es, d.port = e.port ∧ d.choice = e.choice) ∨ ¬ Grantable s e.port e.choice) :
    Stuck (walk es s) := by
  induction es generalizing s with
  | nil => exact fun e m => (h e m).resolve_left (by simp)
  | cons x es ih =>
    refine ih _ fun e m => ?_
    obtain ⟨d, md, port, choice, _⟩ := mem_tryEntry m
    rcases h d md with ⟨y, my, py, cy⟩ | blocked
    · rcases List.mem_cons.1 my with rfl | my
      · by_cases g : Grantable s y.port y.choice
        · obtain ⟨f, t, _, _, eq⟩ := tryEntry_of_grantable g
          rw [eq, waitList_grantPair, List.mem_filter] at m
          exact absurd (py.trans port).symm (by simpa using m.2)
        · refine .inr fun g' => g ?_
          rw [py, cy, port, choice]
          exact grantable_of_tryEntry g'
      · exact .inl ⟨y, my, py.trans port, cy.trans choice⟩
    · refine .inr fun g' => blocked ?_
      rw [port, choice]
      exact grantable_of_tryEntry g'

/-- R110: after a pass no entry of the list can be granted. -/
theorem stuck_arbiterPass (s : State) : Stuck (arbiterPass s) :=
  stuck_walk s.waitList s fun e m => .inl ⟨e, m, rfl, rfl⟩

/-- A walk in which no entry can be granted changes obstacles alone. -/
theorem only_walk_of_not_grantable (es : List WaitEntry) (s : State) (h : ∀ e ∈ es, ¬ Grantable s e.port e.choice) :
    OnlyChanges [.waitList] s (walk es s) := by
  induction es generalizing s with
  | nil => exact .refl _ s
  | cons e es ih =>
    refine OnlyChanges.trans ?_ (ih _ fun d m g => h d (List.mem_cons_of_mem _ m) (grantable_of_tryEntry g))
    rcases tryEntry_of_not_grantable (h e List.mem_cons_self) with ⟨o, eq⟩ | eq <;> rw [eq]
    · exact only_setObstacle e.port o s
    · exact .refl _ s

/-- A list of which no entry can be granted is blocked. -/
theorem blocked_of_stuck {s : State} (h : Stuck s) : Blocked s :=
  (only_walk_of_not_grantable s.waitList s h).pairings_eq (by simp)

theorem stuck_of_only {parts : List Part} {s t : State} (o : OnlyChanges parts s t)
    (n : ∀ part ∈ [Part.clock, .products, .banks, .lanes, .reach, .trace, .pairings, .ring, .waitList], part ∉ parts)
    (h : Stuck s) : Stuck t := by
  intro e m g
  rw [o.waitList_eq (n _ (by simp))] at m
  exact h e m ((grantable_of_only o (fun part mp => n part (by simp at mp ⊢; tauto)) e.port e.choice).1 g)

/-- The passes of a signal leave the list blocked, where there is one at least. -/
theorem stuck_arbiterPasses (n : Nat) (s : State) : Stuck (arbiterPasses (n + 1) s) := by
  induction n generalizing s with
  | zero => exact stuck_arbiterPass s
  | succ n ih => exact ih _

theorem blocked_reply_passes (p : Port) (r : Response) (n : Nat) (s : State) : Blocked (reply p r (arbiterPasses (n + 1) s)) :=
  blocked_of_stuck (stuck_of_only (only_reply p r _) (by simp) (stuck_arbiterPasses n s))

theorem kept_arbiterPasses {moved : List Port} (n : Nat) (s : State) (h : ∀ q ∈ waitPorts s, q ∈ moved) :
    PortsKept moved s (arbiterPasses n s) := by
  have fewer : ∀ u, (∀ q ∈ waitPorts u, q ∈ moved) → ∀ q ∈ waitPorts (arbiterPass u), q ∈ moved := by
    intro u k
    refine arbiterPass_keeps (I := fun u => ∀ q ∈ waitPorts u, q ∈ moved) (fun e v k q m => ?_) k
    obtain ⟨x, mx, rfl⟩ := List.mem_map.1 m
    obtain ⟨d, md, port, _⟩ := mem_tryEntry mx
    exact k _ (List.mem_map.2 ⟨d, md, port⟩)
  induction n generalizing s with
  | zero => exact kept_of_ports_eq rfl _
  | succ n ih => exact kept_trans (kept_mono (kept_arbiterPass s) h) (ih _ (fewer s h))

end Sys2Proof.Proofs
end

section
/-! PROOFS. DIE_MARK and WAFER_IN: the requests of the Map Store that a pass may follow (R5, R11, R12, R16, R17, R18). -/

namespace Sys2Proof.Proofs

open Sys2Proof Sys2Proof.Machine Sys2Proof.Safety

/-! ## The branches of DIE_MARK -/

theorem bankOfCode_bankCode (b : BankId) : bankOfCode (bankCode b) = some b := by cases b <;> rfl

theorem bankOfCode_eq_none {o : Octet} (h : ∀ b ∈ bothBanks, o ≠ bankCode b) : bankOfCode o = none := by
  have h0 : o ≠ 0 := h .b0 (mem_bothBanks .b0)
  have h1 : o ≠ 1 := h .b1 (mem_bothBanks .b1)
  rw [bankOfCode, if_neg h0, if_neg h1]

theorem actionOfCode_eq_none {o : Octet} (h : o ≠ 1 ∧ o ≠ 2) : actionOfCode o = none := by
  rw [actionOfCode, if_neg h.1, if_neg h.2]

theorem serveDieMark_of_bad_code {p : Port} {body : List Octet} (s : State)
    (bad : bankOfCode (u8 body 0) = none ∨ actionOfCode (u8 body 3) = none) :
    serveDieMark p body s = reply p (resp .range []) s := by
  unfold serveDieMark
  dsimp only
  split
  · rename_i b a hb ha
    rcases bad with bad | bad
    · rw [bad] at hb; cases hb
    · rw [bad] at ha; cases ha
  · rfl

section Branches

variable {p : Port} {body : List Octet} {s : State} {b : BankId} {a : MarkAction} (hb : u8 body 0 = bankCode b)
  (ha : actionOfCode (u8 body 3) = some a)

include hb ha

theorem serveDieMark_of_no_map (n : ¬ (s.bank b).holdsMap = true) : serveDieMark p body s = reply p (resp .noMap []) s := by
  simp [serveDieMark, hb, bankOfCode_bankCode, ha, n]

theorem serveDieMark_of_outside (m : (s.bank b).holdsMap = true) (out : (s.bank b).size ≤ (u16 body 1).toNat) :
    serveDieMark p body s = reply p (resp .range []) s := by
  simp [serveDieMark, hb, bankOfCode_bankCode, ha, m, out]

theorem serveDieMark_of_busy (m : (s.bank b).holdsMap = true) (inside : (u16 body 1).toNat < (s.bank b).size)
    (busy : (dieAt (s.bank b).dies (u16 body 1).toNat).state = .claimed ∨
      (dieAt (s.bank b).dies (u16 body 1).toNat).state = .picked) :
    serveDieMark p body s = reply p (resp .busy (dieBody (dieAt (s.bank b).dies (u16 body 1).toNat))) s := by
  rcases busy with busy | busy <;>
    simp [serveDieMark, hb, bankOfCode_bankCode, ha, m, Nat.not_le.2 inside, busy]

theorem serveDieMark_of_none (m : (s.bank b).holdsMap = true) (inside : (u16 body 1).toNat < (s.bank b).size)
    (nc : (dieAt (s.bank b).dies (u16 body 1).toNat).state ≠ .claimed)
    (np : (dieAt (s.bank b).dies (u16 body 1).toNat).state ≠ .picked)
    (none : markedDie a (dieAt (s.bank b).dies (u16 body 1).toNat) = none) :
    serveDieMark p body s = reply p (resp .noneHere (dieBody (dieAt (s.bank b).dies (u16 body 1).toNat))) s := by
  simp [serveDieMark, hb, bankOfCode_bankCode, ha, m, Nat.not_le.2 inside, nc, np, none]

theorem serveDieMark_of_marked (m : (s.bank b).holdsMap = true) (inside : (u16 body 1).toNat < (s.bank b).size)
    (nc : (dieAt (s.bank b).dies (u16 body 1).toNat).state ≠ .claimed)
    (np : (dieAt (s.bank b).dies (u16 body 1).toNat).state ≠ .picked) {r : DieRecord}
    (marked : markedDie a (dieAt (s.bank b).dies (u16 body 1).toNat) = some r) :
    serveDieMark p body s = reply p (okResp (dieBody r))
      (arbiterPasses (markSignals a ((changeDie b (u16 body 1).toNat r s).bank b)) (changeDie b (u16 body 1).toNat r s)) := by
  simp [serveDieMark, hb, bankOfCode_bankCode, ha, m, Nat.not_le.2 inside, nc, np, marked]

end Branches

theorem holdsMap_iff (b : MapBank) : b.holdsMap = true ↔ b.state = .staged ∨ b.state = .active ∨ b.state = .retiring := by
  simp [MapBank.holdsMap, or_assoc]

/-! ## REJECT -/

theorem isAvailable_iff (r : DieRecord) : r.isAvailable = true ↔ r.state = .available := by simp [DieRecord.isAvailable]

/-- R5: the count that a die leaving AVAILABLE, or staying out of it, leaves. -/
theorem recount_to_unavailable (n : Nat) (r : DieRecord) : recount n r.isAvailable false =
    n - if r.state = .available then 1 else 0 := by
  simp only [recount, isAvailable_iff]
  simp

/-- An AVAILABLE die of a bank is counted by it (R5). -/
theorem available_pos {b : MapBank} (law : DieCountLaw b) {i : Nat} (h : (dieAt b.dies i).isAvailable = true) :
    0 < b.available := by
  rw [law.2.1]
  exact availableIn_pos h

/-- R16: what a die change leaves of the notices: WAFER_EXHAUSTED where it takes the ACTIVE bank's last AVAILABLE die. -/
theorem notice_changeDie {s : State} (one : roleCount s .wafer ≤ 1) {b : BankId} (law : DieCountLaw (s.bank b)) (i : Nat)
    {r : DieRecord} (n : r.isAvailable = false) (q : Port) :
    (changeDie b i r s).notice q =
      if s.role q = .wafer ∧ (s.bank b).state = .active ∧ (dieAt (s.bank b).dies i).state = .available ∧
          (s.bank b).available = 1 then
        afterRaise (.waferExhausted (s.bank b).waferId) q s else s.notice q := by
  have count : ((s.bank b).withDie i r).available = recount (s.bank b).available (dieAt (s.bank b).dies i).isAvailable
    r.isAvailable := rfl
  unfold changeDie
  dsimp only
  rw [count, n, recount_to_unavailable]
  by_cases c : (s.bank b).state = .active ∧ (dieAt (s.bank b).dies i).state = .available ∧ (s.bank b).available = 1
  · obtain ⟨active, available, last⟩ := c
    rw [if_pos (by simp [active, isAvailable_iff, available, last]), notice_raiseTo (s := s.setBank b _) one]
    simp only [active, available, last, and_true]
    rfl
  · rw [if_neg, if_neg fun x => c x.2]
    · rfl
    · intro x
      simp only [Bool.and_eq_true, decide_eq_true_eq, isAvailable_iff, beq_iff_eq] at x
      obtain ⟨⟨⟨active, available⟩, _⟩, gone⟩ := x
      have pos := available_pos law ((isAvailable_iff _).2 available)
      rw [if_pos available] at gone
      exact c ⟨active, available, by omega⟩

/-! ## READMIT and its passes -/

/-- What stands after a READMIT and any number of grants of its passes: the count of the bank, less one for each grant on it,
and the die, which a pass may have claimed. -/
structure Readmitted (b : BankId) (i : Nat) (r : DieRecord) (s u : State) : Prop where
  maps : MapInv u
  states : ∀ k, (u.bank k).state = (s.bank k).state
  more : s.pairings.length ≤ u.pairings.length
  count : (u.bank b).available + (if (s.bank b).state = .active then u.pairings.length - s.pairings.length else 0) =
    (s.bank b).available + 1
  die : dieAt (u.bank b).dies i = { r with state := .available, retry := 0 } ∨
    ((s.bank b).state = .active ∧ dieAt (u.bank b).dies i = { r with state := .claimed, retry := 0 })

theorem readmitted_changeDie {s : State} (h : MapInv s) {b : BankId} (ne : (s.bank b).state ≠ .empty) {i : Nat} {r : DieRecord}
    (read : dieAt (s.bank b).dies i = r) (suspect : r.state = .suspect) :
    Readmitted b i r s (changeDie b i { r with state := .available, retry := 0 } s) := by
  have bank := fun k => bank_changeDie b k i { r with state := .available, retry := 0 } s
  have pairings := (only_changeDie b i { r with state := .available, retry := 0 } s).pairings_eq (by simp)
  have law := ((mapInv_iff s).1 h).1.dies b
  refine ⟨mapInv_changeDie h ne _ _, fun k => ?_, by rw [pairings], ?_, .inl ?_⟩
  · rw [bank]; split
    · rename_i e; rw [e]; rfl
    · rfl
  · rw [bank, if_pos rfl, pairings, Nat.sub_self, ite_self]
    have was : (dieAt (s.bank b).dies i).isAvailable = false := by rw [read]; simp [DieRecord.isAvailable, suspect]
    show recount _ _ _ = _
    rw [was]
    rfl
  · rw [bank, if_pos rfl, withDie_dies, dieAt_putDie law.1, if_pos rfl]

/-- What a grant does to the bank that it takes its die from: the die was AVAILABLE there and is CLAIMED now. -/
theorem grant_claims {u : State} (h : MapInv u) {p : Port} {ch : LaneChoice} {f : Found} (found : select u p ch = .found f) :
    (u.bank f.bank).state = .active ∧ dieAt (u.bank f.bank).dies f.die = f.record ∧ f.record.isAvailable = true := by
  obtain ⟨active, _, listed, matching⟩ := select_spec found
  have wf := (((mapInv_iff u).1 h).1.dies f.bank).1
  refine ⟨activeBank_state active, dieAt_of_mem wf listed, ?_⟩
  simp only [matchingDie, Bool.and_eq_true] at matching
  exact matching.1.1

/-- R1: a grant takes its die from the one bank that is ACTIVE. -/
theorem active_unique {s : State} (h : BankLaw s) {b k : BankId} (hb : (s.bank b).state = .active)
    (hk : (s.bank k).state = .active) : b = k := by
  have := activeBank_of_active h hb
  rw [activeBank_of_active h hk] at this
  exact (Option.some.inj this).symm

theorem readmitted_grantPair {s u : State} {b : BankId} {i : Nat} {r : DieRecord} (h : Readmitted b i r s u) {p : Port}
    {ch : LaneChoice} {f : Found} (found : select u p ch = .found f) (t : Ticket) :
    Readmitted b i r s (grantPair p f t u) := by
  obtain ⟨active, read, available⟩ := grant_claims h.maps found
  have bank := bank_grantPair p f t u
  have law := ((mapInv_iff u).1 h.maps).1.dies f.bank
  have longer : (grantPair p f t u).pairings.length = u.pairings.length + 1 := by rw [pairings_grantPair]; simp
  refine ⟨mapInv_grantPair h.maps p f t active, fun k => ?_, by rw [longer]; exact h.more.trans (Nat.le_succ _), ?_, ?_⟩
  · rw [bank, ← h.states k]; split
    · rename_i e; rw [e]; rfl
    · rfl
  · have count := h.count
    have more := h.more
    rw [bank, longer]
    by_cases e : b = f.bank
    · subst e
      have pos := available_pos law (i := f.die) (by rw [read]; exact available)
      rw [h.states] at active
      rw [if_pos active] at count ⊢
      rw [if_pos rfl]
      have less : ((u.bank f.bank).withDie f.die { f.record with state := .claimed }).available =
          (u.bank f.bank).available - 1 := by
        show recount _ _ _ = _
        rw [read, available]
        rfl
      show ((u.bank f.bank).withDie f.die { f.record with state := .claimed }).available + _ = _
      rw [less]
      omega
    · rw [if_neg e]
      have off : (s.bank b).state ≠ .active := fun on =>
        e (active_unique h.maps.states (by rw [h.states]; exact on) active)
      rw [if_neg off] at count ⊢
      exact count
  · rw [bank]
    split
    · rename_i e
      subst e
      show dieAt (putDie _ _ _) i = _ ∨ _ ∧ dieAt (putDie _ _ _) i = _
      rw [dieAt_putDie law.1]
      split
      · rename_i same
        subst same
        refine .inr ⟨by rw [← h.states]; exact active, ?_⟩
        rcases h.die with was | ⟨_, was⟩
        · rw [read] at was; rw [was]
        · rw [read] at was; rw [was] at available; cases available
      · exact h.die
    · exact h.die

theorem readmitted_tryEntry {s u : State} {b : BankId} {i : Nat} {r : DieRecord} (e : WaitEntry) (h : Readmitted b i r s u) :
    Readmitted b i r s (tryEntry e u) := by
  rcases tryEntry_cases e u with ⟨f, t, _, found, _, eq⟩ | ⟨o, eq⟩ | eq <;> rw [eq]
  · exact readmitted_grantPair h found t
  · exact ⟨mapInv_of_only (only_setObstacle e.port o u) (by simp) (by simp) h.maps, h.states, h.more, h.count, h.die⟩
  · exact h

theorem readmitted_arbiterPasses {s u : State} {b : BankId} {i : Nat} {r : DieRecord} (n : Nat) (h : Readmitted b i r s u) :
    Readmitted b i r s (arbiterPasses n u) :=
  arbiterPasses_keeps (I := Readmitted b i r s)
    (fun _ k => arbiterPass_keeps (I := Readmitted b i r s) (fun e _ k => readmitted_tryEntry e k) k) n h

/-! ## DIE_MARK -/

theorem markedDie_reject {r : DieRecord} (h : r.state = .available ∨ r.state = .suspect) :
    markedDie .reject r = some { r with state := .reject } := by
  rcases h with h | h <;> simp [markedDie, h]

theorem markedDie_readmit {r : DieRecord} (h : r.state = .suspect) (n0 : r.grade ≠ 0) (n15 : r.grade ≠ 15) :
    markedDie .readmit r = some { r with state := .available, retry := 0 } := by
  have n0' : (r.grade ≠ 0 && r.grade ≠ 15) = true := by
    rw [Bool.and_eq_true]; exact ⟨decide_eq_true n0, decide_eq_true n15⟩
  simp only [markedDie, h]
  exact if_pos n0'

theorem markedDie_reject_none {r : DieRecord} (h : ¬ (r.state = .available ∨ r.state = .suspect)) :
    markedDie .reject r = none := by
  unfold markedDie
  split
  · rename_i available
    exact absurd (.inl available) h
  · rename_i suspect
    exact absurd (.inr suspect) h
  · rename_i action _
    cases action
  · rfl

theorem markedDie_readmit_none {r : DieRecord} (h : ¬ (r.state = .suspect ∧ r.grade ≠ 0 ∧ r.grade ≠ 15)) :
    markedDie .readmit r = none := by
  obtain ⟨g, st, n⟩ := r
  cases st with
  | suspect =>
    refine if_neg fun x => h ⟨rfl, ?_⟩
    rw [Bool.and_eq_true] at x
    exact ⟨of_decide_eq_true x.1, of_decide_eq_true x.2⟩
  | _ => rfl

/-- A REJECT changes its die and no pass follows. -/
theorem answersWith_changeDie {k : Kind} {p : Port} {s : State} (b : BankId) (i : Nat) (r : DieRecord) (x : Response) :
    AnswersWith p k x [.banks, .notices] s (reply p x (changeDie b i r (s.setLink p (.holding k)))) :=
  answersWith_reply (only_changeDie b i r _) (by simp) x

theorem banks_changeDie (b : BankId) (i : Nat) (r : DieRecord) (s : State) :
    (changeDie b i r s).banks = s.banks.set b ((s.bank b).withDie i r) := by
  unfold changeDie
  dsimp only
  split
  · exact (only_raiseTo _ _ _).banks_eq (by simp)
  · rfl

theorem reply_banks (p : Port) (r : Response) (s : State) : (reply p r s).banks = s.banks := (only_reply p r s).banks_eq (by simp)

theorem reply_notices (p : Port) (r : Response) (s : State) : (reply p r s).notices = s.notices :=
  (only_reply p r s).notices_eq (by simp)

theorem reply_pairings (p : Port) (r : Response) (s : State) : (reply p r s).pairings = s.pairings :=
  (only_reply p r s).pairings_eq (by simp)

theorem actionOfCode_isSome {o : Octet} (h : o = 1 ∨ o = 2) : ∃ a, actionOfCode o = some a := by
  rcases h with rfl | rfl
  exacts [⟨.reject, rfl⟩, ⟨.readmit, rfl⟩]

/-- A port that receives a frame has no PAIR on the wait list (R106). -/
theorem not_mem_waitPorts_of_taken {k : Kind} {p : Port} {body : List Octet} {s : State} (law : LinkInv s)
    (taken : Taken k p body s) : p ∉ waitPorts s := by
  intro m
  obtain ⟨e, me, rfl⟩ := List.mem_map.1 m
  obtain ⟨octets, bits, start, link⟩ := receiving_of_receives taken.1.2
  have holds := (law.waitList.2.2 e me).2
  rw [link] at holds
  cases holds

/-- A request that is answered after passes: its port is answered, and no port moves but it and those whose PAIR waits. -/
theorem answered_after_passes {k : Kind} {p : Port} {parts : List Part} {s v : State} {r : Response} (free : p ∉ waitPorts s)
    (ports : PortsKept (waitPorts s) (s.setLink p (.holding k)) v) (only : OnlyChanges parts (s.setLink p (.holding k)) v)
    (m : Part.ports ∈ parts) : AnsweredAt p k r none s (reply p r v) ∧ PortsKept (p :: waitPorts s) s (reply p r v) ∧
      OnlyChanges parts s (reply p r v) := by
  refine ⟨answeredAt_reply (ports p free) r, ?_, ?_⟩
  · refine kept_trans (kept_mono (kept_setLink p (.holding k) s) (by simp)) (kept_trans (kept_mono ports ?_)
      (kept_mono (kept_handOver p r none v) (by simp)))
    exact fun q mem => List.mem_cons_of_mem _ mem
  · exact only_reply_after (((only_setLink s p (.holding k)).mono (by simpa using m)).trans only) m p r

/-- R18: an accepted READMIT makes its change and then one pass at least. -/
theorem serveDieMark_of_readmit {p : Port} {body : List Octet} {s : State} {b : BankId} (hb : u8 body 0 = bankCode b)
    (readmit : u8 body 3 = 2) (m : (s.bank b).holdsMap = true) (inside : (u16 body 1).toNat < (s.bank b).size)
    (suspect : (dieAt (s.bank b).dies (u16 body 1).toNat).state = .suspect)
    (n0 : (dieAt (s.bank b).dies (u16 body 1).toNat).grade ≠ 0)
    (n15 : (dieAt (s.bank b).dies (u16 body 1).toNat).grade ≠ 15) :
    ∃ n, serveDieMark p body s = reply p (okResp [2, gradeOct (dieAt (s.bank b).dies (u16 body 1).toNat).grade])
      (arbiterPasses (n + 1) (changeDie b (u16 body 1).toNat
        { dieAt (s.bank b).dies (u16 body 1).toNat with state := .available, retry := 0 } s)) := by
  have nc : (dieAt (s.bank b).dies (u16 body 1).toNat).state ≠ .claimed := by rw [suspect]; decide
  have np : (dieAt (s.bank b).dies (u16 body 1).toNat).state ≠ .picked := by rw [suspect]; decide
  rw [serveDieMark_of_marked hb (a := .readmit) (by rw [readmit]; rfl) m inside nc np (markedDie_readmit suspect n0 n15)]
  simp only [markSignals, Nat.add_comm 1]
  exact ⟨_, rfl⟩

/-- Settles O26: the branches of the checks; a REJECT by the change of its die, a READMIT by what its passes leave standing. -/
theorem dieMarked : Obligations.DieMarked := by
  unfold Obligations.DieMarked
  intro p body s law taken
  refine ⟨fun bad => ?_, fun b _ hb action => ?_⟩
  · exact ⟨_, exec_of_served taken (serveDieMark_of_bad_code _ (bad.imp bankOfCode_eq_none actionOfCode_eq_none)),
      answersWith_reply_held _⟩
  obtain ⟨a, ha⟩ := actionOfCode_isSome action
  have count := ((mapInv_iff s).1 law.map).1.dies b
  refine ⟨fun n => ?_, fun m out => ?_, fun m inside =>
    ⟨fun busy => ?_, fun reject marks => ?_, fun readmit suspect n0 n15 => ?_, fun nc np nr na => ?_⟩⟩
  · exact ⟨_, exec_of_served taken (serveDieMark_of_no_map hb ha fun x => n ((holdsMap_iff _).1 x)), answersWith_reply_held _⟩
  · exact ⟨_, exec_of_served taken (serveDieMark_of_outside hb ha ((holdsMap_iff _).2 m) out), answersWith_reply_held _⟩
  · exact ⟨_, exec_of_served taken (serveDieMark_of_busy hb ha ((holdsMap_iff _).2 m) inside busy), answersWith_reply_held _⟩
  · have nc : (dieAt (s.bank b).dies (u16 body 1).toNat).state ≠ .claimed := by rcases marks with e | e <;> rw [e] <;> decide
    have np : (dieAt (s.bank b).dies (u16 body 1).toNat).state ≠ .picked := by rcases marks with e | e <;> rw [e] <;> decide
    have served := serveDieMark_of_marked (p := p) (s := s.setLink p (.holding .dieMark)) hb (a := .reject)
      (by rw [reject]; rfl) ((holdsMap_iff _).2 m) inside nc np (markedDie_reject marks)
    refine ⟨_, exec_of_served taken served, answersWith_changeDie b _ _ _, ?_, fun q => ?_⟩
    · refine (reply_banks _ _ _).trans ((banks_changeDie _ _ _ _).trans (congrArg (PerBank.set s.banks b) ?_))
      rw [← recount_to_unavailable]
      rfl
    · refine (notice_congr (reply_notices _ _ _) q).trans ?_
      exact notice_changeDie (s := s.setLink p (.holding .dieMark)) law.roles.2.2.2.2.1 count _ rfl q
  · obtain ⟨held, held_eq⟩ : ∃ u, u = s.setLink p (.holding .dieMark) := ⟨_, rfl⟩
    have bank : held.bank b = s.bank b := by rw [held_eq]; rfl
    have pairings : held.pairings = s.pairings := by rw [held_eq]; rfl
    have same : OnlyChanges [.ports] s held := by rw [held_eq]; exact only_setLink s p _
    obtain ⟨n, served⟩ := serveDieMark_of_readmit (p := p) (s := held) hb readmit (by rw [bank]; exact (holdsMap_iff _).2 m)
      (by rw [bank]; exact inside) (by rw [bank]; exact suspect) (by rw [bank]; exact n0) (by rw [bank]; exact n15)
    have ne : (held.bank b).state ≠ .empty := by rw [bank]; rcases m with m | m | m <;> rw [m] <;> decide
    have start := readmitted_changeDie (mapInv_of_ports same law.map) ne (i := (u16 body 1).toNat) rfl (by rw [bank]; exact suspect)
    rw [bank] at served start
    obtain ⟨marked, marked_eq⟩ : ∃ u, u = changeDie b (u16 body 1).toNat
      { dieAt (s.bank b).dies (u16 body 1).toNat with state := .available, retry := 0 } held := ⟨_, rfl⟩
    rw [← marked_eq] at served start
    have only : OnlyChanges [.banks, .notices] held marked := by rw [marked_eq]; exact only_changeDie _ _ _ _
    have done := readmitted_arbiterPasses (n + 1) start
    have ports : PortsKept (waitPorts s) marked (arbiterPasses (n + 1) marked) := kept_arbiterPasses (n + 1) marked fun q mem => by
      simpa only [waitPorts, only.waitList_eq (by simp), same.waitList_eq (by simp)] using mem
    have all : OnlyChanges passParts held (arbiterPasses (n + 1) marked) :=
      (only.mono (by simp [passParts])).trans (only_arbiterPasses _ _)
    rw [held_eq] at served
    obtain ⟨answered, kept, changes⟩ := answered_after_passes (r := okResp [2, gradeOct (dieAt (s.bank b).dies (u16 body 1).toNat).grade])
      (not_mem_waitPorts_of_taken law.link taken)
      (held_eq ▸ kept_trans (kept_of_ports_eq (only.ports_eq (by simp)) _) ports) (held_eq ▸ all) (by simp [passParts])
    refine ⟨_, exec_of_served taken served, answered, kept, changes, blocked_reply_passes _ _ _ _, ?_, ?_⟩
    · have count := done.count
      rw [bank, pairings] at count
      rw [bank_eq_of_banks (reply_banks _ _ _), reply_pairings]
      exact count
    · have die := done.die
      rw [bank] at die
      rw [bank_eq_of_banks (reply_banks _ _ _)]
      exact die
  · have none : markedDie a (dieAt (s.bank b).dies (u16 body 1).toNat) = none := by
      rcases action with e | e <;> rw [e] at ha <;> cases ha
      · exact markedDie_reject_none fun x => nr ⟨e, x⟩
      · exact markedDie_readmit_none fun x => na ⟨e, x⟩
    exact ⟨_, exec_of_served taken (serveDieMark_of_none hb ha ((holdsMap_iff _).2 m) inside nc np none),
      answersWith_reply_held _⟩

/-! ## WAFER_IN -/

theorem serveWaferIn_of_onTable {p : Port} {body : List Octet} {s : State}
    (on : s.banks.b0.onTable = true ∨ s.banks.b1.onTable = true) : serveWaferIn p body s = reply p (resp .busy []) s := by
  simp [serveWaferIn, on]

theorem onTable_iff (b : MapBank) : b.onTable = true ↔ b.state = .active ∨ b.state = .retiring := by simp [MapBank.onTable]

section Branches

variable {p : Port} {body : List Octet} {s : State} (clear : ∀ b, (s.bank b).onTable = false)

include clear

theorem serveWaferIn_of_none_staged (n : ∀ b, (s.bank b).state ≠ .staged) :
    serveWaferIn p body s = reply p (resp .noMap []) s := by
  have c0 : s.banks.b0.onTable = false := clear .b0
  have c1 : s.banks.b1.onTable = false := clear .b1
  have n0 : s.banks.b0.state ≠ .staged := n .b0
  have n1 : s.banks.b1.state ≠ .staged := n .b1
  simp [serveWaferIn, c0, c1, n0, n1]

theorem serveWaferIn_of_other_wafer (m : ∃ b, (s.bank b).state = .staged) (none : s.stagedBank (u32 body 0) = none) :
    serveWaferIn p body s = reply p (resp .wrongWafer (be32 s.banks.b0.stagedId ++ be32 s.banks.b1.stagedId)) s := by
  have c0 : s.banks.b0.onTable = false := clear .b0
  have c1 : s.banks.b1.onTable = false := clear .b1
  have n : s.banks.b0.state = .staged ∨ s.banks.b1.state = .staged := by
    obtain ⟨b, st⟩ := m
    cases b
    exacts [.inl st, .inr st]
  rcases n with n | n <;> simp [serveWaferIn, c0, c1, n, none]

theorem serveWaferIn_of_staged {b : BankId} (named : s.stagedBank (u32 body 0) = some b) : serveWaferIn p body s =
    reply p (okResp (bankCode b :: nat16 (s.bank b).available)) (arbiterPass (activate b s)) := by
  have c0 : s.banks.b0.onTable = false := clear .b0
  have c1 : s.banks.b1.onTable = false := clear .b1
  have n : s.banks.b0.state = .staged ∨ s.banks.b1.state = .staged := by
    have st := (stagedBank_eq_some named).1
    cases b
    exacts [.inl st, .inr st]
  rcases n with n | n <;> simp [serveWaferIn, c0, c1, n, named]

end Branches

theorem stagedFor_iff (b : MapBank) (w : Tag) : b.stagedFor w = true ↔ b.state = .staged ∧ b.waferId = w := by
  simp [MapBank.stagedFor]

theorem stagedBank_eq_none {s : State} {w : Tag} (h : ∀ b, (s.bank b).state = .staged → (s.bank b).waferId ≠ w) :
    s.stagedBank w = none := by
  have n : ∀ b, ¬ (s.bank b).stagedFor w = true := fun b x => h b ((stagedFor_iff _ _).1 x).1 ((stagedFor_iff _ _).1 x).2
  exact (if_neg (n .b0)).trans (if_neg (n .b1))

theorem stagedBank_of_lowest {s : State} {w : Tag} {b : BankId} (st : (s.bank b).state = .staged) (id : (s.bank b).waferId = w)
    (lowest : b = .b1 → ¬ (s.banks.b0.state = .staged ∧ s.banks.b0.waferId = w)) : s.stagedBank w = some b := by
  have this := (stagedFor_iff _ _).2 ⟨st, id⟩
  cases b with
  | b0 => exact if_pos this
  | b1 => exact (if_neg fun x => lowest rfl ((stagedFor_iff _ _).1 x)).trans (if_pos this)

theorem be32_stagedId (b : MapBank) : be32 b.stagedId = if b.state = .staged then be32 b.waferId else be32 0 := by
  unfold MapBank.stagedId
  split <;> rfl

/-! ### The activation -/

theorem bank_activate (b k : BankId) (s : State) :
    (activate b s).bank k = if k = b then { s.bank b with state := .active } else s.bank k := by
  have set : (activate b s).banks = s.banks.set b { s.bank b with state := .active } := by
    unfold activate
    dsimp only
    split
    · exact (only_raiseTo _ _ _).banks_eq (by simp)
    · rfl
  rw [← bank_setBank]
  exact bank_eq_of_banks set k

theorem startingCorner_some (r : Reach) (b : MapBank) : startingCorner r (some b) = clippedTo b (cornerOf r) := by
  unfold startingCorner cornerOf clippedTo
  dsimp only

theorem startingCorner_none (r : Reach) : startingCorner r none = cornerOf r := rfl

theorem lastPick_resetLastPicks (s : State) (q : Port) :
    (resetLastPicks s).lastPick[q] = startingCorner s.reach[q] (s.activeBank.map s.bank) := by
  simp [resetLastPicks]

/-- R12, R84, R85: the last-pick positions of an activation. -/
theorem lastPick_activate {s : State} {b : BankId} (clear : ∀ k, (s.bank k).onTable = false) (q : Port) :
    (activate b s).lastPick[q] = clippedTo (s.bank b) (cornerOf s.reach[q]) := by
  have active : (s.setBank b { s.bank b with state := .active }).activeBank = some b := by
    cases b with
    | b0 => rfl
    | b1 =>
      have c0 : s.banks.b0.state ≠ .active := fun e => by
        have off : s.banks.b0.onTable = false := clear .b0
        rw [onTable_of_active e] at off
        cases off
      simp [State.activeBank, State.setBank, PerBank.set, c0]
  have picks : (activate b s).lastPick[q] = (resetLastPicks (s.setBank b { s.bank b with state := .active })).lastPick[q] := by
    unfold activate
    dsimp only
    split
    · simp only [(only_raiseTo _ _ _).lastPick_eq (by simp : Part.lastPick ∉ [Part.notices])]
    · rfl
  rw [picks, lastPick_resetLastPicks, active, Option.map_some, State.bank_setBank_self, startingCorner_some]
  rfl

/-- R16: the notice of an activation without AVAILABLE die. -/
theorem notice_activate {s : State} (one : roleCount s .wafer ≤ 1) {b : BankId} (none : (s.bank b).available = 0) {q : Port}
    (h : s.role q = .wafer) : (activate b s).notice q = afterRaise (.waferExhausted (s.bank b).waferId) q s := by
  unfold activate
  dsimp only
  rw [if_pos none]
  refine (notice_raiseTo (s := resetLastPicks (s.setBank b _)) one _ q).trans ?_
  exact if_pos h

/-! ### The pass after it -/

/-- A pass with one ACTIVE bank changes no other bank, and that one stays ACTIVE. -/
structure OtherBanksStand (b : BankId) (s u : State) : Prop where
  active : (u.bank b).state = .active
  others : ∀ k, k ≠ b → u.bank k = s.bank k

theorem otherBanksStand_tryEntry {b : BankId} {s u : State} (off : ∀ k, k ≠ b → (s.bank k).state ≠ .active) (e : WaitEntry)
    (h : OtherBanksStand b s u) : OtherBanksStand b s (tryEntry e u) := by
  rcases tryEntry_cases e u with ⟨f, t, _, found, _, eq⟩ | ⟨o, eq⟩ | eq <;> rw [eq]
  · have taken := activeBank_state (select_spec found).1
    have same : f.bank = b := by
      by_contra ne
      rw [h.others _ ne] at taken
      exact off _ ne taken
    refine ⟨?_, fun k ne => ?_⟩
    · rw [bank_grantPair, if_pos same.symm]
      exact taken
    · rw [bank_grantPair, if_neg (by rw [same]; exact ne)]
      exact h.others k ne
  · exact ⟨h.active, h.others⟩
  · exact h

/-- R81: without AVAILABLE die in the ACTIVE bank nothing can be granted. -/
theorem not_grantable_of_no_die {s : State} {b : BankId} (active : s.activeBank = some b) (none : availableIn (s.bank b).dies = 0)
    (p : Port) (ch : LaneChoice) : ¬ Grantable s p ch := by
  rintro ⟨_, ⟨f, found⟩, _⟩
  obtain ⟨a, _, listed, matching⟩ := select_spec found
  rw [active] at a
  cases a
  simp only [matchingDie, Bool.and_eq_true] at matching
  have counted : (f.die, f.record) ∈ (s.bank f.bank).dies.filter (fun e => e.2.isAvailable) :=
    List.mem_filter.2 ⟨listed, matching.1.1⟩
  rw [List.length_eq_zero_iff.1 none] at counted
  cases counted

/-- Settles O27: the branches of the checks, and the activation with the pass that follows it. -/
theorem waferArrives : Obligations.WaferArrives := by
  unfold Obligations.WaferArrives
  intro p body s law taken
  refine ⟨fun on => ?_, fun off => ?_⟩
  · have on' : s.banks.b0.onTable = true ∨ s.banks.b1.onTable = true := by
      obtain ⟨b, _, h⟩ := on
      cases b
      exacts [.inl ((onTable_iff _).2 h), .inr ((onTable_iff _).2 h)]
    exact ⟨_, exec_of_served taken (serveWaferIn_of_onTable on'), answersWith_reply_held _⟩
  obtain ⟨held, held_eq⟩ : ∃ u, u = s.setLink p (.holding .waferIn) := ⟨_, rfl⟩
  have same : OnlyChanges [.ports] s held := by rw [held_eq]; exact only_setLink s p _
  have bank : ∀ b, held.bank b = s.bank b := fun b => by rw [held_eq]; rfl
  have clear : ∀ b, (held.bank b).onTable = false := fun b => by
    rw [bank]; exact not_onTable (off b (mem_bothBanks b)).1 (off b (mem_bothBanks b)).2
  refine ⟨fun none => ?_, fun st other => ?_, fun b _ st id lowest => ?_⟩
  · exact ⟨_, exec_of_served taken (held_eq ▸ serveWaferIn_of_none_staged clear fun b => by
      rw [bank]; exact none b (mem_bothBanks b)), answersWith_reply_held _⟩
  · have served : serveWaferIn p body held =
        reply p (resp .wrongWafer (be32 held.banks.b0.stagedId ++ be32 held.banks.b1.stagedId)) held := by
      refine serveWaferIn_of_other_wafer clear (by obtain ⟨b, _, h⟩ := st; exact ⟨b, by rw [bank]; exact h⟩)
        (stagedBank_eq_none fun b h => ?_)
      rw [bank] at h ⊢
      exact other b (mem_bothBanks b) h
    rw [be32_stagedId, be32_stagedId] at served
    rw [held_eq] at served
    exact ⟨_, exec_of_served taken served, answersWith_reply_held _⟩
  · obtain ⟨on, on_eq⟩ : ∃ u, u = activate b held := ⟨_, rfl⟩
    have served : serveWaferIn p body held = reply p (okResp (bankCode b :: nat16 (s.bank b).available)) (arbiterPass on) := by
      have named : held.stagedBank (u32 body 0) = some b :=
        stagedBank_of_lowest (by rw [bank]; exact st) (by rw [bank]; exact id) (held_eq ▸ lowest)
      rw [serveWaferIn_of_staged clear named, on_eq, ← bank b]
    have only : OnlyChanges [.banks, .lastPick, .notices] held on := by rw [on_eq]; exact only_activate b held
    have bank_on : ∀ k, on.bank k = if k = b then { s.bank b with state := .active } else s.bank k := fun k => by
      rw [on_eq, bank_activate, bank, bank]
    have maps : MapInv on := by
      rw [on_eq]; exact mapInv_activate (mapInv_of_ports same law.map) (by rw [bank]; exact st) clear
    have active : on.activeBank = some b := activeBank_of_active maps.states (by rw [bank_on, if_pos rfl])
    have ports : PortsKept (waitPorts s) held (arbiterPass on) := by
      refine kept_trans (kept_of_ports_eq (only.ports_eq (by simp)) _) (kept_mono (kept_arbiterPass on) fun q m => ?_)
      simpa only [waitPorts, only.waitList_eq (by simp), same.waitList_eq (by simp)] using m
    have all : OnlyChanges (.lastPick :: passParts) held (arbiterPass on) :=
      (only.mono (by simp [passParts])).trans ((only_arbiterPass on).mono fun _ m => List.mem_cons_of_mem _ m)
    obtain ⟨answered, kept, changes⟩ := answered_after_passes (k := .waferIn)
      (r := okResp (bankCode b :: nat16 (s.bank b).available)) (not_mem_waitPorts_of_taken law.link taken) (held_eq ▸ ports)
      (held_eq ▸ all) (by simp [passParts])
    have stand : OtherBanksStand b s (arbiterPass on) := by
      refine arbiterPass_keeps (I := OtherBanksStand b s) (fun e u h => otherBanksStand_tryEntry
        (fun k _ => (off k (mem_bothBanks k)).1) e h) ⟨by rw [bank_on, if_pos rfl], fun k ne => by rw [bank_on, if_neg ne]⟩
    refine ⟨_, exec_of_served taken (held_eq ▸ served), answered, kept, changes, blocked_reply_passes p _ 0 on, ?_,
      fun k _ ne => ?_, fun q => ?_, fun none => ?_⟩
    · rw [bank_eq_of_banks (reply_banks _ _ _)]; exact stand.active
    · rw [bank_eq_of_banks (reply_banks _ _ _)]; exact stand.others k ne
    · have picks : (reply p (okResp (bankCode b :: nat16 (s.bank b).available)) (arbiterPass on)).lastPick = on.lastPick :=
        ((only_reply p _ _).lastPick_eq (by simp)).trans ((only_arbiterPass on).lastPick_eq (by simp [passParts]))
      have reach : held.reach = s.reach := same.reach_eq (by simp)
      have corner : on.lastPick[q] = _ := on_eq ▸ lastPick_activate clear q
      simp only [picks, corner, bank, reach]
    · have empty : availableIn (on.bank b).dies = 0 := by
        have count := (((mapInv_iff s).1 law.map).1.dies b).2.1
        rw [bank_on, if_pos rfl]
        exact count.symm.trans none
      have still : OnlyChanges [.waitList] on (arbiterPass on) :=
        only_walk_of_not_grantable on.waitList on fun e _ => not_grantable_of_no_die active empty e.port e.choice
      refine ⟨?_, fun q h => ?_⟩
      · rw [bank_eq_of_banks (reply_banks _ _ _), bank_eq_of_banks (still.banks_eq (by simp)), bank_on, if_pos rfl]
      · refine (notice_congr ((reply_notices _ _ _).trans (still.notices_eq (by simp))) q).trans ?_
        rw [on_eq]
        have roles : held.roles = s.roles := same.roles_eq (by simp)
        rw [notice_activate (by rw [roleCount_congr roles]; exact law.roles.2.2.2.2.1) (by rw [bank]; exact none)
          (by rw [State.role, roles]; exact h), bank, afterRaise_congr roles (same.notices_eq (by simp))]

end Sys2Proof.Proofs
end

section
/-! PROOFS. The line clear (R20, R84, R85, R103, R126): what the ends of all pairings leave of the ACTIVE bank and of the trace,
and the last-pick positions that follow. -/

namespace Sys2Proof.Proofs

open Sys2Proof Sys2Proof.Machine Sys2Proof.Safety

/-! ## The trace at the end of a pairing (R94, step 4) -/

theorem trace_reevalTraceLevel (s : State) : (reevalTraceLevel s).trace = s.trace := (only_reevalTraceLevel s).trace_eq (by simp)

theorem trace_closeTrace_none (pr : Pairing) (s : State) : (closeTrace pr none s).trace = s.trace.release := by
  unfold closeTrace
  split
  · rename_i e _; cases e
  · rfl

theorem trace_closeTrace_picked {pr : Pairing} {g : Reading} (h : pr.phase = .picked g) (k : TraceKind) (s : State) :
    (closeTrace pr (some k) s).trace = s.trace.release.append (recordFor pr k g s) := by
  simp only [closeTrace, h, trace_reevalTraceLevel]

/-- What the end of a pairing makes of the trace is what step 4 of R94 makes of it. -/
theorem trace_endPairing (pr : Pairing) (e : PairEnd) (s : State) :
    (endPairing pr e s).trace = (closeTrace pr e.record s).trace := by
  have before : (releaseSite pr e.site (releaseDie pr e.die s)).trace = s.trace :=
    ((only_releaseSite _ _ _).trace_eq (by simp)).trans ((only_releaseDie _ _ _).trace_eq (by simp))
  have clock : (releaseSite pr e.site (releaseDie pr e.die s)).clock = s.clock :=
    ((only_releaseSite _ _ _).clock_eq (by simp)).trans ((only_releaseDie _ _ _).clock_eq (by simp))
  have closed : ∀ u : State, u.trace = s.trace → u.clock = s.clock →
      (closeTrace pr e.record u).trace = (closeTrace pr e.record s).trace := by
    intro u t c
    unfold closeTrace
    split
    · simp only [trace_reevalTraceLevel, recordFor, t, c]
    · simp only [t]
  have retired : (retireIfClear pr.bank (endedBeforeRetire pr e s)).trace = (closeTrace pr e.record s).trace := by
    rw [(only_retireIfClear _ _).trace_eq (by simp)]
    exact closed _ before clock
  rw [endPairing_eq]
  split
  · rw [(only_raiseAt _ _ _).trace_eq (by simp), retired]
  · exact retired

/-- The record of a LOSS that the line clear writes, without its sequence number (R103). -/
def clearedLoss (now : Reading) (pr : Pairing) : Ticket × Port × TraceKind × Tag × Nat × Reading :=
  (pr.ticket, pr.port, .loss .cleared, pr.stripId, pr.site, now)

/-- The fields of a trace record by which the line clear's records are told apart. -/
def lossFields (r : TraceRecord) : Ticket × Port × TraceKind × Tag × Nat × Reading :=
  (r.ticket, r.port, r.kind, r.stripId, r.site, r.endTime)

/-- What the ends of these pairings at the line clear leave of the trace, from `s` to `t`. -/
structure TraceCleared (prs : List Pairing) (s t : State) : Prop where
  reservations : t.trace.reservations = s.trace.reservations - prs.length
  threshold : t.trace.threshold = s.trace.threshold
  nextSeq : t.trace.nextSeq = s.trace.nextSeq + BitVec.ofNat 32 (prs.filter Pairing.isPicked).length
  records : ∃ added, t.trace.records = s.trace.records ++ added ∧
    added.map lossFields = (prs.filter Pairing.isPicked).map (clearedLoss s.clock)

theorem isPicked_of_claimed {pr : Pairing} (h : pr.phase = .claimed) : pr.isPicked = false := by simp [Pairing.isPicked, h]

theorem isPicked_of_picked {pr : Pairing} {g : Reading} (h : pr.phase = .picked g) : pr.isPicked = true := by
  simp [Pairing.isPicked, h]

theorem clearEnd_of_claimed {pr : Pairing} (h : pr.phase = .claimed) (s : State) : clearEnd pr s =
    { outcome := .cleared, die := (pr.dieRecord s).to .suspect, site := none, record := none, announce := false } := by
  simp [clearEnd, h]

theorem clearEnd_of_picked {pr : Pairing} {g : Reading} (h : pr.phase = .picked g) (s : State) : clearEnd pr s =
    { outcome := .cleared, die := (pr.dieRecord s).to .lost, site := none, record := some (.loss .cleared),
      announce := false } := by
  simp [clearEnd, h]

/-- R103: the trace of one end at the line clear, by the phase of its pairing. -/
theorem traceCleared_endPairing (pr : Pairing) (s : State) : TraceCleared [pr] s (endPairing pr (clearEnd pr s) s) := by
  cases phase : pr.phase with
  | claimed =>
    have trace : (endPairing pr (clearEnd pr s) s).trace = s.trace.release := by
      rw [trace_endPairing, clearEnd_of_claimed phase, trace_closeTrace_none]
    have none : [pr].filter Pairing.isPicked = [] := by simp [isPicked_of_claimed phase]
    constructor <;> simp only [trace, none] <;> simp [TraceQueue.release]
  | picked g =>
    have trace : (endPairing pr (clearEnd pr s) s).trace =
        s.trace.release.append (recordFor pr (.loss .cleared) g s) := by
      rw [trace_endPairing, clearEnd_of_picked phase, trace_closeTrace_picked phase]
    have one : [pr].filter Pairing.isPicked = [pr] := by simp [isPicked_of_picked phase]
    constructor <;> simp only [trace, one]
    · simp [TraceQueue.release, TraceQueue.append]
    · rfl
    · rfl
    · exact ⟨_, rfl, rfl⟩

theorem traceCleared_trans {as bs : List Pairing} {s t u : State} (clock : t.clock = s.clock) (h : TraceCleared as s t)
    (k : TraceCleared bs t u) : TraceCleared (as ++ bs) s u := by
  obtain ⟨a, ra, fa⟩ := h.records
  obtain ⟨b, rb, fb⟩ := k.records
  refine ⟨?_, k.threshold.trans h.threshold, ?_, a ++ b, ?_, ?_⟩
  · rw [k.reservations, h.reservations, List.length_append]; omega
  · rw [k.nextSeq, h.nextSeq, List.filter_append, List.length_append, BitVec.ofNat_add, BitVec.add_assoc]
  · rw [rb, ra, List.append_assoc]
  · rw [List.map_append, fa, fb, clock, List.filter_append, List.map_append]

/-- R103: the line clear writes the LOSS records of the pairings in PICKED in the order of their tickets' issue. -/
theorem traceCleared_clearPairings (prs : List Pairing) (s : State) : TraceCleared prs s (clearPairings prs s) := by
  induction prs generalizing s with
  | nil => exact ⟨by simp [clearPairings], rfl, by simp [clearPairings], [], by simp [clearPairings], rfl⟩
  | cons pr prs ih =>
    exact traceCleared_trans ((only_endPairing _ _ _).clock_eq (by simp [endParts, passParts])) (traceCleared_endPairing pr s)
      (ih _)

/-! ## The die of the ACTIVE bank (R20) -/

theorem posOf_indexOf_cols {a b : MapBank} (h : a.cols = b.cols) (q : Pos) : a.indexOf q = b.indexOf q := by
  simp only [MapBank.indexOf, h]

/-- The record that the line clear leaves of a pairing's die (R20). -/
def clearedDie (pr : Pairing) (r : DieRecord) : DieRecord := { r with state := if pr.isPicked = true then .lost else .suspect }

theorem clearEnd_die (pr : Pairing) (s : State) : (clearEnd pr s).die = clearedDie pr (pr.dieRecord s) := by
  cases phase : pr.phase with
  | claimed => rw [clearEnd_of_claimed phase]; simp [clearedDie, isPicked_of_claimed phase, DieRecord.to]
  | picked g => rw [clearEnd_of_picked phase]; simp [clearedDie, isPicked_of_picked phase, DieRecord.to]

theorem isAvailable_clearedDie (pr : Pairing) (r : DieRecord) : (clearedDie pr r).isAvailable = false := by
  cases h : pr.isPicked <;> simp [clearedDie, DieRecord.isAvailable, h]

/-- R94: the end of a pairing on an ACTIVE bank changes its die and its references, and no other bank. -/
theorem bank_endPairing_of_active {pr : Pairing} {s : State} (active : (s.bank pr.bank).state = .active) (e : PairEnd)
    (k : BankId) : (endPairing pr e s).bank k =
      if k = pr.bank then
        { (s.bank pr.bank).withDie (pr.dieIndex s) e.die with refs := (s.bank pr.bank).refs - 1 }
      else s.bank k := by
  have before : ∀ k, (endedBeforeRetire pr e s).bank k = _ := fun k =>
    (bank_eq_of_banks (banks_endedBeforeRetire pr e s) k).trans (bank_releaseDie pr e.die s k)
  have stays : ((endedBeforeRetire pr e s).bank pr.bank).state ≠ .retiring := by
    rw [before, if_pos rfl]
    exact fun r => by cases active.symm.trans r
  have retired : (retireIfClear pr.bank (endedBeforeRetire pr e s)).bank k = (endedBeforeRetire pr e s).bank k := by
    rw [bank_retireIfClear, if_neg fun x => stays x.2.1]
  rw [endPairing_eq, ← before]
  split
  · rw [bank_eq_of_banks ((only_raiseAt _ _ _).banks_eq (by simp)), retired]
  · exact retired

/-- The pairings of a table all stand on one ACTIVE bank, on die of their own that are not AVAILABLE. -/
structure OnActive (b : BankId) (prs : List Pairing) (s : State) : Prop where
  active : (s.bank b).state = .active
  wf : dieTableWf (s.bank b).dies
  bank : ∀ pr ∈ prs, pr.bank = b
  held : ∀ pr ∈ prs, (pr.dieRecord s).isAvailable = false
  apart : prs.Pairwise (fun x y => x.dieIndex s ≠ y.dieIndex s)

/-- What the line clear leaves of the ACTIVE bank, from `s` to `t`. -/
structure BankCleared (b : BankId) (prs : List Pairing) (s t : State) : Prop where
  header : t.bank b = { s.bank b with refs := (s.bank b).refs - prs.length, dies := (t.bank b).dies }
  settled : ∀ pr ∈ prs, dieAt (t.bank b).dies (pr.dieIndex s) = clearedDie pr (pr.dieRecord s)
  others : ∀ i, (∀ pr ∈ prs, pr.dieIndex s ≠ i) → dieAt (t.bank b).dies i = dieAt (s.bank b).dies i

theorem bankCleared_clearPairings {b : BankId} (prs : List Pairing) (s : State) (h : OnActive b prs s) :
    BankCleared b prs s (clearPairings prs s) := by
  induction prs generalizing s with
  | nil => exact ⟨rfl, (fun _ m => nomatch m), fun _ _ => rfl⟩
  | cons pr prs ih =>
    obtain ⟨active, wf, onBank, held, apart⟩ := h
    have pr_bank : pr.bank = b := onBank pr List.mem_cons_self
    subst pr_bank
    obtain ⟨first, rest⟩ := List.pairwise_cons.1 apart
    obtain ⟨u, u_eq⟩ : ∃ u, u = endPairing pr (clearEnd pr s) s := ⟨_, rfl⟩
    have bank : u.bank pr.bank = { (s.bank pr.bank).withDie (pr.dieIndex s) (clearedDie pr (pr.dieRecord s)) with
        refs := (s.bank pr.bank).refs - 1 } := by
      rw [u_eq, bank_endPairing_of_active active, if_pos rfl, clearEnd_die]
    have index : ∀ q ∈ prs, q.dieIndex u = q.dieIndex s := fun q m => by
      simp only [Pairing.dieIndex, onBank q (List.mem_cons_of_mem _ m), bank]
      rfl
    have read : ∀ j, dieAt (u.bank pr.bank).dies j =
        if j = pr.dieIndex s then clearedDie pr (pr.dieRecord s) else dieAt (s.bank pr.bank).dies j := fun j => by
      rw [bank]
      exact dieAt_putDie wf _ j _
    have record : ∀ q ∈ prs, q.dieRecord u = q.dieRecord s := fun q m => by
      have onq := onBank q (List.mem_cons_of_mem _ m)
      unfold Pairing.dieRecord
      rw [index q m, onq, read, if_neg fun e => first q m e.symm]
    have next : OnActive pr.bank prs u := by
      refine ⟨?_, ?_, fun q m => onBank q (List.mem_cons_of_mem _ m), fun q m => ?_, ?_⟩
      · rw [bank]; exact active
      · rw [bank]; exact putDie_wf wf _ _
      · rw [record q m]; exact held q (List.mem_cons_of_mem _ m)
      · exact rest.imp_of_mem fun {x y} mx my ne => by rw [index x mx, index y my]; exact ne
    obtain ⟨header, settled, others⟩ := ih u next
    have all : clearPairings (pr :: prs) s = clearPairings prs u := by rw [clearPairings, u_eq]
    rw [all]
    refine ⟨?_, fun q m => ?_, fun i out => ?_⟩
    · have count : ((s.bank pr.bank).withDie (pr.dieIndex s) (clearedDie pr (pr.dieRecord s))).available =
          (s.bank pr.bank).available := by
        show recount _ (pr.dieRecord s).isAvailable _ = _
        rw [held pr List.mem_cons_self, isAvailable_clearedDie, recount_self]
      generalize (clearPairings prs u).bank pr.bank = x at header ⊢
      rw [bank] at header
      refine header.trans ?_
      dsimp only
      rw [count, List.length_cons, Nat.sub_sub, Nat.add_comm 1]
      rfl
    · rcases List.mem_cons.1 m with rfl | m
      · rw [others _ fun x mx e => first x mx ((index x mx).symm.trans e).symm, read, if_pos rfl]
      · rw [← index q m, settled q m, record q m]
    · rw [others i fun x mx e => out x (List.mem_cons_of_mem _ mx) ((index x mx).symm.trans e), read,
        if_neg fun e => out pr List.mem_cons_self e.symm]

/-! ## Which bank is ACTIVE -/

/-- An operation makes no bank ACTIVE and takes none from ACTIVE. -/
def ActiveKept (s t : State) : Prop := ∀ k, (t.bank k).state = .active ↔ (s.bank k).state = .active

theorem activeKept_of_banks {s t : State} (h : t.banks = s.banks) : ActiveKept s t := fun k => by rw [bank_eq_of_banks h]

theorem activeBank_of_activeKept {s t : State} (h : ActiveKept s t) : t.activeBank = s.activeBank := by
  have h0 : t.banks.b0.state = .active ↔ s.banks.b0.state = .active := h .b0
  have h1 : t.banks.b1.state = .active ↔ s.banks.b1.state = .active := h .b1
  simp only [State.activeBank, h0, h1]

theorem activeBank_of_banks {s t : State} (h : t.banks = s.banks) : t.activeBank = s.activeBank := by
  simp only [State.activeBank, h]

theorem activeKept_trans {s t u : State} (h : ActiveKept s t) (k : ActiveKept t u) : ActiveKept s u := fun b => (k b).trans (h b)

theorem activeKept_retireIfClear (b : BankId) (s : State) : ActiveKept s (retireIfClear b s) := by
  intro k
  rw [bank_retireIfClear]
  split
  · rename_i c
    obtain ⟨rfl, r, _⟩ := c
    simp [r, MapBank.blank]
  · rfl

theorem activeKept_endPairing (pr : Pairing) (e : PairEnd) (s : State) : ActiveKept s (endPairing pr e s) := by
  have released : ActiveKept s (endedBeforeRetire pr e s) := fun k => by
    rw [bank_eq_of_banks (banks_endedBeforeRetire pr e s), bank_releaseDie]
    split
    · rename_i eq; rw [eq]; rfl
    · rfl
  have retired := activeKept_trans released (activeKept_retireIfClear pr.bank _)
  rw [endPairing_eq]
  split
  · exact activeKept_trans retired (activeKept_of_banks ((only_raiseAt _ _ _).banks_eq (by simp)))
  · exact retired

theorem activeKept_clearPairings (prs : List Pairing) (s : State) : ActiveKept s (clearPairings prs s) := by
  induction prs generalizing s with
  | nil => exact fun _ => .rfl
  | cons pr prs ih => exact activeKept_trans (activeKept_endPairing pr _ s) (ih _)

theorem bank_clearBank (b k : BankId) (s : State) :
    (clearBank b s).bank k = if k = b ∧ (s.bank b).state = .loading then .blank else s.bank k := by
  unfold clearBank
  by_cases l : (s.bank b).state = .loading
  · rw [if_pos l, bank_setBank]; simp [l]
  · rw [if_neg l]; simp [l]

theorem activeKept_clearBank (b : BankId) (s : State) : ActiveKept s (clearBank b s) := by
  intro k
  rw [bank_clearBank]
  split
  · rename_i c
    obtain ⟨rfl, l⟩ := c
    simp [l, MapBank.blank]
  · rfl

theorem clearBank_of_active {b k : BankId} {s : State} (active : (s.bank k).state = .active) :
    (clearBank b s).bank k = s.bank k := by
  rw [bank_clearBank, if_neg]
  rintro ⟨rfl, l⟩
  rw [active] at l
  cases l

/-! ## The line clear as a whole -/

/-- The state of the line clear with the held requests answered and every pairing ended (R137, steps 1 to 3). -/
def pairingsCleared (s : State) : State :=
  clearPairings s.pairings (answerAllEntries .cleared { s with line := .setup })

/-- The state of the line clear with lanes and gates cleared as well (R137, steps 4 and 5). -/
def lanesCleared (s : State) : State :=
  clearLane .B (clearLane .A (clearGate .B (clearGate .A (pairingsCleared s))))

theorem lineClear_eq (s : State) : lineClear s =
    raiseLineState .clear (resetLastPicks (clearBank .b1 (clearBank .b0 (lanesCleared s)))) := by
  have pairings : (answerAllEntries .cleared { s with line := .setup }).pairings = s.pairings :=
    (only_answerAllEntries _ _).pairings_eq (by simp)
  unfold lineClear lanesCleared pairingsCleared
  dsimp only
  rw [pairings]

theorem only_answered_line (s : State) :
    OnlyChanges [.line, .waitList, .ports] s (answerAllEntries .cleared { s with line := .setup }) :=
  ((only_setLine s .setup).mono (by simp)).trans ((only_answerAllEntries _ _).mono (by simp))

theorem only_lanesCleared (s : State) : OnlyChanges [.gates, .ports, .lanes] (pairingsCleared s) (lanesCleared s) :=
  (((only_clearGate .A _).mono (by simp)).trans ((only_clearGate .B _).mono (by simp))).trans
    (((only_clearLane .A _).mono (by simp)).trans ((only_clearLane .B _).mono (by simp)))

/-- What the line clear leaves of the banks is what its last steps leave of those of the cleared pairings. -/
theorem bank_lineClear (s : State) (k : BankId) :
    (lineClear s).bank k = (clearBank .b1 (clearBank .b0 (lanesCleared s))).bank k := by
  rw [lineClear_eq]
  exact bank_eq_of_banks (((only_raiseLineState _ _).banks_eq (by simp)).trans ((only_resetLastPicks _).banks_eq (by simp))) k

theorem bank_lineClear_of_active {s : State} {b : BankId} (active : ((pairingsCleared s).bank b).state = .active) :
    (lineClear s).bank b = (pairingsCleared s).bank b := by
  have lanes : (lanesCleared s).bank b = (pairingsCleared s).bank b :=
    bank_eq_of_banks ((only_lanesCleared s).banks_eq (by simp)) b
  have first : (clearBank .b0 (lanesCleared s)).bank b = (lanesCleared s).bank b :=
    clearBank_of_active (by rw [lanes]; exact active)
  rw [bank_lineClear, clearBank_of_active (by rw [first, lanes]; exact active), first, lanes]

theorem trace_lineClear (s : State) : (lineClear s).trace = (pairingsCleared s).trace := by
  rw [lineClear_eq, (only_raiseLineState _ _).trace_eq (by simp), (only_resetLastPicks _).trace_eq (by simp),
    (only_clearBank _ _).trace_eq (by simp), (only_clearBank _ _).trace_eq (by simp), (only_lanesCleared s).trace_eq (by simp)]

theorem activeKept_cleared (s : State) : ActiveKept s (clearBank .b1 (clearBank .b0 (lanesCleared s))) := by
  have ended := activeKept_trans (activeKept_of_banks ((only_answered_line s).banks_eq (by simp)))
    (activeKept_clearPairings s.pairings _)
  have lanes := activeKept_trans ended (activeKept_of_banks ((only_lanesCleared s).banks_eq (by simp)))
  exact activeKept_trans (activeKept_trans lanes (activeKept_clearBank .b0 _)) (activeKept_clearBank .b1 _)

/-- R84: the line clear sets every last-pick position to its starting corner. -/
theorem lastPick_lineClear (s : State) (q : Port) : (lineClear s).lastPick[q] = startingCorner s.reach[q]
    ((clearBank .b1 (clearBank .b0 (lanesCleared s))).activeBank.map (clearBank .b1 (clearBank .b0 (lanesCleared s))).bank) := by
  have reach : (clearBank .b1 (clearBank .b0 (lanesCleared s))).reach = s.reach := by
    rw [(only_clearBank _ _).reach_eq (by simp), (only_clearBank _ _).reach_eq (by simp),
      (only_lanesCleared s).reach_eq (by simp)]
    exact ((only_clearPairings _ _).reach_eq (by simp [endParts, passParts])).trans ((only_answered_line s).reach_eq (by simp))
  have picks : (lineClear s).lastPick = (resetLastPicks (clearBank .b1 (clearBank .b0 (lanesCleared s)))).lastPick := by
    rw [lineClear_eq, (only_raiseLineState _ _).lastPick_eq (by simp)]
  simp only [picks, lastPick_resetLastPicks, reach]

/-- R1: one bank at most is ACTIVE or RETIRING. -/
theorem bank_eq_of_onTable {s : State} (h : BankLaw s) {b k : BankId} (onb : (s.bank b).onTable = true)
    (onk : (s.bank k).onTable = true) : b = k := by
  cases b with
  | b0 =>
    cases k with
    | b0 => rfl
    | b1 => exact absurd ⟨onb, onk⟩ h.2
  | b1 =>
    cases k with
    | b0 => exact absurd ⟨onk, onb⟩ h.2
    | b1 => rfl

/-- R4: the pairings in flight stand on the ACTIVE bank, on die of their own that are CLAIMED or PICKED. -/
theorem onActive_of_laws {s : State} (law : DeviceInv s) {b : BankId} (active : (s.bank b).state = .active) :
    OnActive b s.pairings s := by
  have onBank : ∀ pr ∈ s.pairings, pr.bank = b := fun pr m =>
    bank_eq_of_onTable law.map.states (law.map.references.2 pr m) (onTable_of_active active)
  refine ⟨active, (((mapInv_iff s).1 law.map).1.dies b).1, onBank, fun pr m => ?_, ?_⟩
  · have state := (law.pairedDie.1 pr m).2.2
    cases h : pr.isPicked <;> simp [h] at state <;> simp [DieRecord.isAvailable, state]
  · exact law.pairedDie.2.1.imp_of_mem fun {x y} mx my ne e => ne ⟨(onBank x mx).trans (onBank y my).symm, e⟩

/-- Settles O20: the ends of all pairings on the bank and on the trace, and the corners that the last step sets. -/
theorem lineClearSettlesDieAndTrace : Obligations.LineClearSettlesDieAndTrace := by
  unfold Obligations.LineClearSettlesDieAndTrace
  intro p body s law taken
  obtain ⟨held, held_eq⟩ : ∃ u, u = s.setLink p (.holding .clear) := ⟨_, rfl⟩
  have same : OnlyChanges [.ports] s held := by rw [held_eq]; exact only_setLink s p _
  have runs : exec (.clear p body) s = .next (reply p (okResp (clearCounts held)) (lineClear held)) :=
    exec_of_served taken (held_eq ▸ rfl)
  obtain ⟨answered, answered_eq⟩ : ∃ u, u = answerAllEntries .cleared { held with line := .setup } := ⟨_, rfl⟩
  have quiet : OnlyChanges [.line, .waitList, .ports] s answered := by
    rw [answered_eq]; exact (same.mono (by simp)).trans (only_answered_line held)
  have cleared : pairingsCleared held = clearPairings s.pairings answered := by
    rw [pairingsCleared, answered_eq, same.pairings_eq (by simp)]
  have bank : ∀ b, answered.bank b = s.bank b := bank_eq_of_banks (quiet.banks_eq (by simp))
  have bank_held : ∀ b, held.bank b = s.bank b := bank_eq_of_banks (same.banks_eq (by simp))
  have index : ∀ pr : Pairing, pr.dieIndex answered = pr.dieIndex s := fun pr => by simp only [Pairing.dieIndex, bank]
  have record : ∀ pr : Pairing, pr.dieRecord answered = pr.dieRecord s := fun pr => by
    simp only [Pairing.dieRecord, index, bank]
  have reply_trace : ∀ r u, (reply p r u).trace = u.trace := fun r u => (only_reply p r u).trace_eq (by simp)
  have trace := traceCleared_clearPairings s.pairings answered
  rw [← cleared] at trace
  have room := law.trace.room.1
  have trace_answered : answered.trace = s.trace := quiet.trace_eq (by simp)
  have settles : ∀ b, (s.bank b).state = .active → BankCleared b s.pairings answered (pairingsCleared held) ∧
      (lineClear held).bank b = (pairingsCleared held).bank b := fun b active => by
    obtain ⟨a, wf, onBank, dieHeld, apart⟩ := onActive_of_laws law active
    have on : OnActive b s.pairings answered := ⟨by rw [bank]; exact a, by rw [bank]; exact wf, onBank,
      fun pr m => by rw [record]; exact dieHeld pr m, apart.imp fun {x y} ne => by rw [index, index]; exact ne⟩
    have done := bankCleared_clearPairings s.pairings answered on
    rw [← cleared] at done
    exact ⟨done, bank_lineClear_of_active (by rw [done.header, bank]; exact active)⟩
  refine ⟨_, runs, fun b _ active => ?_, ?_, ?_, ?_, ?_, ?_, fun q => ⟨fun none => ?_, fun b _ active => ?_⟩⟩
  · obtain ⟨done, left⟩ := settles b active
    have refs : (s.bank b).refs - s.pairings.length = 0 := by
      have count := ((mapInv_iff s).1 law.map).1.refs.1 b
      have le := List.length_filter_le (fun pr : Pairing => pr.bank == b) s.pairings
      omega
    rw [bank_eq_of_banks (reply_banks _ _ _), left]
    refine ⟨?_, fun pr m => ?_, fun i _ out => ?_⟩
    · have header := done.header
      rw [bank, refs] at header
      exact header
    · have settled := done.settled pr m
      rw [index, record] at settled
      exact settled
    · rw [done.others i fun pr m e => out pr m (by rw [← index]; exact e), bank]
  · rw [reply_trace, trace_lineClear, trace.reservations, trace_answered, room, Nat.sub_self]
  · rw [reply_trace, trace_lineClear, trace.threshold, trace_answered]
  · rw [reply_trace, trace_lineClear, trace.nextSeq, trace_answered]
  · obtain ⟨added, records, _⟩ := trace.records
    rw [reply_trace, trace_lineClear, records, trace_answered, List.take_left]
  · obtain ⟨added, records, fields⟩ := trace.records
    rw [reply_trace, trace_lineClear, records, trace_answered, List.drop_left]
    rw [quiet.clock_eq (by simp)] at fields
    exact fields
  all_goals
    have picks : (reply p (okResp (clearCounts held)) (lineClear held)).lastPick = (lineClear held).lastPick :=
      (only_reply p _ _).lastPick_eq (by simp)
    have kept := activeKept_cleared held
    have reach : held.reach = s.reach := same.reach_eq (by simp)
    simp only [picks, lastPick_lineClear, reach]
  · have off : (clearBank .b1 (clearBank .b0 (lanesCleared held))).activeBank = Option.none :=
      (activeBank_none_iff _).2 fun b m e => none b m (by rw [← bank_held]; exact (kept b).1 e)
    rw [off, Option.map_none, startingCorner_none]
  · have one : (clearBank .b1 (clearBank .b0 (lanesCleared held))).activeBank = some b := by
      rw [activeBank_of_activeKept kept, activeBank_of_banks (same.banks_eq (by simp))]
      exact activeBank_of_active law.map.states active
    obtain ⟨done, left⟩ := settles b active
    rw [one, Option.map_some, startingCorner_some, ← bank_lineClear, left, done.header, bank]
    rfl

end Sys2Proof.Proofs
end

section
/-! PROOFS. The notices: every raising but that of TRACE_LEVEL keeps the laws of the notices, and TRACE_LEVEL is evaluated again
wherever its condition can have changed (R125, R140, R141, R143). -/

namespace Sys2Proof.Proofs

open Sys2Proof Sys2Proof.Machine Sys2Proof.Safety

/-! ## The notice state of one port -/

/-- R140: a notice state is one of a role. -/
def NoticeOk (r : Role) (n : NoticeState) : Prop :=
  ∀ k : RankIx, (∀ x ∈ n.pending[k], r.sourceAt k = some x.source) ∧
    (r.sourceAt k = none → n.mask[k] = false ∧ n.inService[k] = false)

/-- The laws of the notices but for TRACE_LEVEL. -/
def NoticeBase (s : State) : Prop := NoticeLaw s ∧ s.role 0 = .supervisor

/-- R125: what stands pending for TRACE_LEVEL with this level, threshold and service. -/
def TracePending (s : State) (n : NoticeState) : Prop :=
  n.pending[(2 : RankIx)] =
    if s.trace.threshold ≤ s.trace.records.length ∧ n.inService[(2 : RankIx)] = false then
      some (.traceLevel s.trace.records.length) else none

theorem noticeInv_iff (s : State) : NoticeInv s ↔ NoticeBase s ∧ TracePending s (s.notice 0) :=
  ⟨fun ⟨ranks, role, level⟩ => ⟨⟨ranks, role⟩, level⟩, fun ⟨⟨ranks, role⟩, level⟩ => ⟨ranks, role, level⟩⟩

theorem sourceAt_of_rankOf {r : Role} {x : Source} {k : RankIx} (h : r.rankOf x = some k) : r.sourceAt k = some x := by
  simpa using List.find?_some h

theorem source_merge (old new : Notice) : (old.merge new).source = new.source := by
  cases old <;> cases new <;> rfl

/-- R141: the pending set after a raising. -/
theorem pending_raise (n : NoticeState) (k j : RankIx) (x : Notice) (y : Notice)
    (m : y ∈ (n.raise k x).pending[j]) : j = k ∧ y.source = x.source ∨ j ≠ k ∧ y ∈ n.pending[j] := by
  by_cases e : j = k
  · subst e
    refine .inl ⟨rfl, ?_⟩
    simp only [NoticeState.raise, Fin.getElem_fin, Vector.getElem_set_self, Option.mem_def, Option.some.injEq] at m
    rw [← m]
    split
    · exact source_merge _ _
    · rfl
  · refine .inr ⟨e, ?_⟩
    have ne : k.val ≠ j.val := fun h => e (Fin.ext h.symm)
    simpa [NoticeState.raise, Vector.getElem_set, ne] using m

theorem noticeOk_raise {r : Role} {n : NoticeState} (h : NoticeOk r n) {k : RankIx} {x : Notice}
    (own : r.sourceAt k = some x.source) : NoticeOk r (n.raise k x) := by
  intro j
  refine ⟨fun y m => ?_, fun none => (h j).2 none⟩
  rcases pending_raise n k j x y m with ⟨rfl, same⟩ | ⟨_, old⟩
  · rw [same]; exact own
  · exact (h j).1 y old

theorem noticeLaw_setNotice {s : State} (h : NoticeLaw s) {p : Port} {n : NoticeState} (ok : NoticeOk (s.role p) n) :
    NoticeLaw (s.setNotice p n) := by
  intro q k
  by_cases e : q = p
  · subst e; simpa using ok k
  · simpa [e] using h q k

/-- A change of the notice state of one port keeps the laws, where TRACE_LEVEL stands as it does or the port is another than S0. -/
theorem noticeInv_setNotice {s : State} (h : NoticeInv s) {p : Port} {n : NoticeState} (ok : NoticeOk (s.role p) n)
    (level : p = 0 → TracePending s n) : NoticeInv (s.setNotice p n) := by
  obtain ⟨⟨law, role⟩, kept⟩ := (noticeInv_iff s).1 h
  refine (noticeInv_iff _).2 ⟨⟨noticeLaw_setNotice law ok, role⟩, ?_⟩
  by_cases e : (0 : Port) = p
  · subst e
    rw [State.notice_setNotice_self]
    exact level rfl
  · rw [State.notice_setNotice_of_ne _ _ e]
    exact kept

theorem supervisor_traceLevel : Role.supervisor.rankOf .traceLevel = some 2 := by decide

theorem supervisor_rank_two {x : Source} (h : Role.supervisor.sourceAt 2 = some x) : x = .traceLevel := by
  have : Role.supervisor.sourceAt 2 = some .traceLevel := by decide
  rw [this] at h
  exact (Option.some.inj h).symm

/-- R141: a raising of another source than TRACE_LEVEL keeps the laws. -/
theorem noticeInv_raiseAt {s : State} (h : NoticeInv s) (p : Port) (x : Notice) (other : x.source ≠ .traceLevel) :
    NoticeInv (raiseAt p x s) := by
  unfold raiseAt
  split
  · exact h
  · rename_i k rank
    have own := sourceAt_of_rankOf rank
    refine noticeInv_setNotice h (noticeOk_raise (h.ranks p) own) fun e => ?_
    subst e
    obtain ⟨role, level⟩ := h.traceLevel
    rw [role] at own
    have ne : k.val ≠ (2 : RankIx).val := fun e => by
      have k2 : k = 2 := Fin.ext e
      subst k2
      exact other (supervisor_rank_two own)
    have same : ((s.notice 0).raise k x).pending[(2 : RankIx)] = (s.notice 0).pending[(2 : RankIx)] := by
      simp only [NoticeState.raise, Fin.getElem_fin]
      exact Vector.getElem_set_ne _ _ ne
    show ((s.notice 0).raise k x).pending[(2 : RankIx)] = _
    rw [same]
    exact level

theorem noticeInv_raiseTo {s : State} (h : NoticeInv s) (r : Role) (x : Notice) (other : x.source ≠ .traceLevel) :
    NoticeInv (raiseTo r x s) := by
  unfold raiseTo
  split
  · exact h
  · exact noticeInv_raiseAt h _ x other

theorem noticeInv_raiseLineState {s : State} (h : NoticeInv s) (c : LineCause) : NoticeInv (raiseLineState c s) :=
  foldl_keeps (I := NoticeInv) (f := fun s p => raiseAt p (.lineState c s.line) s)
    (fun _ p k => noticeInv_raiseAt k p _ (by simp [Notice.source])) _ h

/-- R125, R143: TRACE_LEVEL evaluated again meets its law, whatever the trace has become. -/
theorem noticeInv_reevalTraceLevel {s : State} (h : NoticeBase s) : NoticeInv (reevalTraceLevel s) := by
  obtain ⟨law, role⟩ := h
  unfold reevalTraceLevel
  rw [role, supervisor_traceLevel]
  dsimp only
  refine (noticeInv_iff _).2 ⟨⟨noticeLaw_setNotice law fun j => ⟨fun y m => ?_, (law 0 j).2⟩, role⟩, ?_⟩
  · by_cases e : j = 2
    · subst e
      simp only [Fin.getElem_fin, Vector.getElem_set_self] at m
      split at m
      · cases m; rw [role]; rfl
      · cases m
    · have ne : (2 : RankIx).val ≠ j.val := fun h => e (Fin.ext h.symm)
      simp only [Fin.getElem_fin] at m
      rw [Vector.getElem_set_ne _ _ ne] at m
      exact (law 0 j).1 y m
  · rw [State.notice_setNotice_self]
    simp [TracePending, TraceQueue.atThreshold, State.setNotice]

/-- The laws of the notices depend on the roles, the notices, and the level and threshold of the trace. -/
theorem noticeInv_congr {s t : State} (roles : t.roles = s.roles) (notices : t.notices = s.notices)
    (level : t.trace.records.length = s.trace.records.length) (threshold : t.trace.threshold = s.trace.threshold)
    (h : NoticeInv s) : NoticeInv t := by
  have role : ∀ p, t.role p = s.role p := fun p => by simp only [State.role, roles]
  have notice : ∀ p, t.notice p = s.notice p := fun p => by simp only [State.notice, notices]
  refine ⟨fun p k => ?_, ?_, ?_⟩
  · rw [notice, role]; exact h.ranks p k
  · rw [role]; exact h.traceLevel.1
  · rw [notice, level, threshold]; exact h.traceLevel.2

theorem noticeInv_of_only {parts : List Part} {s t : State} (o : OnlyChanges parts s t) (roles : Part.roles ∉ parts)
    (notices : Part.notices ∉ parts) (trace : Part.trace ∉ parts) (h : NoticeInv s) : NoticeInv t :=
  noticeInv_congr (o.roles_eq roles) (o.notices_eq notices) (by rw [o.trace_eq trace]) (by rw [o.trace_eq trace]) h

theorem noticeInv_reply {s : State} (h : NoticeInv s) (p : Port) (r : Response) : NoticeInv (reply p r s) :=
  noticeInv_of_only (only_reply p r s) (by simp) (by simp) (by simp) h

/-! ## The shared operations -/

theorem noticeInv_changeDie {s : State} (h : NoticeInv s) (b : BankId) (i : Nat) (r : DieRecord) :
    NoticeInv (changeDie b i r s) := by
  have set : NoticeInv (s.setBank b ((s.bank b).withDie i r)) := noticeInv_congr (s := s) rfl rfl rfl rfl h
  unfold changeDie
  dsimp only
  split
  · exact noticeInv_raiseTo set _ _ (by simp [Notice.source])
  · exact set

theorem noticeInv_retireIfClear {s : State} (h : NoticeInv s) (b : BankId) : NoticeInv (retireIfClear b s) := by
  unfold retireIfClear
  split
  · have raised := noticeInv_raiseTo h .wafer (.waferClear (s.bank b).waferId) (by simp [Notice.source])
    exact noticeInv_of_only (only_setBank _ b _) (by simp) (by simp) (by simp) raised
  · exact h

theorem noticeInv_raiseStripSettled {s : State} (h : NoticeInv s) : NoticeInv (raiseStripSettled s) :=
  noticeInv_raiseTo h _ _ (by simp [Notice.source])

theorem noticeInv_settlementCheck {s : State} (h : NoticeInv s) (l : Lane) (a : BitVec 32) :
    NoticeInv (settlementCheck l a s) := by
  unfold settlementCheck
  split
  · exact h
  · split
    · exact noticeInv_raiseStripSettled h
    · exact h

theorem noticeInv_settlementCheckOldest {s : State} (h : NoticeInv s) (l : Lane) : NoticeInv (settlementCheckOldest l s) := by
  unfold settlementCheckOldest
  split
  · exact noticeInv_raiseStripSettled h
  · exact h

theorem noticeInv_reexamine {s : State} (h : NoticeInv s) (l : Lane) : NoticeInv (reexamine l s) :=
  noticeInv_of_only (only_reexamine l s) (by simp) (by simp) (by simp) h

theorem noticeInv_handOnSettled {s : State} (h : NoticeInv s) (l : Lane) (a : BitVec 32) : NoticeInv (handOnSettled l a s) :=
  noticeInv_settlementCheck (noticeInv_reexamine h l) l a

theorem noticeInv_changeSite {s : State} (h : NoticeInv s) (l : Lane) (a : BitVec 32) (i : Nat) (x : Site) :
    NoticeInv (changeSite l a i x s) :=
  noticeInv_of_only (only_changeSite l a i x s) (by simp) (by simp) (by simp) h

theorem noticeInv_grantPair {s : State} (h : NoticeInv s) (p : Port) (f : Found) (t : Ticket) :
    NoticeInv (grantPair p f t s) := by
  have claimed : NoticeInv (claimDie f { s with lastTicket := t }) :=
    noticeInv_of_only (only_setBank _ f.bank _) (by simp) (by simp) (by simp)
      (noticeInv_changeDie (s := { s with lastTicket := t }) (noticeInv_congr (s := s) rfl rfl rfl rfl h) _ _ _)
  have paired := noticeInv_of_only (only_pairSite f t _) (by simp) (by simp) (by simp) claimed
  unfold grantPair
  dsimp only
  exact noticeInv_of_only (only_handOver p _ _ _) (by simp) (by simp) (by simp)
    (noticeInv_congr (s := pairSite f t (claimDie f { s with lastTicket := t })) rfl rfl rfl rfl paired)

theorem noticeInv_arbiterPass {s : State} (h : NoticeInv s) : NoticeInv (arbiterPass s) := by
  refine arbiterPass_keeps (I := NoticeInv) (fun e u k => ?_) h
  rcases tryEntry_cases e u with ⟨f, t, _, _, _, eq⟩ | ⟨o, eq⟩ | eq <;> rw [eq]
  · exact noticeInv_grantPair k e.port f t
  · exact noticeInv_of_only (only_setObstacle e.port o u) (by simp) (by simp) (by simp) k
  · exact k

theorem noticeInv_arbiterPasses {s : State} (h : NoticeInv s) (n : Nat) : NoticeInv (arbiterPasses n s) :=
  arbiterPasses_keeps (I := NoticeInv) (fun _ k => noticeInv_arbiterPass k) n h

theorem noticeInv_closeTrace {s : State} (h : NoticeInv s) (pr : Pairing) (k : Option TraceKind) :
    NoticeInv (closeTrace pr k s) := by
  unfold closeTrace
  split
  · exact noticeInv_reevalTraceLevel ((noticeInv_iff s).1 h).1
  · exact noticeInv_congr (s := s) rfl rfl rfl rfl h

theorem noticeInv_releaseSite {s : State} (h : NoticeInv s) (pr : Pairing) (x : Option Site) :
    NoticeInv (releaseSite pr x s) := by
  unfold releaseSite
  split
  · exact h
  · dsimp only
    split
    · exact noticeInv_handOnSettled (noticeInv_changeSite h _ _ _ _) _ _
    · exact noticeInv_changeSite h _ _ _ _

theorem noticeInv_endPairing {s : State} (h : NoticeInv s) (pr : Pairing) (e : PairEnd) : NoticeInv (endPairing pr e s) := by
  have die : NoticeInv (releaseDie pr e.die s) :=
    noticeInv_of_only (only_setBank _ _ _) (by simp) (by simp) (by simp) (noticeInv_changeDie h _ _ _)
  have ended : NoticeInv (endedBeforeRetire pr e s) :=
    noticeInv_congr (s := closeTrace pr e.record _) rfl rfl rfl rfl
      (noticeInv_closeTrace (noticeInv_releaseSite die pr e.site) pr e.record)
  have retired := noticeInv_retireIfClear ended pr.bank
  rw [endPairing_eq]
  split
  · exact noticeInv_raiseAt retired _ _ (by simp [Notice.source])
  · exact retired

theorem noticeInv_endAndPass {s : State} (h : NoticeInv s) (pr : Pairing) (e : PairEnd) : NoticeInv (endAndPass pr e s) :=
  noticeInv_arbiterPasses (noticeInv_endPairing h pr e) _

/-! ## The notice requests and Line Control -/

theorem noticeOk_take {r : Role} {n : NoticeState} (h : NoticeOk r n) {k : RankIx} {x : Notice} (m : x ∈ n.pending[k]) :
    NoticeOk r (n.take k) := by
  intro j
  have own := (h k).1 x m
  by_cases e : j = k
  · subst e
    refine ⟨fun y m => ?_, fun none => ?_⟩
    · simp [NoticeState.take] at m
    · rw [none] at own; cases own
  · have ne : k.val ≠ j.val := fun h => e (Fin.ext h.symm)
    simpa [NoticeState.take, Vector.getElem_set, ne] using h j

theorem tracePending_take {s : State} {n : NoticeState} (h : TracePending s n) (k : RankIx) : TracePending s (n.take k) := by
  unfold TracePending at h ⊢
  by_cases e : k = 2
  · subst e; simp [NoticeState.take]
  · have ne : k.val ≠ 2 := fun h => e (Fin.ext h)
    simpa [NoticeState.take, Vector.getElem_set, ne] using h

theorem noticeInv_serveNoticeTake {s : State} (h : NoticeInv s) (p : Port) (body : List Octet) :
    NoticeInv (serveNoticeTake p body s) := by
  unfold serveNoticeTake
  split
  · exact noticeInv_reply h p _
  · rename_i k _
    split
    · exact noticeInv_reply h p _
    · rename_i x pending
      have taken := noticeInv_setNotice h (p := p) (noticeOk_take (h.ranks p) pending)
        fun e => e ▸ tracePending_take h.traceLevel.2 k
      exact noticeInv_reply (noticeInv_of_only (only_takeHandOn x _ _) (by simp) (by simp) (by simp) taken) p _

theorem noticeOk_finish {r : Role} {n : NoticeState} (h : NoticeOk r n) (k : RankIx) : NoticeOk r (n.finish k) := by
  intro j
  refine ⟨(h j).1, fun none => ⟨((h j).2 none).1, ?_⟩⟩
  by_cases e : j = k
  · subst e; simp [NoticeState.finish]
  · have ne : k.val ≠ j.val := fun h => e (Fin.ext h.symm)
    simpa [NoticeState.finish, Vector.getElem_set, ne] using ((h j).2 none).2

theorem noticeInv_serveNoticeEnd {s : State} (h : NoticeInv s) (p : Port) (body : List Octet) :
    NoticeInv (serveNoticeEnd p body s) := by
  unfold serveNoticeEnd
  split
  · exact noticeInv_reply h p _
  · rename_i k _
    split
    · exact noticeInv_reply h p _
    · rename_i src own
      refine noticeInv_reply ?_ p _
      have law := noticeLaw_setNotice h.ranks (noticeOk_finish (h.ranks p) k)
      split
      · exact noticeInv_reevalTraceLevel ⟨law, h.traceLevel.1⟩
      · rename_i other
        refine noticeInv_setNotice h (noticeOk_finish (h.ranks p) k) fun e => ?_
        subst e
        obtain ⟨role, level⟩ := h.traceLevel
        rw [role] at own
        have ne : k.val ≠ 2 := fun e => by
          have k2 : k = 2 := Fin.ext e
          subst k2
          exact other (supervisor_rank_two own)
        simpa [TracePending, NoticeState.finish, Vector.getElem_set, ne] using level

theorem noticeOk_mask {r : Role} {n : NoticeState} (h : NoticeOk r n) (m : Octet) :
    NoticeOk r { n with mask := maskFor r m } := by
  intro k
  refine ⟨(h k).1, fun none => ⟨?_, ((h k).2 none).2⟩⟩
  fin_cases k <;> simp_all [maskFor]

theorem noticeInv_serveNoticeMask {s : State} (h : NoticeInv s) (p : Port) (body : List Octet) :
    NoticeInv (serveNoticeMask p body s) := by
  unfold serveNoticeMask
  exact noticeInv_reply (noticeInv_setNotice h (noticeOk_mask (h.ranks p) _) fun e => e ▸ h.traceLevel.2) p _

theorem noticeInv_line {s : State} (h : NoticeInv s) (x : LineState) : NoticeInv { s with line := x } :=
  noticeInv_congr (s := s) rfl rfl rfl rfl h

theorem noticeInv_stopLine {s : State} (h : NoticeInv s) (p : Port) : NoticeInv (stopLine p s) := by
  have waits : NoticeInv (answerAllEntries .paused { s with line := .paused }) :=
    noticeInv_of_only (only_answerAllEntries _ _) (by simp) (by simp) (by simp) (noticeInv_line h .paused)
  have dots : ∀ l u, NoticeInv u → NoticeInv (answerWaiter l (resp .paused []) u) := fun l u k =>
    noticeInv_of_only (only_answerWaiter l _ u) (by simp) (by simp) (by simp) k
  have told := noticeInv_raiseLineState (dots .B _ (dots .A _ waits)) .pause
  unfold stopLine
  dsimp only
  split
  · exact told
  · exact noticeInv_raiseAt told _ _ (by simp [Notice.source])

theorem noticeOk_blank (r : Role) : NoticeOk r .blank := by
  intro k
  refine ⟨fun x m => ?_, fun _ => ?_⟩
  · fin_cases k <;> cases m
  · fin_cases k <;> exact ⟨rfl, rfl⟩

/-- R135: S1 to S7 take a role with a notice state that is cleared. -/
theorem noticeInv_assignRole {s : State} (h : NoticeInv s) {q : Port} (other : q ≠ 0) (r : Role) (level : Nat) :
    NoticeInv (assignRole q r level s) := by
  have ne : q.val ≠ (0 : Port).val := fun e => other (Fin.ext e)
  have role : ∀ x, x ≠ q → { s with roles := s.roles.set q.val ⟨r, level⟩ q.isLt }.role x = s.role x := fun x d => by
    have : q.val ≠ x.val := fun e => d (Fin.ext e.symm)
    simp [State.role, this]
  have cleared : NoticeInv (resetNotice q { s with roles := s.roles.set q.val ⟨r, level⟩ q.isLt }) := by
    refine ⟨fun x k => ?_, (role 0 (Ne.symm other)).trans h.traceLevel.1, ?_⟩
    · by_cases e : x = q
      · subst e
        simp only [resetNotice, State.notice_setNotice_self, State.role_setNotice]
        exact noticeOk_blank _ k
      · simp only [resetNotice, State.notice_setNotice_of_ne _ _ e, State.role_setNotice, role x e]
        exact h.ranks x k
    · simp only [resetNotice, State.notice_setNotice_of_ne _ _ (Ne.symm other)]
      exact h.traceLevel.2
  exact noticeInv_of_only (only_resetOrphans _ _ _) (by simp) (by simp) (by simp) cleared

theorem stationPort_ne_zero {o : Octet} {q : Port} (h : stationPort o = some q) : q ≠ 0 := by
  unfold stationPort at h
  split at h
  · split at h
    · cases h
    · rename_i ne
      cases h
      exact fun e => ne (congrArg Fin.val e)
  · cases h

theorem noticeInv_serveRole {s : State} (h : NoticeInv s) (p : Port) (body : List Octet) : NoticeInv (serveRole p body s) := by
  unfold serveRole
  dsimp only
  split
  · rename_i q r port _
    have assigned : ∀ x, NoticeInv (reply p x (assignRole q r (min (u8 body 2).toNat 3) s)) := fun x =>
      noticeInv_reply (noticeInv_assignRole h (stationPort_ne_zero port) r _) p x
    split
    · exact noticeInv_reply h p _
    · split
      · exact noticeInv_reply h p _
      · split
        · split
          · exact noticeInv_reply h p _
          · exact assigned _
        · split
          · exact assigned _
          · split
            · exact noticeInv_reply h p _
            · exact assigned _
  · exact noticeInv_reply h p _

/-! ## Clearing the line, and the departure of a strip -/

theorem noticeInv_lineClear {s : State} (h : NoticeInv s) : NoticeInv (lineClear s) := by
  have answered : NoticeInv (answerAllEntries .cleared { s with line := .setup }) :=
    noticeInv_of_only (only_answerAllEntries _ _) (by simp) (by simp) (by simp) (noticeInv_line h .setup)
  have ended := (clearPairings_keeps (I := NoticeInv) (fun u pr _ _ k => noticeInv_endPairing k pr _) _ _ rfl answered).1
  have gate : ∀ l u, NoticeInv u → NoticeInv (clearGate l u) := fun l u k =>
    noticeInv_of_only (only_clearGate l u) (by simp) (by simp) (by simp) k
  have lane : ∀ l u, NoticeInv u → NoticeInv (clearLane l u) := fun l u k =>
    noticeInv_of_only (only_clearLane l u) (by simp) (by simp) (by simp) k
  have bank : ∀ b u, NoticeInv u → NoticeInv (clearBank b u) := fun b u k =>
    noticeInv_of_only (only_clearBank b u) (by simp) (by simp) (by simp) k
  have banks := bank .b1 _ (bank .b0 _ (lane .B _ (lane .A _ (gate .B _ (gate .A _ ended)))))
  exact noticeInv_raiseLineState (noticeInv_of_only (only_resetLastPicks _) (by simp) (by simp) (by simp) banks) _

theorem noticeInv_departStrip {s : State} (h : NoticeInv s) (l : Lane) (st : Strip) : NoticeInv (departStrip l st s) := by
  have revoked := revokeSites_keeps (I := NoticeInv) (fun u t pr _ k => noticeInv_endPairing k pr _) st.sites h
  have dot : NoticeInv (endDepartingDot l st (revokeSites st.sites s).2) := by
    unfold endDepartingDot
    split
    · exact revoked
    · split
      · exact noticeInv_raiseTo (noticeInv_of_only (only_dropAssignment l _) (by simp) (by simp) (by simp) revoked) _ _
          (by simp [Notice.source])
      · exact revoked
  have gone := noticeInv_of_only (only_removeOldest l _) (by simp) (by simp) (by simp) dot
  exact noticeInv_arbiterPasses (noticeInv_settlementCheckOldest (noticeInv_reexamine gone l) l) _

/-! ## Every request and every event -/

theorem noticeInv_takePick {s : State} (h : NoticeInv s) (pr : Pairing) : NoticeInv (takePick pr s) :=
  noticeInv_congr (s := changeDie pr.bank (pr.dieIndex s) ((pr.dieRecord s).to .picked) s) rfl rfl rfl rfl
    (noticeInv_changeDie h _ _ _)

theorem noticeInv_placePair {s : State} (h : NoticeInv s) (e : WaitEntry) : NoticeInv (placePair e s) := by
  have passed := noticeInv_arbiterPass (s := { s with waitList := insertEntry e s.waitList })
    (noticeInv_congr (s := s) rfl rfl rfl rfl h)
  unfold placePair
  dsimp only
  split
  · exact noticeInv_of_only (only_answerEntry _ _) (by simp) (by simp) (by simp) passed
  · exact passed

theorem noticeInv_activate {s : State} (h : NoticeInv s) (b : BankId) : NoticeInv (activate b s) := by
  have set : NoticeInv (resetLastPicks (s.setBank b { s.bank b with state := .active })) :=
    noticeInv_congr (s := s) rfl rfl rfl rfl h
  unfold activate
  dsimp only
  split
  · exact noticeInv_raiseTo set _ _ (by simp [Notice.source])
  · exact set

theorem noticeInv_dropRecords {s : State} (h : NoticeInv s) (n : Nat) : NoticeInv (dropRecords n s) :=
  noticeInv_reevalTraceLevel ((noticeInv_iff s).1 h).1

theorem noticeInv_serve {s : State} (h : NoticeInv s) (k : Kind) (p : Port) (body : List Octet) :
    NoticeInv (serve k p body s) := by
  by_cases apart : Part.roles ∉ serveParts k ∧ Part.notices ∉ serveParts k ∧ Part.trace ∉ serveParts k
  · exact noticeInv_of_only (only_serve k p body s) apart.1 apart.2.1 apart.2.2 h
  have answered : ∀ r u, NoticeInv u → NoticeInv (reply p r u) := fun r u k => noticeInv_reply k p r
  cases k with
  | noticeTake => exact noticeInv_serveNoticeTake h p body
  | noticeEnd => exact noticeInv_serveNoticeEnd h p body
  | noticeMask => exact noticeInv_serveNoticeMask h p body
  | pause =>
    show NoticeInv (servePause p body s)
    unfold servePause
    refine answered _ _ ?_
    split
    · exact noticeInv_stopLine h p
    · exact h
  | role => exact noticeInv_serveRole h p body
  | reach =>
    have set : ∀ v, NoticeInv { s with reach := v } := fun v => noticeInv_congr (s := s) rfl rfl rfl rfl h
    show NoticeInv (serveReach p body s)
    unfold serveReach
    split
    · split
      · exact answered _ _ h
      · refine answered _ _ ?_
        split
        · exact noticeInv_arbiterPass (set _)
        · exact set _
    · exact answered _ _ h
  | start =>
    show NoticeInv (serveStart p body s)
    unfold serveStart
    split
    · exact answered _ _ h
    · split
      · exact answered _ _ h
      · exact answered _ _ (noticeInv_arbiterPass (noticeInv_raiseLineState (noticeInv_line h _) _))
  | resume =>
    show NoticeInv (serveResume p body s)
    unfold serveResume
    split
    · exact answered _ _ h
    · exact answered _ _ (noticeInv_reexamine (noticeInv_reexamine
        (noticeInv_arbiterPass (noticeInv_raiseLineState (noticeInv_line h _) _)) _) _)
  | lineEnd =>
    show NoticeInv (serveLineEnd p body s)
    unfold serveLineEnd
    split
    · exact answered _ _ h
    · split
      · exact answered _ _ h
      · exact answered _ _ (noticeInv_raiseLineState (noticeInv_line h _) _)
  | clear =>
    show NoticeInv (reply p (okResp (clearCounts s)) (lineClear s))
    exact answered _ _ (noticeInv_lineClear h)
  | dieMark =>
    show NoticeInv (serveDieMark p body s)
    unfold serveDieMark
    dsimp only
    split
    · split
      · exact answered _ _ h
      · split
        · exact answered _ _ h
        · split
          · exact answered _ _ h
          · split
            · exact answered _ _ h
            · exact answered _ _ (noticeInv_arbiterPasses (noticeInv_changeDie h _ _ _) _)
    · exact answered _ _ h
  | traceRead =>
    show NoticeInv (serveTraceRead p body s)
    unfold serveTraceRead
    dsimp only
    refine answered _ _ ?_
    split
    · exact noticeInv_dropRecords h _
    · exact noticeInv_arbiterPass (noticeInv_dropRecords h _)
  | traceLevel =>
    show NoticeInv (serveTraceLevel p body s)
    unfold serveTraceLevel
    exact answered _ _ (noticeInv_reevalTraceLevel ((noticeInv_iff s).1 h).1)
  | pair =>
    show NoticeInv (servePair p body s)
    unfold servePair
    split
    · exact answered _ _ h
    · split
      · exact answered _ _ h
      · split
        · exact answered _ _ h
        · split
          · exact answered _ _ h
          · exact noticeInv_placePair h _
  | picked =>
    show NoticeInv (servePicked p body s)
    refine withTicket_keeps (fun r => answered r s h) fun pr _ _ => ?_
    split
    · exact answered _ _ (noticeInv_takePick h pr)
    · exact answered _ _ h
  | bonded =>
    show NoticeInv (serveBonded p body s)
    refine withTicket_keeps (fun r => answered r s h) fun pr _ _ => ?_
    split
    · exact answered _ _ h
    · exact answered _ _ (noticeInv_endAndPass h pr _)
  | pickFail =>
    show NoticeInv (servePickFail p body s)
    refine withTicket_keeps (fun r => answered r s h) fun pr _ _ => ?_
    split
    · exact answered _ _ h
    · exact answered _ _ h
    · exact answered _ _ (noticeInv_endAndPass h pr _)
  | discard =>
    show NoticeInv (serveDiscard p body s)
    refine withTicket_keeps (fun r => answered r s h) fun pr _ _ => ?_
    split
    · exact answered _ _ h
    · exact answered _ _ (noticeInv_endAndPass h pr _)
  | stripIn =>
    show NoticeInv (serveStripIn p body s)
    unfold serveStripIn
    split
    · exact answered _ _ h
    · split
      · exact answered _ _ h
      · split
        · split
          · exact answered _ _ h
          · exact answered _ _ (noticeInv_reexamine (noticeInv_settlementCheck
              (noticeInv_of_only (only_setLane s _ _) (by simp) (by simp) (by simp) h) _ _) _)
        · exact answered _ _ h
  | stripOut =>
    show NoticeInv (serveStripOut p body s)
    unfold serveStripOut
    split
    · exact answered _ _ h
    · split
      · exact answered _ _ h
      · exact answered _ _ (noticeInv_departStrip h _ _)
  | waferIn =>
    show NoticeInv (serveWaferIn p body s)
    unfold serveWaferIn
    dsimp only
    split
    · exact answered _ _ h
    · split
      · exact answered _ _ h
      · split
        · exact answered _ _ h
        · exact answered _ _ (noticeInv_arbiterPass (noticeInv_activate h _))
  | waferOut =>
    show NoticeInv (serveWaferOut p body s)
    unfold serveWaferOut
    split
    · exact answered _ _ h
    · exact answered _ _ (noticeInv_retireIfClear
        (noticeInv_of_only (only_setBank s _ _) (by simp) (by simp) (by simp) h) _)
  | _ => exact absurd (by simp [serveParts]) apart

theorem noticeInv_of_ports {s t : State} (o : OnlyChanges [.ports] s t) (h : NoticeInv s) : NoticeInv t :=
  noticeInv_of_only o (by simp) (by simp) (by simp) h

theorem noticeInv_frameCheck {s : State} (h : NoticeInv s) (k : Kind) (p : Port) (body : List Octet) :
    NoticeInv (frameCheck k p body (serve k) s) :=
  frameCheck_keeps (I := NoticeInv) (fun r => noticeInv_of_ports (only_answerAtPort p r s) h)
    fun _ _ => noticeInv_serve (noticeInv_of_ports (only_setLink s p _) h) k p body

theorem noticeInv_withdraw {s : State} (h : NoticeInv s) (m : Option GrantMark) : NoticeInv (withdraw m s) := by
  unfold withdraw
  split
  · exact h
  · unfold withdrawPair
    split
    · exact noticeInv_endAndPass h _ _
    · exact h
  · exact noticeInv_of_only (only_withdrawDot _ s) (by simp) (by simp) (by simp) h

theorem noticeInv_closeLink {s : State} (h : NoticeInv s) (p : Port) : NoticeInv (closeLink p s) := by
  have moved : ∀ x, NoticeInv (s.setLink p x) := fun x => noticeInv_of_ports (only_setLink s p x) h
  unfold closeLink
  split
  · exact h
  · exact moved _
  · exact noticeInv_of_only (only_releaseHeld p _) (by simp) (by simp) (by simp) (moved _)
  · exact noticeInv_withdraw (moved _) _
  · split
    · exact moved _
    · exact noticeInv_withdraw (moved _) _
  · exact moved _

theorem noticeInv_expireLease {s : State} (h : NoticeInv s) (t : Ticket) : NoticeInv (expireLease t s) := by
  unfold expireLease
  split
  · exact h
  · split
    · exact noticeInv_endAndPass h _ _
    · exact h

theorem noticeInv_expireDeadline {s : State} (h : NoticeInv s) (l : Lane) : NoticeInv (expireDeadline l s) := by
  unfold expireDeadline
  split
  · exact h
  · split
    · split
      · exact noticeInv_of_only (only_setGate s l _) (by simp) (by simp) (by simp) h
      · exact noticeInv_raiseTo (noticeInv_of_only (only_takeBackSite l _ s) (by simp) (by simp) (by simp) h) _ _
          (by simp [Notice.source])
    · exact h

theorem noticeInv_sweepVisit {s : State} (h : NoticeInv s) (pos : BitVec 9) : NoticeInv (sweepVisit pos s) := by
  unfold sweepVisit
  dsimp only
  split
  · exact h
  · split
    · exact h
    · split
      · split
        · exact noticeInv_handOnSettled
            (noticeInv_raiseAt (noticeInv_changeSite h _ _ _ _) _ _ (by simp [Notice.source])) _ _
        · exact h
      · exact h

theorem noticeInv_takeVisit {s : State} (h : NoticeInv s) : NoticeInv (takeVisit s) := by
  unfold takeVisit
  split
  · exact noticeInv_sweepVisit (s := { s with visitOwed := false }) (noticeInv_congr (s := s) rfl rfl rfl rfl h) _
  · exact h

theorem noticeInv_catchUp {s : State} (h : NoticeInv s) : NoticeInv (catchUp s) :=
  noticeInv_takeVisit (noticeInv_of_ports (only_handOverAll s) h)

theorem noticeInv_tick {s : State} (h : NoticeInv s) : NoticeInv (tick s) := by
  have frames := foldl_keeps (I := NoticeInv) (f := fun s p => expireFrame p s)
    (fun u p k => noticeInv_of_ports (only_expireFrame p u) k) allPorts (noticeInv_catchUp h)
  have waits := foldl_keeps (I := NoticeInv) (f := fun s p => expirePairWait p s)
    (fun u p k => noticeInv_of_only (only_expirePairWait p u) (by simp) (by simp) (by simp) k) allPorts frames
  have dot : ∀ l u, NoticeInv u → NoticeInv (expireDotWait l u) := fun l u k =>
    noticeInv_of_only (only_expireDotWait l u) (by simp) (by simp) (by simp) k
  have dots := noticeInv_expireDeadline (noticeInv_expireDeadline (dot .B _ (dot .A _ waits)) .A) .B
  have leases : NoticeInv (settle s) :=
    foldl_keeps (I := NoticeInv) (f := fun s t => expireLease t s) (fun u t k => noticeInv_expireLease k t) _ dots
  exact noticeInv_of_only (only_advanceClock (settle s)) (by simp) (by simp) (by simp) leases

theorem noticeInv_completePulse {s : State} (h : NoticeInv s) (l : Lane) (width : Nat) (bound : Bool) :
    NoticeInv (completePulse l width bound s) := by
  have set : ∀ x, NoticeInv (s.setGate l x) := fun x => noticeInv_of_only (only_setGate s l x) (by simp) (by simp) (by simp) h
  unfold completePulse
  split
  · unfold judgeDot
    dsimp only
    split
    · exact noticeInv_arbiterPass (noticeInv_changeSite (set _) _ _ _ _)
    · exact noticeInv_raiseTo (noticeInv_handOnSettled (noticeInv_changeSite (set _) _ _ _ _) _ _) _ _ (by simp [Notice.source])
  · exact noticeInv_raiseTo (set _) _ _ (by simp [Notice.source])

theorem noticeInv_pulseSaturates {s : State} (h : NoticeInv s) (l : Lane) : NoticeInv (pulseSaturates l s) := by
  unfold pulseSaturates
  split
  · exact noticeInv_completePulse (noticeInv_of_only (only_setGate s l _) (by simp) (by simp) (by simp) h) _ _ _
  · exact h

theorem noticeInv_gateFalls {s : State} (h : NoticeInv s) (l : Lane) (width : Nat) : NoticeInv (gateFalls l width s) := by
  have set : ∀ x, NoticeInv (s.setGate l x) := fun x => noticeInv_of_only (only_setGate s l x) (by simp) (by simp) (by simp) h
  unfold gateFalls
  dsimp only
  split
  · exact h
  · split
    · exact set _
    · split
      · split
        · exact set _
        · exact noticeInv_completePulse (set _) _ _ _
      · exact set _

theorem noticeInv_reset : NoticeInv State.reset := ⟨by decide, by decide⟩

/-- Everything that can happen keeps the laws of the notices. -/
theorem noticeInv_happens (s t : State) (h : NoticeInv s) (e : Happens s t) : NoticeInv t := by
  cases e with
  | nothing => exact h
  | ownWork => exact noticeInv_catchUp h
  | frame k p body => exact noticeInv_frameCheck h k p body
  | format p kind => exact noticeInv_of_ports (only_answerAtPort p _ s) h
  | frameInHand k p body => exact noticeInv_of_ports (only_keepInHand p _) (noticeInv_frameCheck h k p body)
  | formatInHand p kind => exact noticeInv_of_ports (only_keepInHand p _) (noticeInv_of_ports (only_answerAtPort p _ s) h)
  | bitIn p octets bits => exact noticeInv_of_ports (only_setLink s p _) h
  | bitOut p k r n m => exact noticeInv_of_ports (only_setLink s p _) h
  | selFallPin p => exact noticeInv_of_ports (only_setPort s p _) h
  | selFallOpens p => exact noticeInv_of_ports (only_setPort s p _) h
  | selRisePin p => exact noticeInv_of_ports (only_setPort s p _) h
  | selRiseCloses p => exact noticeInv_closeLink (noticeInv_of_ports (only_setPort s p _) h) p
  | frameExpiry p => exact noticeInv_of_ports (only_expireFrame p s) h
  | leaseExpiry t => exact noticeInv_expireLease h t
  | deadlineExpiry l => exact noticeInv_expireDeadline h l
  | pairWaitExpiry p => exact noticeInv_of_only (only_expirePairWait p s) (by simp) (by simp) (by simp) h
  | dotWaitExpiry l => exact noticeInv_of_only (only_expireDotWait l s) (by simp) (by simp) (by simp) h
  | clockTick => exact noticeInv_tick h
  | gateRise l => exact noticeInv_of_only (only_gateRises l s) (by simp) (by simp) (by simp) h
  | gateFall l width => exact noticeInv_gateFalls h l width
  | pulseBegin l => exact noticeInv_of_only (only_pulseBegins l s) (by simp) (by simp) (by simp) h
  | pulseSaturation l => exact noticeInv_pulseSaturates h l
  | resetAssert => exact noticeInv_congr (s := State.reset) rfl rfl rfl rfl noticeInv_reset
  | resetRelease dual => exact noticeInv_of_only (only_releaseReset dual s) (by simp) (by simp) (by simp) h

end Sys2Proof.Proofs
end

section
/-! PROOFS. Strips and sites: the strips of a lane are told apart by arrival number and by slot, what a site change makes of a
lane, and the counts it keeps (R25, R28, R29, R31). -/

namespace Sys2Proof.Proofs

open Sys2Proof Sys2Proof.Machine Sys2Proof.Safety

/-! ## Elapsed time (R45) -/

/-- The elapsed time over two spans is no more than the two together. -/
theorem elapsed_trans (a b c : Reading) : elapsed a c ≤ elapsed a b + elapsed b c := by
  unfold elapsed
  bv_omega

@[simp] theorem elapsed_self (a : Reading) : elapsed a a = 0 := by simp [elapsed]

/-- A reading later, at most one tick more has elapsed. -/
theorem elapsed_succ_le (a now : Reading) : elapsed a (now + 1) ≤ elapsed a now + 1 := by
  unfold elapsed
  bv_omega

/-! ## Strips of a lane (R25) -/

/-- R25: the law of a lane's strips, for the products that the table defines; `StripQueueLaw` by definition. -/
def QueueOk (products : Vector (Option Product) 8) (t : LaneTable) : Prop :=
  t.strips.length ≤ Config.maxStrips ∧ (t.strips.map (fun st => st.slot)).Nodup ∧
    (∀ st ∈ t.strips, ∃ pr ∈ products[st.product], st.sites.length = pr.siteCount) ∧
    ∀ e ∈ t.strips.zipIdx, e.1.arrival = t.arrivalCounter - BitVec.ofNat 32 (t.strips.length - e.2)

theorem stripQueueLaw_iff (s : State) (t : LaneTable) : StripQueueLaw s t ↔ QueueOk s.products t := .rfl

theorem arrivals_nodup {ps : Vector (Option Product) 8} {t : LaneTable} (h : QueueOk ps t) : (t.strips.map (fun st => st.arrival)).Nodup := by
  obtain ⟨four, _, _, arrivals⟩ := h
  have at_ : ∀ i (lt : i < t.strips.length),
      t.strips[i].arrival = t.arrivalCounter - BitVec.ofNat 32 (t.strips.length - i) := fun i lt =>
    arrivals (t.strips[i], i) (List.mem_zipIdx_iff_getElem?.2 (List.getElem?_eq_getElem lt))
  rw [List.nodup_iff_pairwise_ne, List.pairwise_iff_getElem]
  intro i j hi hj lt eq
  simp only [List.length_map] at hi hj
  rw [List.getElem_map, List.getElem_map, at_ i hi, at_ j hj] at eq
  have len : t.strips.length ≤ 4 := four
  have nat := congrArg BitVec.toNat eq
  bv_omega

/-- An arrival number names one strip of a lane. -/
theorem strip_unique {ps : Vector (Option Product) 8} {t : LaneTable} (h : QueueOk ps t) {a b : Strip} (ma : a ∈ t.strips) (mb : b ∈ t.strips)
    (e : a.arrival = b.arrival) : a = b := List.inj_on_of_nodup_map (arrivals_nodup h) ma mb e

/-- A slot names one strip of a lane. -/
theorem slot_unique {ps : Vector (Option Product) 8} {t : LaneTable} (h : QueueOk ps t) {a b : Strip} (ma : a ∈ t.strips) (mb : b ∈ t.strips)
    (e : a.slot = b.slot) : a = b := List.inj_on_of_nodup_map h.2.1 ma mb e

/-- A strip of a lane is the one that its arrival number finds. -/
theorem strip_of_mem {ps : Vector (Option Product) 8} {s : State} {l : Lane} (h : QueueOk ps (s.lane l)) {st : Strip} (m : st ∈ (s.lane l).strips) :
    s.strip l st.arrival = some st := by
  unfold State.strip
  cases found : (s.lane l).strips.find? (fun x => x.arrival == st.arrival) with
  | none => exact absurd (List.find?_eq_none.1 found st m) (by simp)
  | some x =>
    have eq : x.arrival = st.arrival := by simpa using List.find?_some found
    rw [strip_unique h (List.mem_of_find?_eq_some found) m eq]

theorem productOf_of_mem {ps : Vector (Option Product) 8} {s : State} {l : Lane} (h : QueueOk ps (s.lane l)) {st : Strip} (m : st ∈ (s.lane l).strips) :
    s.productOf l st.arrival = s.product st.product := by
  simp only [State.productOf, strip_of_mem h m]

theorem site_of_mem {ps : Vector (Option Product) 8} {s : State} {l : Lane} (h : QueueOk ps (s.lane l)) {st : Strip} (m : st ∈ (s.lane l).strips) (i : Nat) :
    s.site l st.arrival i = st.sites[i]? := by
  simp only [State.site, strip_of_mem h m, Option.bind_some]

/-! ## One site changed -/

/-- A strip as it stands after a change of the site `i` of the strip with arrival number `a`. -/
def stripAfter (a : BitVec 32) (i : Nat) (old new : Site) (st : Strip) : Strip :=
  if st.arrival = a then st.withSite i old new else st

/-- The table of a lane after a change of the site `i` of the strip with arrival number `a` (R28, R29, R31). -/
def laneAfter (a : BitVec 32) (i : Nat) (old new : Site) (t : LaneTable) : LaneTable :=
  { t with
    strips := t.strips.map (stripAfter a i old new)
    wetAhead := recount t.wetAhead old.countsWet new.countsWet }

theorem updateStrip_of_absent {a : BitVec 32} {f : Strip → Strip} {strips : List Strip} (h : ∀ st ∈ strips, st.arrival ≠ a) :
    strips.map (fun st => if st.arrival = a then f st else st) = strips := by
  rw [List.map_congr_left (g := fun st => st) fun st m => if_neg (h st m)]
  exact List.map_id' strips

theorem updateStrip_eq_map {a : BitVec 32} {f : Strip → Strip} {strips : List Strip}
    (distinct : (strips.map (fun st => st.arrival)).Nodup) :
    updateStrip a f strips = strips.map (fun st => if st.arrival = a then f st else st) := by
  induction strips with
  | nil => rfl
  | cons st strips ih =>
    obtain ⟨apart, rest⟩ := List.nodup_cons.1 distinct
    simp only [updateStrip, List.map_cons]
    split
    · rename_i e
      rw [updateStrip_of_absent fun x m eq => apart (List.mem_map.2 ⟨x, m, eq.trans e.symm⟩)]
    · rw [ih rest]

/-- R28, R29, R31: a site change of a strip that is there makes this of its lane. -/
theorem changeSite_of_mem {ps : Vector (Option Product) 8} {s : State} {l : Lane} (h : QueueOk ps (s.lane l)) {st : Strip} (m : st ∈ (s.lane l).strips)
    {i : Nat} {old : Site} (at_ : st.sites[i]? = some old) (new : Site) :
    changeSite l st.arrival i new s = s.setLane l (laneAfter st.arrival i old new (s.lane l)) := by
  rw [changeSite_of_some ((site_of_mem h m i).trans at_)]
  simp only [laneAfter, updateStrip_eq_map (arrivals_nodup h)]
  rfl

@[simp] theorem stripAfter_arrival (a : BitVec 32) (i : Nat) (old new : Site) (st : Strip) :
    (stripAfter a i old new st).arrival = st.arrival := by unfold stripAfter; split <;> rfl

@[simp] theorem stripAfter_id (a : BitVec 32) (i : Nat) (old new : Site) (st : Strip) :
    (stripAfter a i old new st).id = st.id := by unfold stripAfter; split <;> rfl

@[simp] theorem stripAfter_slot (a : BitVec 32) (i : Nat) (old new : Site) (st : Strip) :
    (stripAfter a i old new st).slot = st.slot := by unfold stripAfter; split <;> rfl

@[simp] theorem stripAfter_product (a : BitVec 32) (i : Nat) (old new : Site) (st : Strip) :
    (stripAfter a i old new st).product = st.product := by unfold stripAfter; split <;> rfl

@[simp] theorem stripAfter_length (a : BitVec 32) (i : Nat) (old new : Site) (st : Strip) :
    (stripAfter a i old new st).sites.length = st.sites.length := by
  unfold stripAfter
  split
  · simp [Strip.withSite]
  · rfl

/-- A site of a strip after the change is the new record at the changed place, and the old one anywhere else. -/
theorem getElem?_stripAfter {a : BitVec 32} {i j : Nat} {old new x : Site} {st : Strip}
    (h : (stripAfter a i old new st).sites[j]? = some x) :
    (st.arrival = a ∧ j = i ∧ x = new) ∨ (¬ (st.arrival = a ∧ j = i) ∧ st.sites[j]? = some x) := by
  unfold stripAfter at h
  split at h
  · rename_i e
    by_cases c : i = j
    · subst c
      simp only [Strip.withSite, List.getElem?_set_self'] at h
      obtain ⟨_, _, eq⟩ := Option.map_eq_some_iff.1 h
      exact .inl ⟨e, rfl, eq.symm⟩
    · simp only [Strip.withSite, List.getElem?_set_ne c] at h
      exact .inr ⟨fun x => c x.2.symm, h⟩
  · rename_i ne
    exact .inr ⟨fun x => ne x.1, h⟩

/-- A site elsewhere than at the changed place stands. -/
theorem getElem?_stripAfter_of_ne {a : BitVec 32} {i j : Nat} {old new : Site} {st : Strip} (h : ¬ (st.arrival = a ∧ j = i)) :
    (stripAfter a i old new st).sites[j]? = st.sites[j]? := by
  unfold stripAfter
  split
  · rename_i e
    have c : i ≠ j := fun c => h ⟨e, c.symm⟩
    simp [Strip.withSite, List.getElem?_set_ne c]
  · rfl

theorem getElem?_stripAfter_self {i : Nat} {old new : Site} {st : Strip} (h : st.sites[i]? = some old) :
    (stripAfter st.arrival i old new st).sites[i]? = some new := by
  obtain ⟨lt, _⟩ := List.getElem?_eq_some_iff.1 h
  simp [stripAfter, Strip.withSite, lt]

/-! ## The counts -/

/-- One site of a list changed changes a count of its sites by that site. -/
theorem countSites_set (f : Site → Bool) {sites : List Site} {i : Nat} {old : Site} (h : sites[i]? = some old) (new : Site) :
    countSites f (sites.set i new) + (if f old then 1 else 0) = countSites f sites + (if f new then 1 else 0) := by
  induction sites generalizing i with
  | nil => cases h
  | cons x sites ih =>
    cases i with
    | zero =>
      simp only [List.getElem?_cons_zero, Option.some.injEq] at h
      subst h
      simp only [countSites, List.set_cons_zero, List.filter_cons]
      split <;> split <;> simp_all
    | succ i =>
      have step := ih (i := i) (by simpa using h)
      simp only [countSites, List.set_cons_succ, List.filter_cons] at step ⊢
      split
      · simp only [List.length_cons]; omega
      · omega

theorem countSites_pos {f : Site → Bool} {sites : List Site} {i : Nat} {x : Site} (h : sites[i]? = some x) (c : f x = true) :
    0 < countSites f sites :=
  List.length_pos_of_mem (List.mem_filter.2 ⟨List.mem_of_getElem? h, c⟩)

/-- A count kept by `recount` is the count of the changed sites. -/
theorem recount_countSites (f : Site → Bool) {sites : List Site} {i : Nat} {old : Site} (h : sites[i]? = some old) (new : Site) :
    recount (countSites f sites) (f old) (f new) = countSites f (sites.set i new) := by
  have set := countSites_set f h new
  unfold recount
  omega

/-- The wet sites of a list of strips (R29). -/
def wetIn (strips : List Strip) : Nat := (strips.map (fun st => countSites Site.countsWet st.sites)).sum

theorem wetIn_pos {strips : List Strip} {st : Strip} (m : st ∈ strips) : countSites Site.countsWet st.sites ≤ wetIn strips :=
  List.le_sum_of_mem (List.mem_map.2 ⟨st, m, rfl⟩)

theorem map_stripAfter_of_absent {a : BitVec 32} {i : Nat} {old new : Site} {strips : List Strip}
    (h : ∀ st ∈ strips, st.arrival ≠ a) : strips.map (stripAfter a i old new) = strips := by
  rw [List.map_congr_left (g := fun st => st) fun st m => by simp [stripAfter, h st m]]
  exact List.map_id' strips

theorem wetIn_map_stripAfter {strips : List Strip} (distinct : (strips.map (fun st => st.arrival)).Nodup) {st : Strip}
    (m : st ∈ strips) {i : Nat} {old : Site} (h : st.sites[i]? = some old) (new : Site) :
    wetIn (strips.map (stripAfter st.arrival i old new)) + (if old.countsWet then 1 else 0) =
      wetIn strips + (if new.countsWet then 1 else 0) := by
  induction strips with
  | nil => cases m
  | cons x strips ih =>
    obtain ⟨apart, rest⟩ := List.nodup_cons.1 distinct
    simp only [wetIn, List.map_cons, List.sum_cons] at ih ⊢
    rcases List.mem_cons.1 m with eq | m
    · subst eq
      rw [map_stripAfter_of_absent fun y n eq => apart (List.mem_map.2 ⟨y, n, eq⟩)]
      have set := countSites_set Site.countsWet h new
      rw [stripAfter, if_pos rfl]
      show countSites _ (st.sites.set i new) + _ + _ = _
      omega
    · have ne : x.arrival ≠ st.arrival := fun eq => apart (List.mem_map.2 ⟨st, m, eq.symm⟩)
      have step := ih rest m
      simp only [stripAfter, if_neg ne] at step ⊢
      omega

/-! ## A lane -/

/-- The laws of one lane's table (R23, R25, R29, R31, R57). -/
structure LaneOk (products : Vector (Option Product) 8) (t : LaneTable) : Prop where
  ranges : LaneRangeLaw t
  counts : SiteCountLaw t
  queue : QueueOk products t
  wet : WetLimitLaw t

/-- R28, R29, R31: a site change keeps the laws of its lane, where it makes no site wet beyond the limit. -/
theorem laneOk_laneAfter {ps : Vector (Option Product) 8} {t : LaneTable} (h : LaneOk ps t) {st : Strip} (m : st ∈ t.strips) {i : Nat} {old new : Site}
    (at_ : st.sites[i]? = some old) (room : new.countsWet = true → old.countsWet = true ∨ t.wetAhead < t.wetLimit) :
    LaneOk ps (laneAfter st.arrival i old new t) := by
  obtain ⟨ranges, ⟨wet, unsettled⟩, queue, limit⟩ := h
  obtain ⟨four, slots, sizes, arrivals⟩ := queue
  have distinct := arrivals_nodup ⟨four, slots, sizes, arrivals⟩
  have wetAfter := wetIn_map_stripAfter distinct m at_ new
  have some := wetIn_pos m
  have wetEq : t.wetAhead = wetIn t.strips := wet
  refine ⟨?_, ⟨?_, fun x mx => ?_⟩, ⟨?_, ?_, fun x mx => ?_, fun e me => ?_⟩, ?_⟩
  · obtain ⟨low, high, least, most, _⟩ := ranges
    exact ⟨low, high, least, most, by simpa [laneAfter] using four⟩
  · show recount t.wetAhead old.countsWet new.countsWet = wetIn (t.strips.map (stripAfter st.arrival i old new))
    unfold recount
    omega
  · obtain ⟨y, my, rfl⟩ := List.mem_map.1 mx
    by_cases e : y.arrival = st.arrival
    · have same := strip_unique ⟨four, slots, sizes, arrivals⟩ my m e
      subst same
      rw [stripAfter, if_pos rfl]
      show recount y.unsettled _ _ = countSites _ (y.sites.set i new)
      rw [unsettled y my]
      exact recount_countSites (fun x => !x.settled) at_ new
    · simp only [stripAfter, if_neg e]
      exact unsettled y my
  · simpa [laneAfter] using four
  · have eq : (laneAfter st.arrival i old new t).strips.map (fun st => st.slot) = t.strips.map (fun st => st.slot) := by
      simp only [laneAfter, List.map_map]
      exact List.map_congr_left fun y _ => stripAfter_slot _ _ _ _ y
    rw [eq]
    exact slots
  · obtain ⟨y, my, rfl⟩ := List.mem_map.1 mx
    simpa using sizes y my
  · obtain ⟨x, j⟩ := e
    have get : (laneAfter st.arrival i old new t).strips[j]? = Option.some x := List.mem_zipIdx_iff_getElem?.1 me
    simp only [laneAfter, List.getElem?_map] at get
    obtain ⟨y, gy, rfl⟩ := Option.map_eq_some_iff.1 get
    have law := arrivals (y, j) (List.mem_zipIdx_iff_getElem?.2 gy)
    simpa [laneAfter] using law
  · show recount t.wetAhead old.countsWet new.countsWet ≤ t.wetLimit
    have pos : old.countsWet = true → 0 < t.wetAhead := fun c => by
      have := countSites_pos at_ c
      omega
    have low : t.wetAhead ≤ t.wetLimit := limit
    unfold recount
    split
    · rename_i now
      rcases room now with was | lt
      · have := pos was
        simp [was]; omega
      · split <;> omega
    · split <;> omega

end Sys2Proof.Proofs
end

section
/-! PROOFS. The laws of the device, part by part: the same laws as `DeviceInv` but those of the notices, sorted by the part of the
state that each speaks of, and relaxed by what an event under way may leave open. -/

namespace Sys2Proof.Proofs

open Sys2Proof Sys2Proof.Machine Sys2Proof.Safety

/-! ## What an event under way may leave open -/

/-- What the laws leave open while an event is under way. -/
structure Mode where
  /-- The sites whose state need not have its pairing or its assignment. -/
  loose : Lane → BitVec 32 → Nat → Prop
  /-- The line state has moved, and the held requests and the pairings have not followed yet. -/
  lineAhead : Prop
  /-- The visit of the present reading is being taken. -/
  visiting : Bool
  /-- The ports that wait for nothing but the answer to the request in service. -/
  serving : Port → Prop

/-- Between two events nothing is left open. -/
def Mode.normal : Mode := { loose := fun _ _ _ => False, lineAhead := False, visiting := false, serving := fun _ => False }

/-! ## The laws of each part -/

/-- The ticks since the sweep last visited a position, up to 512 where its visit is owed or being taken (R49). -/
def sinceVisitIn (m : Mode) (s : State) (pos : BitVec 9) : Nat :=
  if (m.visiting || s.visitOwed) = true ∧ pos = s.sweepPos - 1 then 512 else (s.sweepPos - 1 - pos).toNat

/-- The laws of one site: bond age and grade, the assignment of a DISPENSING site, the pairing of a PAIRED one, and the age of a
WETTED one (R28, R46, R55, R97, R98). -/
structure SiteOk (loose : Lane → BitVec 32 → Nat → Prop) (product : ProductCode → Product) (assignment : Option Assignment)
    (pairings : List Pairing) (now : Reading) (since : BitVec 9 → Nat) (l : Lane) (st : Strip) (i : Nat) (x : Site) : Prop where
  bondAge : bondAgeOk (product st.product) x = true
  bondGrade : ∀ f ∈ Site.bond x, (product st.product).gradeSet.getLsbD f.grade.toNat = true
  assigned : x = .dispensing → loose l st.arrival i ∨ ∃ a ∈ assignment, a.arrival = st.arrival ∧ a.site = i
  paired : ∀ t ∈ pairedUnder x, loose l st.arrival i ∨
    ∃ pr ∈ pairings, pr.ticket = t ∧ pr.lane = l ∧ pr.arrival = st.arrival ∧ pr.site = i
  wet : ∀ w, x = .wetted w → elapsed w now <
    (product st.product).openTicks + 2 * Config.maxLeaseTicks + since (positionOf l st.slot i)

/-- The laws of one site, in a state. -/
abbrev SiteLaw (m : Mode) (s : State) (l : Lane) (st : Strip) (i : Nat) (x : Site) : Prop :=
  SiteOk m.loose s.product (s.gate l).assignment s.pairings s.clock (sinceVisitIn m s) l st i x

/-- The DISPENSING site that an assignment names (R55). -/
def Dotted (t : LaneTable) (a : Assignment) : Prop :=
  ∃ st ∈ t.strips, st.arrival = a.arrival ∧ st.id = a.stripId ∧ st.slot = a.slot ∧ st.sites[a.site]? = some .dispensing

/-- The PAIRED site that a pairing names, eligible at the grant, of a product that accepts the die (R28, R48, R81). -/
def Sited (product : ProductCode → Product) (t : LaneTable) (pr : Pairing) : Prop :=
  ∃ st ∈ t.strips, st.arrival = pr.arrival ∧ st.id = pr.stripId ∧ ∃ w, st.sites[pr.site]? = some (.paired w pr.ticket) ∧
    elapsed w pr.grantTime < (product st.product).openTicks ∧
    (product st.product).gradeSet.getLsbD pr.grade.toNat = true

/-- The laws of one pairing (R89, R92, R96). -/
structure PairingOk (role : Port → Role) (product : ProductCode → Product) (now : Reading) (t : LaneTable) (pr : Pairing) :
    Prop where
  head : role pr.port = .head
  ticket : pr.ticket ≠ 0
  sited : Sited product t pr
  follows : leaseFollows pr = true
  running : elapsed pr.leaseStart now ≤ pr.leaseLength
  length : pr.leaseLength ≤ Config.maxLeaseTicks

/-- The laws of one pairing, in a state. -/
abbrev PairingLaw (s : State) (pr : Pairing) : Prop := PairingOk s.role s.product s.clock (s.lane pr.lane) pr

/-- The laws of a dot waiter (R55, R59). -/
structure WaiterOk (serving : Port → Prop) (role : Port → Role) (link : Port → Link) (now : Reading) (l : Lane)
    (w : DotWaiter) : Prop where
  role : role w.port = .dispenser l
  link : link w.port = .holding .dot
  running : elapsed w.start now ≤ w.length
  length : w.length ≤ 10 * Config.maxWaitMs
  free : ¬ serving w.port

/-- The laws of one lane's gate: may it hold a DOT, the laws of what it holds, and the lane whose site it dots (R55, R59, R64,
R66, R114). -/
structure GateOk (idle : Prop) (waiting : DotWaiter → Prop) (now : Reading) (t : LaneTable) (g : GateMonitor) : Prop where
  onlyInRun : idle → g.waiter = none
  waiter : ∀ w ∈ g.waiter, waiting w
  apart : g.assignment.isSome = true → g.waiter = none
  bound : g.measurement.isBound = true → g.assignment.isSome = true
  orphans : g.orphans ≤ Config.maxOctetCount
  deadline : ∀ a ∈ g.assignment, a.deadlineRuns = true → elapsed now a.deadline ≤ 100000
  dotted : ∀ a ∈ g.assignment, Dotted t a

/-- The line is not in RUN, and the requests that it held have been answered. -/
abbrev LineIdle (m : Mode) (s : State) : Prop := ¬ m.lineAhead ∧ s.line ≠ .run

/-- The laws of a dot waiter, in a state. -/
abbrev WaiterLaw (m : Mode) (s : State) (l : Lane) (w : DotWaiter) : Prop := WaiterOk m.serving s.role s.link s.clock l w

/-- The laws of a lane's gate, in a state. -/
abbrev GateLaw (m : Mode) (s : State) (l : Lane) (g : GateMonitor) : Prop :=
  GateOk (LineIdle m s) (WaiterLaw m s l) s.clock (s.lane l) g

/-- The laws of one wait list entry (R73, R106). -/
structure EntryOk (serving : Port → Prop) (role : Port → Role) (link : Port → Link) (pairingsOf : Port → Nat) (now : Reading)
    (e : WaitEntry) : Prop where
  role : role e.port = .head
  link : link e.port = .holding .pair
  running : elapsed e.start now ≤ e.length
  length : e.length ≤ 10 * Config.maxWaitMs
  room : pairingsOf e.port < Config.maxPairingsPerHead
  free : ¬ serving e.port

/-- The laws of one wait list entry, in a state. -/
abbrev EntryLaw (m : Mode) (s : State) (e : WaitEntry) : Prop :=
  EntryOk m.serving s.role s.link s.pairingsOf s.clock e

/-- The laws of one port (Table 11-3, R152). -/
structure PortOk (reset : Bool) (now : Reading) (x : PortState) : Prop where
  live : reset = false → (x.selLow = false ↔ x.link = .idle)
  held : reset = true → x.link = .idle
  idle : idleInTime now x.link = true

/-- Every law of the device but those of the notices, with what the mode leaves open. -/
structure Laws (m : Mode) (s : State) : Prop where
  sweep : SweepFollowsClock s
  single : s.dualLane = false → (s.lane .B).strips = []
  cleared : s.resetAsserted = true → ∀ l, (s.lane l).strips = []
  roles : RoleLaw s
  products : ProductLaw s
  levels : ∀ p : Port, s.roles[p].level ≤ 3
  threshold : 1 ≤ s.trace.threshold ∧ s.trace.threshold ≤ Config.traceCapacity
  ringSize : s.ring.length ≤ Config.ringSize
  ports : ∀ p : Port, PortOk s.resetAsserted s.clock s.ports[p]
  onlyInRun : LineIdle m s → s.waitList = []
  sorted : s.waitList.Pairwise (fun a b => b.level ≤ a.level)
  distinct : (waitPorts s).Nodup
  entries : ∀ e ∈ s.waitList, EntryLaw m s e
  gates : ∀ l, GateLaw m s l (s.gate l)
  room : TraceRoomLaw s
  order : TraceOrderLaw s
  states : BankLaw s
  dieCounts : ∀ b, DieCountLaw (s.bank b)
  references : BankRefLaw s
  dice : PairedDieLaw s
  lanes : ∀ l, LaneOk s.products (s.lane l)
  sites : ∀ l, ∀ st ∈ (s.lane l).strips, ∀ i x, st.sites[i]? = some x → SiteLaw m s l st i x
  tickets : (s.pairings.map (fun pr => pr.ticket) ++ s.ring.map (fun e => e.ticket)).Nodup
  perHead : ∀ p : Port, s.pairingsOf p ≤ Config.maxPairingsPerHead
  setup : ¬ m.lineAhead → s.line = .setup → s.pairings = []
  pairings : ∀ pr ∈ s.pairings, PairingLaw s pr

theorem Laws.map {m : Mode} {s : State} (h : Laws m s) : MapInv s := ⟨h.states, h.dieCounts .b0, h.dieCounts .b1, h.references⟩

theorem dieCounts_of_map {s : State} (h : MapInv s) (b : BankId) : DieCountLaw (s.bank b) := by
  cases b; exacts [h.die0, h.die1]

/-! ## They are the laws of the device -/

theorem pairedUnder_eq_some {x : Site} {t : Ticket} : pairedUnder x = some t ↔ ∃ w, x = .paired w t := by
  cases x <;> simp [pairedUnder]

theorem ageBelow_iff (bound : Nat) (now : Reading) (x : Site) :
    ageBelow bound now x = true ↔ ∀ w, x = .wetted w → elapsed w now < bound := by
  cases x <;> simp [ageBelow]

theorem sinceVisitIn_normal (s : State) (pos : BitVec 9) : sinceVisitIn .normal s pos = sinceVisit s pos := by
  simp [sinceVisitIn, sinceVisit, Mode.normal]

theorem wetTime_of_site {s : State} {pr : Pairing} {w : Reading}
    (h : s.site pr.lane pr.arrival pr.site = some (.paired w pr.ticket)) : pr.wetTime s = w := by
  simp [Pairing.wetTime, h, Site.wetTime]

/-- What the model reads of a pairing's site and product is what its strip holds. -/
theorem read_of_sited {s : State} {pr : Pairing} {ps : Vector (Option Product) 8} (queue : QueueOk ps (s.lane pr.lane)) {st : Strip}
    (m : st ∈ (s.lane pr.lane).strips) (arrival : st.arrival = pr.arrival) {w : Reading}
    (at_ : st.sites[pr.site]? = some (.paired w pr.ticket)) :
    s.site pr.lane pr.arrival pr.site = some (.paired w pr.ticket) ∧ pr.wetTime s = w ∧ pr.product s = s.product st.product := by
  have site : s.site pr.lane pr.arrival pr.site = some (.paired w pr.ticket) :=
    (arrival ▸ site_of_mem queue m pr.site).trans at_
  exact ⟨site, wetTime_of_site site, (arrival ▸ productOf_of_mem queue m : s.productOf pr.lane pr.arrival = _)⟩

theorem laws_of_device {s : State} (h : DeviceInv s) : Laws .normal s := by
  have queue : ∀ l, QueueOk s.products (s.lane l) := fun l => by cases l; exacts [h.queueA, h.queueB]
  have both := mem_bothLanes
  exact {
    sweep := h.sweep
    single := h.singleLane.1
    cleared := fun r l => by cases l; exacts [(h.singleLane.2 r).1, (h.singleLane.2 r).2]
    roles := h.roles
    products := h.ranges.products
    levels := h.ranges.levels
    threshold := h.ranges.threshold
    ringSize := h.ranges.ring
    ports := fun p => ⟨(h.link.links p).1, (h.link.links p).2, h.time.timers.1 p⟩
    onlyInRun := fun r => (h.link.onlyInRun r.2).1
    sorted := h.link.waitList.1
    distinct := h.link.waitList.2.1
    entries := fun e me =>
      have ⟨role, link⟩ := h.link.waitList.2.2 e me
      have ⟨running, length⟩ := h.time.timers.2.1 e me
      ⟨role, link, running, length, h.heads.2.1 e me, id⟩
    gates := fun l => by
      refine ⟨fun r => ?_, fun w mw => ?_, h.assignments l (both l), h.bound l (both l), ?_, ?_, (h.dispensing l (both l)).1⟩
      · cases l; exacts [(h.link.onlyInRun r.2).2.1, (h.link.onlyInRun r.2).2.2]
      · obtain ⟨role, link⟩ := h.link.dotWaiters l (both l) w mw
        obtain ⟨running, length⟩ := h.time.timers.2.2.1 l (both l) w mw
        exact ⟨role, link, running, length, id⟩
      · cases l; exacts [h.ranges.orphansA, h.ranges.orphansB]
      · exact h.time.timers.2.2.2.1 l (both l)
    room := h.trace.room
    order := h.trace.order
    states := h.map.states
    dieCounts := dieCounts_of_map h.map
    references := h.map.references
    dice := h.pairedDie
    lanes := fun l => by
      cases l
      · exact ⟨h.ranges.laneA, h.sitesA, h.queueA, h.wetA⟩
      · exact ⟨h.ranges.laneB, h.sitesB, h.queueB, h.wetB⟩
    sites := fun l st mst i x at_ => by
      have mx := List.mem_of_getElem? at_
      have me : (x, i) ∈ st.sites.zipIdx := List.mem_zipIdx_iff_getElem?.2 at_
      refine ⟨h.bondAge l (both l) st mst x mx, h.bondGrade l (both l) st mst x mx, fun d => .inr ?_, fun t mt => .inr ?_,
        fun w e => ?_⟩
      · exact (h.dispensing l (both l)).2 st mst (x, i) me d
      · exact h.pairedSites.2 l (both l) st mst (x, i) me t mt
      · rw [sinceVisitIn_normal]
        exact (ageBelow_iff _ _ _).1 (h.time.ages l (both l) st mst (x, i) me) w e
    tickets := h.tickets.1
    perHead := h.heads.1
    setup := fun _ => h.heads.2.2.2
    pairings := fun pr mpr => by
      obtain ⟨st, mst, arrival, id, named⟩ := h.pairedSites.1 pr mpr
      obtain ⟨x, at_, under⟩ := Option.bind_eq_some_iff.1 named
      obtain ⟨w, rfl⟩ := pairedUnder_eq_some.1 under
      obtain ⟨_, wet, product⟩ := read_of_sited (queue pr.lane) mst arrival at_
      obtain ⟨early, follows⟩ := h.time.pairings pr mpr
      obtain ⟨running, length⟩ := h.time.timers.2.2.2.2 pr mpr
      refine ⟨h.heads.2.2.1 pr mpr, h.tickets.2 pr mpr, ⟨st, mst, arrival, id, w, at_, ?_, ?_⟩, follows, running, length⟩
      · rw [← wet, ← product]; exact early
      · rw [← product]; exact h.pairingGrades pr mpr }

theorem device_of_laws {s : State} (h : Laws .normal s) (notices : NoticeInv s) : DeviceInv s := by
  have ahead : ¬ Mode.normal.lineAhead := id
  have sited : ∀ pr ∈ s.pairings, ∃ st ∈ (s.lane pr.lane).strips, st.arrival = pr.arrival ∧ st.id = pr.stripId ∧
      st.sites[pr.site]? = some (.paired (pr.wetTime s) pr.ticket) ∧ pr.product s = s.product st.product ∧
      elapsed (pr.wetTime s) pr.grantTime < (s.product st.product).openTicks ∧
      (s.product st.product).gradeSet.getLsbD pr.grade.toNat = true := fun pr mpr => by
    obtain ⟨st, mst, arrival, id, w, at_, early, grade⟩ := (h.pairings pr mpr).sited
    obtain ⟨_, wet, product⟩ := read_of_sited (h.lanes pr.lane).queue mst arrival at_
    exact ⟨st, mst, arrival, id, wet ▸ at_, product, wet ▸ early, grade⟩
  have site : ∀ l ∈ bothLanes, ∀ st ∈ (s.lane l).strips, ∀ e ∈ st.sites.zipIdx, SiteLaw .normal s l st e.2 e.1 :=
    fun l _ st mst e me => h.sites l st mst e.2 e.1 (List.mem_zipIdx_iff_getElem?.1 me)
  have siteAt : ∀ l ∈ bothLanes, ∀ st ∈ (s.lane l).strips, ∀ x ∈ st.sites, ∃ i, SiteLaw .normal s l st i x :=
    fun l ml st mst x mx => by
      obtain ⟨i, at_⟩ := List.getElem?_of_mem mx
      exact ⟨i, h.sites l st mst i x at_⟩
  exact {
    sweep := h.sweep
    singleLane := ⟨h.single, fun r => ⟨h.cleared r .A, h.cleared r .B⟩⟩
    roles := h.roles
    ranges := ⟨h.products, (h.lanes .A).ranges, (h.lanes .B).ranges, h.levels, h.threshold, (h.gates .A).orphans,
      (h.gates .B).orphans, h.ringSize⟩
    link := ⟨fun p => ⟨(h.ports p).live, (h.ports p).held⟩,
      fun r => ⟨h.onlyInRun ⟨ahead, r⟩, (h.gates .A).onlyInRun ⟨ahead, r⟩, (h.gates .B).onlyInRun ⟨ahead, r⟩⟩,
      ⟨h.sorted, h.distinct, fun e me => ⟨(h.entries e me).role, (h.entries e me).link⟩⟩,
      fun l _ w mw => ⟨((h.gates l).waiter w mw).role, ((h.gates l).waiter w mw).link⟩⟩
    trace := ⟨h.room, h.order⟩
    map := h.map
    sitesA := (h.lanes .A).counts
    sitesB := (h.lanes .B).counts
    queueA := (h.lanes .A).queue
    queueB := (h.lanes .B).queue
    wetA := (h.lanes .A).wet
    wetB := (h.lanes .B).wet
    bondAge := fun l ml st mst x mx => (siteAt l ml st mst x mx).elim fun _ ok => ok.bondAge
    bondGrade := fun l ml st mst x mx => (siteAt l ml st mst x mx).elim fun _ ok => ok.bondGrade
    notices := notices
    assignments := fun l _ => (h.gates l).apart
    bound := fun l _ => (h.gates l).bound
    dispensing := fun l ml => ⟨(h.gates l).dotted,
      fun st mst e me d => ((site l ml st mst e me).assigned d).resolve_left id⟩
    tickets := ⟨h.tickets, fun pr mpr => (h.pairings pr mpr).ticket⟩
    heads := ⟨h.perHead, fun e me => (h.entries e me).room, fun pr mpr => (h.pairings pr mpr).head, h.setup ahead⟩
    pairedSites := ⟨fun pr mpr => by
        obtain ⟨st, mst, arrival, id, at_, _⟩ := sited pr mpr
        exact ⟨st, mst, arrival, id, by rw [at_]; rfl⟩,
      fun l ml st mst e me t mt => ((site l ml st mst e me).paired t mt).resolve_left id⟩
    pairedDie := h.dice
    pairingGrades := fun pr mpr => by
      obtain ⟨st, _, _, _, _, product, _, grade⟩ := sited pr mpr
      exact (congrArg (fun x => x.gradeSet.getLsbD pr.grade.toNat) product).trans grade
    time := ⟨⟨fun p => (h.ports p).idle, fun e me => ⟨(h.entries e me).running, (h.entries e me).length⟩,
        fun l _ w mw => ⟨((h.gates l).waiter w mw).running, ((h.gates l).waiter w mw).length⟩,
        fun l _ => (h.gates l).deadline, fun pr mpr => ⟨(h.pairings pr mpr).running, (h.pairings pr mpr).length⟩⟩,
      fun pr mpr => by
        obtain ⟨st, _, _, _, _, product, early, _⟩ := sited pr mpr
        exact ⟨by rw [product]; exact early, (h.pairings pr mpr).follows⟩,
      fun l ml st mst e me => (ageBelow_iff _ _ _).2 fun w eq => by
        have := (site l ml st mst e me).wet w eq
        rwa [sinceVisitIn_normal] at this⟩ }

end Sys2Proof.Proofs
end

section
/-! PROOFS. The laws under the updates of one part of the state: a port, a gate, a lane, one site, the banks. -/

namespace Sys2Proof.Proofs

open Sys2Proof Sys2Proof.Machine Sys2Proof.Safety

variable {m : Mode} {s t : State}

/-! ## Parts that no law reads -/

theorem eq_of_only_quiet (o : OnlyChanges [.notices, .lastPick, .reach, .lastTicket] s t) :
    t = { s with notices := t.notices, lastPick := t.lastPick, reach := t.reach, lastTicket := t.lastTicket } := by
  have reset := o.resetAsserted_eq (by simp)
  have clock := o.clock_eq (by simp)
  have sweep := o.sweepPos_eq (by simp)
  have visit := o.visitOwed_eq (by simp)
  have dual := o.dualLane_eq (by simp)
  have line := o.line_eq (by simp)
  have roles := o.roles_eq (by simp)
  have products := o.products_eq (by simp)
  have banks := o.banks_eq (by simp)
  have lanes := o.lanes_eq (by simp)
  have gates := o.gates_eq (by simp)
  have pairings := o.pairings_eq (by simp)
  have ring := o.ring_eq (by simp)
  have waits := o.waitList_eq (by simp)
  have trace := o.trace_eq (by simp)
  have ports := o.ports_eq (by simp)
  have pending := o.pending_eq
  cases s
  cases t
  dsimp only at reset clock sweep visit dual line roles products banks lanes gates pairings ring waits trace ports pending
  subst reset clock sweep visit dual line roles products banks lanes gates pairings ring waits trace ports pending
  rfl

/-- The notices, the last-pick positions, the reach records and the last issued ticket stand in no law here. -/
theorem Laws.quiet (o : OnlyChanges [.notices, .lastPick, .reach, .lastTicket] s t) (h : Laws m s) : Laws m t := by
  rw [eq_of_only_quiet o]
  exact { h with }

theorem Laws.notices (o : OnlyChanges [.notices] s t) (h : Laws m s) : Laws m t := h.quiet (o.mono (by simp))

theorem Laws.setBanks (h : Laws m s) {banks : PerBank MapBank} (map : MapInv { s with banks := banks })
    (dice : PairedDieLaw { s with banks := banks }) : Laws m { s with banks := banks } :=
  { h with states := map.states, dieCounts := dieCounts_of_map map, references := map.references, dice := dice }

/-! ## What is left open -/

/-- No request is held for the port. -/
def Free (s : State) (p : Port) : Prop := (∀ e ∈ s.waitList, e.port ≠ p) ∧ ∀ l, ∀ w ∈ (s.gate l).waiter, w.port ≠ p

theorem Laws.free (h : Laws m s) {p : Port} (serving : m.serving p) : Free s p :=
  ⟨fun e me eq => (h.entries e me).free (eq ▸ serving), fun l w mw eq => ((h.gates l).waiter w mw).free (eq ▸ serving)⟩

/-- A port whose link is no request in hand for a head or a dispenser has none held for it. -/
theorem Laws.free_of_link (h : Laws m s) {p : Port} (pair : s.link p ≠ .holding .pair) (dot : s.link p ≠ .holding .dot) :
    Free s p :=
  ⟨fun e me eq => pair (eq ▸ (h.entries e me).link), fun l w mw eq => dot (eq ▸ ((h.gates l).waiter w mw).link)⟩

/-- The mode that serves a port besides. -/
def Mode.serve (m : Mode) (p : Port) : Mode := { m with serving := fun q => m.serving q ∨ q = p }

theorem Laws.serve (h : Laws m s) {p : Port} (free : Free s p) : Laws (m.serve p) s :=
  { h with
    entries := fun e me => { h.entries e me with free := fun x => x.elim (h.entries e me).free (free.1 e me) }
    gates := fun l => { h.gates l with
      waiter := fun w mw =>
        { (h.gates l).waiter w mw with free := fun x => x.elim ((h.gates l).waiter w mw).free (free.2 l w mw) } } }

theorem Laws.served {p : Port} (h : Laws (m.serve p) s) : Laws m s :=
  { h with
    entries := fun e me => { h.entries e me with free := fun x => (h.entries e me).free (.inl x) }
    gates := fun l => { h.gates l with
      waiter := fun w mw => { (h.gates l).waiter w mw with free := fun x => ((h.gates l).waiter w mw).free (.inl x) } } }

/-- The mode that leaves some sites open besides. -/
def Mode.loosen (m : Mode) (sites : Lane → BitVec 32 → Nat → Prop) : Mode :=
  { m with loose := fun l a i => m.loose l a i ∨ sites l a i }

theorem Laws.loosen (h : Laws m s) (sites : Lane → BitVec 32 → Nat → Prop) : Laws (m.loosen sites) s :=
  { h with
    sites := fun l st mst i x at_ =>
      { h.sites l st mst i x at_ with
        assigned := fun d => ((h.sites l st mst i x at_).assigned d).imp_left .inl
        paired := fun t u => ((h.sites l st mst i x at_).paired t u).imp_left .inl } }

/-- What was left open for some sites is closed, where it is met for each of them. -/
theorem Laws.tighten {sites : Lane → BitVec 32 → Nat → Prop} (h : Laws (m.loosen sites) s)
    (assigned : ∀ l, ∀ st ∈ (s.lane l).strips, ∀ i, st.sites[i]? = some .dispensing → sites l st.arrival i →
      m.loose l st.arrival i ∨ ∃ a ∈ (s.gate l).assignment, a.arrival = st.arrival ∧ a.site = i)
    (paired : ∀ l, ∀ st ∈ (s.lane l).strips, ∀ i w t, st.sites[i]? = some (.paired w t) → sites l st.arrival i →
      m.loose l st.arrival i ∨ ∃ pr ∈ s.pairings, pr.ticket = t ∧ pr.lane = l ∧ pr.arrival = st.arrival ∧ pr.site = i) :
    Laws m s :=
  { h with
    sites := fun l st mst i x at_ =>
      { h.sites l st mst i x at_ with
        assigned := fun d => by
          rcases (h.sites l st mst i x at_).assigned d with (old | new) | met
          · exact .inl old
          · exact assigned l st mst i (d ▸ at_) new
          · exact .inr met
        paired := fun t u => by
          rcases (h.sites l st mst i x at_).paired t u with (old | new) | met
          · exact .inl old
          · obtain ⟨w, rfl⟩ := pairedUnder_eq_some.1 u
            exact paired l st mst i w t at_ new
          · exact .inr met } }

/-! ## Ports -/

/-- A link that is at work may become any other that is at work. -/
theorem PortOk.work {reset : Bool} {now : Reading} {x : PortState} (h : PortOk reset now x) (busy : x.link ≠ .idle) {y : Link}
    (work : y ≠ .idle) (timer : idleInTime now y = true) : PortOk reset now { x with link := y } :=
  ⟨fun r => ⟨fun high => absurd ((h.live r).1 high) busy, fun e => absurd e work⟩, fun r => absurd (h.held r) busy, timer⟩

theorem Laws.setPort (h : Laws m s) {p : Port} {x : PortState} (ok : PortOk s.resetAsserted s.clock x)
    (held : x.link = s.link p ∨ Free s p) : Laws m (s.setPort p x) := by
  have same : ∀ q, x.link = s.link p ∨ q ≠ p → (s.setPort p x).link q = s.link q := by
    rintro q c
    by_cases e : q = p
    · subst e
      simpa [State.link] using c
    · simp [State.link, e]
  exact { h with
    ports := fun q => by
      by_cases e : q = p
      · subst e; simpa using ok
      · simpa [e] using h.ports q
    entries := fun e me =>
      { h.entries e me with link := (same e.port (held.imp_right fun f => f.1 e me)).trans (h.entries e me).link }
    gates := fun l => { h.gates l with
      waiter := fun w mw => { (h.gates l).waiter w mw with
        link := (same w.port (held.imp_right fun f => f.2 l w mw)).trans ((h.gates l).waiter w mw).link } } }

theorem Laws.setLink (h : Laws m s) {p : Port} {y : Link} (free : Free s p) (busy : s.link p ≠ .idle) (work : y ≠ .idle)
    (timer : idleInTime s.clock y = true) : Laws m (s.setLink p y) :=
  h.setPort ((h.ports p).work busy work timer) (.inr free)

theorem Laws.handOver (h : Laws m s) {p : Port} (free : Free s p) (r : Response) (k : Option GrantMark) :
    Laws m (handOver p r k s) := by
  unfold Machine.handOver
  split
  · rename_i holds
    exact h.setLink free (by rw [holds]; exact fun e => nomatch e) (fun e => nomatch e) rfl
  · exact h

theorem Laws.reply (h : Laws m s) {p : Port} (free : Free s p) (r : Response) : Laws m (reply p r s) := h.handOver free r none

/-! ## Gates -/

theorem Laws.setGate (h : Laws m s) {l : Lane} {g : GateMonitor} (ok : GateLaw m s l g)
    (kept : ∀ a ∈ (s.gate l).assignment, m.loose l a.arrival a.site ∨
      ∃ b ∈ g.assignment, b.arrival = a.arrival ∧ b.site = a.site) : Laws m (s.setGate l g) :=
  { h with
    gates := fun k => by
      by_cases e : k = l
      · subst e
        rw [State.gate_setGate_self]
        exact ok
      · rw [State.gate_setGate_of_ne _ _ e]
        exact h.gates k
    sites := fun k st mst i x at_ =>
      { h.sites k st mst i x at_ with
        assigned := fun d => by
          rcases (h.sites k st mst i x at_).assigned d with open_ | ⟨a, ma, arrival, site⟩
          · exact .inl open_
          · by_cases e : k = l
            · subst e
              rw [State.gate_setGate_self]
              rcases kept a ma with open_ | ⟨b, mb, arr, sit⟩
              · exact .inl (by rw [arrival, site] at open_; exact open_)
              · exact .inr ⟨b, mb, arr.trans arrival, sit.trans site⟩
            · rw [State.gate_setGate_of_ne _ _ e]
              exact .inr ⟨a, ma, arrival, site⟩ } }

/-- A gate that keeps its assignment and its dot waiter. -/
theorem Laws.setGate_held (h : Laws m s) {l : Lane} {g : GateMonitor} (assignment : g.assignment = (s.gate l).assignment)
    (waiter : g.waiter = (s.gate l).waiter) (bound : g.measurement.isBound = true → (s.gate l).assignment.isSome = true)
    (orphans : g.orphans ≤ Config.maxOctetCount) : Laws m (s.setGate l g) := by
  have old := h.gates l
  refine h.setGate ⟨?_, ?_, ?_, ?_, orphans, ?_, ?_⟩ fun a ma => .inr ⟨a, assignment ▸ ma, rfl, rfl⟩
  · rw [waiter]; exact old.onlyInRun
  · rw [waiter]; exact old.waiter
  · rw [waiter, assignment]; exact old.apart
  · rw [assignment]; exact bound
  · rw [assignment]; exact old.deadline
  · rw [assignment]; exact old.dotted

/-- The dot waiter of a lane is let go. -/
theorem Laws.dropWaiter (h : Laws m s) (l : Lane) : Laws m (s.setGate l { s.gate l with waiter := none }) :=
  h.setGate { h.gates l with onlyInRun := fun _ => rfl, waiter := fun _ n => (nomatch n), apart := fun _ => rfl }
    fun a ma => .inr ⟨a, ma, rfl, rfl⟩

/-- The assignment of a lane ends, its site left open; its pulse is bound no more. -/
theorem Laws.dropAssignment (h : Laws m s) {l : Lane} {g : GateMonitor} (ended : g.assignment = none)
    (waiter : g.waiter = (s.gate l).waiter) (unbound : g.measurement.isBound = false)
    (orphans : g.orphans ≤ Config.maxOctetCount)
    (open_ : ∀ a ∈ (s.gate l).assignment, m.loose l a.arrival a.site) : Laws m (s.setGate l g) := by
  have old := h.gates l
  refine h.setGate ⟨?_, ?_, ?_, ?_, orphans, ?_, ?_⟩ fun a ma => .inl (open_ a ma)
  · rw [waiter]; exact old.onlyInRun
  · rw [waiter]; exact old.waiter
  · rw [ended]; exact fun x => nomatch x
  · rw [unbound]; exact fun x => nomatch x
  · rw [ended]; exact fun _ x => nomatch x
  · rw [ended]; exact fun _ x => nomatch x

/-! ## Lanes -/

theorem Laws.setLane (h : Laws m s) {l : Lane} {t : LaneTable} (lane : LaneOk s.products t)
    (single : s.dualLane = false → l = .B → t.strips = []) (cleared : s.resetAsserted = true → t.strips = [])
    (sites : ∀ st ∈ t.strips, ∀ i x, st.sites[i]? = some x → SiteLaw m s l st i x)
    (dotted : ∀ a ∈ (s.gate l).assignment, Dotted t a)
    (sited : ∀ pr ∈ s.pairings, pr.lane = l → Sited s.product t pr) : Laws m (s.setLane l t) := by
  exact { h with
    single := fun d => by
      by_cases e : Lane.B = l
      · subst e
        rw [State.lane_setLane_self]
        exact single d rfl
      · rw [State.lane_setLane_of_ne _ _ e]
        exact h.single d
    cleared := fun r k => by
      by_cases e : k = l
      · subst e
        rw [State.lane_setLane_self]
        exact cleared r
      · rw [State.lane_setLane_of_ne _ _ e]
        exact h.cleared r k
    gates := fun k => by
      by_cases e : k = l
      · subst e
        exact { h.gates k with dotted := by rw [State.lane_setLane_self]; exact dotted }
      · exact { h.gates k with dotted := by rw [State.lane_setLane_of_ne _ _ e]; exact (h.gates k).dotted }
    lanes := fun k => by
      by_cases e : k = l
      · subst e
        rw [State.lane_setLane_self]
        exact lane
      · rw [State.lane_setLane_of_ne _ _ e]
        exact h.lanes k
    sites := fun k => by
      by_cases e : k = l
      · subst e
        rw [State.lane_setLane_self]
        exact sites
      · rw [State.lane_setLane_of_ne _ _ e]
        exact h.sites k
    pairings := fun pr mpr => by
      by_cases e : pr.lane = l
      · exact { h.pairings pr mpr with sited := by rw [e, State.lane_setLane_self]; exact sited pr mpr e }
      · exact { h.pairings pr mpr with sited := by rw [State.lane_setLane_of_ne _ _ e]; exact (h.pairings pr mpr).sited } }

/-- The laws of a site read its strip's product, arrival number and slot alone. -/
theorem siteLaw_of_header {l : Lane} {st st' : Strip} {i : Nat} {x : Site} (h : SiteLaw m s l st i x)
    (product : st'.product = st.product) (arrival : st'.arrival = st.arrival) (slot : st'.slot = st.slot) :
    SiteLaw m s l st' i x := by
  obtain ⟨age, grade, assigned, paired, wet⟩ := h
  rw [← product] at age grade wet
  rw [← arrival] at assigned paired
  rw [← slot] at wet
  exact ⟨age, grade, assigned, paired, wet⟩

/-- R28: a site changes that neither an assignment nor a pairing names. -/
theorem Laws.changeSite (h : Laws m s) {l : Lane} {st : Strip} (mst : st ∈ (s.lane l).strips) {i : Nat} {old new : Site}
    (at_ : st.sites[i]? = some old) (law : SiteLaw m s l st i new)
    (room : new.countsWet = true → old.countsWet = true ∨ (s.lane l).wetAhead < (s.lane l).wetLimit)
    (unassigned : ∀ a ∈ (s.gate l).assignment, ¬ (a.arrival = st.arrival ∧ a.site = i))
    (unpaired : ∀ pr ∈ s.pairings, ¬ (pr.lane = l ∧ pr.arrival = st.arrival ∧ pr.site = i)) :
    Laws m (changeSite l st.arrival i new s) := by
  have queue := (h.lanes l).queue
  have mem : ∀ y ∈ (s.lane l).strips, stripAfter st.arrival i old new y ∈ (laneAfter st.arrival i old new (s.lane l)).strips :=
    fun y my => List.mem_map.2 ⟨y, my, rfl⟩
  rw [changeSite_of_mem queue mst at_]
  refine h.setLane (laneOk_laneAfter (h.lanes l) mst at_ room) (fun d e => ?_) (fun r => ?_) (fun y my j x atj => ?_)
    (fun a ma => ?_) (fun pr mpr e => ?_)
  · subst e; rw [h.single d] at mst; cases mst
  · rw [h.cleared r] at mst; cases mst
  · obtain ⟨z, mz, rfl⟩ := List.mem_map.1 my
    rcases getElem?_stripAfter atj with ⟨e, rfl, rfl⟩ | ⟨_, atz⟩
    · have same := strip_unique queue mz mst e
      subst same
      exact siteLaw_of_header law (by simp) (by simp) (by simp)
    · exact siteLaw_of_header (h.sites l z mz j x atz) (by simp) (by simp) (by simp)
  · obtain ⟨y, my, arrival, id, slot, aty⟩ := (h.gates l).dotted a ma
    refine ⟨_, mem y my, by simpa using arrival, by simpa using id, by simpa using slot, ?_⟩
    rw [getElem?_stripAfter_of_ne fun c => unassigned a ma ⟨arrival.symm.trans c.1, c.2⟩]
    exact aty
  · subst e
    obtain ⟨y, my, arrival, id, w, aty, early, grade⟩ := (h.pairings pr mpr).sited
    refine ⟨_, mem y my, by simpa using arrival, by simpa using id, w, ?_, by simpa using early, by simpa using grade⟩
    rw [getElem?_stripAfter_of_ne fun c => unpaired pr mpr ⟨rfl, arrival.symm.trans c.1, c.2⟩]
    exact aty

/-- One site. -/
def atSite (l : Lane) (a : BitVec 32) (i : Nat) : Lane → BitVec 32 → Nat → Prop := fun k b j => k = l ∧ b = a ∧ j = i

/-- R28: after a site change the strip that its arrival number names has the new record. -/
theorem Laws.site_changeSite (h : Laws m s) {l : Lane} {st : Strip} (mst : st ∈ (s.lane l).strips) {i : Nat} {old : Site}
    (at_ : st.sites[i]? = some old) (new : Site) {y : Strip}
    (my : y ∈ ((Machine.changeSite l st.arrival i new s).lane l).strips) (arrival : y.arrival = st.arrival) :
    y.sites[i]? = some new := by
  have queue := (h.lanes l).queue
  rw [changeSite_of_mem queue mst at_, State.lane_setLane_self] at my
  obtain ⟨z, mz, rfl⟩ := List.mem_map.1 my
  rw [stripAfter_arrival] at arrival
  rw [strip_unique queue mz mst arrival]
  exact getElem?_stripAfter_self at_

/-- A site that was left open is closed by a change to a record that is lawful. -/
theorem Laws.closeSite {l : Lane} {st : Strip} {i : Nat} (h : Laws (m.loosen (atSite l st.arrival i)) s)
    (mst : st ∈ (s.lane l).strips) {old new : Site} (at_ : st.sites[i]? = some old) (law : SiteLaw m s l st i new)
    (room : new.countsWet = true → old.countsWet = true ∨ (s.lane l).wetAhead < (s.lane l).wetLimit)
    (unassigned : ∀ a ∈ (s.gate l).assignment, ¬ (a.arrival = st.arrival ∧ a.site = i))
    (unpaired : ∀ pr ∈ s.pairings, ¬ (pr.lane = l ∧ pr.arrival = st.arrival ∧ pr.site = i)) :
    Laws m (Machine.changeSite l st.arrival i new s) := by
  have changed := h.changeSite mst at_
    { law with assigned := fun d => (law.assigned d).imp_left .inl, paired := fun t u => (law.paired t u).imp_left .inl }
    room unassigned unpaired
  have gate : ∀ k, (Machine.changeSite l st.arrival i new s).gate k = s.gate k := fun k => by
    simp only [State.gate, (only_changeSite _ _ _ _ _).gates_eq (by simp)]
  have pairings : (Machine.changeSite l st.arrival i new s).pairings = s.pairings :=
    (only_changeSite _ _ _ _ _).pairings_eq (by simp)
  refine changed.tighten (fun k y my j aty c => ?_) (fun k y my j w t aty c => ?_)
  · obtain ⟨rfl, arrival, rfl⟩ := c
    rw [h.site_changeSite mst at_ new my arrival, Option.some.injEq] at aty
    rw [gate, arrival]
    exact law.assigned aty
  · obtain ⟨rfl, arrival, rfl⟩ := c
    rw [h.site_changeSite mst at_ new my arrival, Option.some.injEq] at aty
    rw [pairings, arrival]
    exact law.paired t (pairedUnder_eq_some.2 ⟨w, aty⟩)

end Sys2Proof.Proofs
end

section
/-! PROOFS. Dispensing: the grant of a DOT, its site taken back, judged or spoiled, and the hand-on of a site that settles keep
the laws (R30, R50, R55 to R62, R65, R67, R68). -/

namespace Sys2Proof.Proofs

open Sys2Proof Sys2Proof.Machine Sys2Proof.Safety

variable {m : Mode} {s t : State}

/-! ## The examination (R57) -/

theorem siteToDot_spec {strips : List Strip} {st : Strip} {i : Nat} (h : siteToDot strips = some (st, i)) :
    st ∈ strips ∧ st.sites[i]? = some .empty := by
  induction strips with
  | nil => cases h
  | cons x strips ih =>
    unfold siteToDot at h
    split at h
    · rename_i j found
      cases h
      obtain ⟨lt, is, _⟩ := List.findIdx?_eq_some_iff_getElem.1 found
      exact ⟨List.mem_cons_self, by rw [List.getElem?_eq_getElem lt]; simpa using is⟩
    · obtain ⟨mem, at_⟩ := ih h
      exact ⟨List.mem_cons_of_mem _ mem, at_⟩

theorem examine_spec {l : Lane} {st : Strip} {i : Nat} (h : examine s l = some (st, i)) :
    (s.lane l).wetAhead < (s.lane l).wetLimit ∧ st ∈ (s.lane l).strips ∧ st.sites[i]? = some .empty := by
  unfold examine at h
  split at h
  · rename_i room
    exact ⟨room, siteToDot_spec h⟩
  · cases h

/-! ## Sites that no assignment and no pairing names -/

theorem Laws.unassigned (h : Laws m s) {l : Lane} {st : Strip} (mst : st ∈ (s.lane l).strips) {i : Nat} {x : Site}
    (at_ : st.sites[i]? = some x) (other : x ≠ .dispensing) :
    ∀ a ∈ (s.gate l).assignment, ¬ (a.arrival = st.arrival ∧ a.site = i) := by
  rintro a ma ⟨arrival, rfl⟩
  obtain ⟨y, my, same, _, _, aty⟩ := (h.gates l).dotted a ma
  rw [strip_unique (h.lanes l).queue my mst (same.trans arrival), at_, Option.some.injEq] at aty
  exact other aty

theorem Laws.unpaired (h : Laws m s) {l : Lane} {st : Strip} (mst : st ∈ (s.lane l).strips) {i : Nat} {x : Site}
    (at_ : st.sites[i]? = some x) (other : pairedUnder x = none) :
    ∀ pr ∈ s.pairings, ¬ (pr.lane = l ∧ pr.arrival = st.arrival ∧ pr.site = i) := by
  rintro pr mpr ⟨rfl, arrival, rfl⟩
  obtain ⟨y, my, same, _, w, aty, _⟩ := (h.pairings pr mpr).sited
  rw [strip_unique (h.lanes pr.lane).queue my mst (same.trans arrival), at_, Option.some.injEq] at aty
  rw [pairedUnder_eq_some.2 ⟨w, aty⟩] at other
  cases other

/-- A record that holds no bond, waits for no dot, is in no pairing and dries nothing. -/
def Bare (x : Site) : Prop := Site.bond x = none ∧ pairedUnder x = none ∧ x ≠ .dispensing ∧ ∀ w, x ≠ .wetted w

theorem bondAgeOk_of_bond {x : Site} (h : Site.bond x = none) (pr : Product) : bondAgeOk pr x = true := by
  cases x with
  | bonded f => cases h
  | late f => cases h
  | misplaced f => cases h
  | _ => rfl

theorem Bare.law {x : Site} (h : Bare x) (l : Lane) (st : Strip) (i : Nat) : SiteLaw m s l st i x := by
  obtain ⟨bond, pair, dot, wet⟩ := h
  refine ⟨bondAgeOk_of_bond bond _, ?_, fun e => absurd e dot, ?_, fun w e => absurd e (wet w)⟩
  · rw [bond]; exact (fun _ n => nomatch n)
  · rw [pair]; exact (fun _ n => nomatch n)

theorem bare_empty : Bare .empty := by simp [Bare, Site.bond, pairedUnder]

/-- A WETTED record is lawful while its age is in bounds (R46). -/
theorem siteLaw_wetted {l : Lane} {st : Strip} {i : Nat} {w : Reading}
    (young : elapsed w s.clock < (s.product st.product).openTicks + 2 * Config.maxLeaseTicks) :
    SiteLaw m s l st i (.wetted w) := by
  refine ⟨rfl, (fun _ n => nomatch n), (fun e => nomatch e), (fun _ n => nomatch n), fun v e => ?_⟩
  cases e
  omega

/-! ## The grant of a DOT (R58) -/

theorem gate_changeSite (l : Lane) (a : BitVec 32) (i : Nat) (x : Site) (s : State) (k : Lane) :
    (changeSite l a i x s).gate k = s.gate k := by
  simp only [State.gate, (only_changeSite _ _ _ _ _).gates_eq (by simp)]

theorem elapsed_deadline {now : Reading} {ms : Nat} (h : ms ≤ 10000) : elapsed now (deadlineOf now (ticksOfMs ms)) ≤ 100000 := by
  unfold elapsed deadlineOf ticksOfMs
  rw [BitVec.add_comm, BitVec.add_sub_cancel, BitVec.toNat_ofNat, Nat.mod_eq_of_lt (by omega)]
  omega

theorem Laws.grantDot (h : Laws m s) {l : Lane} {p : Port} {st : Strip} {i : Nat} (found : examine s l = some (st, i))
    (unassigned : (s.gate l).assignment = none) (unheld : (s.gate l).waiter = none) (free : Free s p) :
    Laws m (grantDot l p st i s) := by
  obtain ⟨room, mst, at_⟩ := examine_spec found
  have opened := h.loosen (atSite l st.arrival i)
  have site : SiteLaw (m.loosen (atSite l st.arrival i)) s l st i .dispensing :=
    ⟨rfl, (fun _ n => nomatch n), fun _ => .inl (.inr ⟨rfl, rfl, rfl⟩), (fun _ n => nomatch n), (fun _ e => nomatch e)⟩
  have changed := opened.changeSite mst at_ site (fun _ => .inr room) (h.unassigned mst at_ (fun e => nomatch e))
    (h.unpaired mst at_ rfl)
  have gate := gate_changeSite l st.arrival i .dispensing s
  have clock : (Machine.changeSite l st.arrival i .dispensing s).clock = s.clock := (only_changeSite _ _ _ _ _).clock_eq (by simp)
  have waits : (Machine.changeSite l st.arrival i .dispensing s).waitList = s.waitList :=
    (only_changeSite _ _ _ _ _).waitList_eq (by simp)
  have dotted : Dotted ((Machine.changeSite l st.arrival i .dispensing s).lane l) (assignmentFor s l st i) := by
    rw [changeSite_of_mem (h.lanes l).queue mst at_, State.lane_setLane_self]
    exact ⟨_, List.mem_map.2 ⟨st, mst, rfl⟩, stripAfter_arrival _ _ _ _ _, stripAfter_id _ _ _ _ _, stripAfter_slot _ _ _ _ _,
      getElem?_stripAfter_self at_⟩
  have assigned := changed.setGate (l := l)
    (g := { (Machine.changeSite l st.arrival i .dispensing s).gate l with assignment := some (assignmentFor s l st i) })
    { changed.gates l with
      apart := fun _ => by rw [gate]; exact unheld
      bound := fun _ => rfl
      deadline := fun a ma _ => by
        cases ma
        rw [clock]
        exact elapsed_deadline (h.lanes l).ranges.2.2.2.1
      dotted := fun a ma => by cases ma; exact dotted }
    fun a ma => by rw [gate, unassigned] at ma; cases ma
  have closed : Laws m _ := assigned.tighten
    (fun k y my j _ c => by
      obtain ⟨rfl, arrival, rfl⟩ := c
      exact .inr ⟨_, by rw [State.gate_setGate_self]; rfl, arrival.symm, rfl⟩)
    fun k y my j w t aty c => by
      obtain ⟨rfl, arrival, rfl⟩ := c
      rw [h.site_changeSite mst at_ _ my arrival] at aty
      cases aty
  refine closed.handOver ⟨fun e me => free.1 e (by simpa [waits] using me), fun k w mw => ?_⟩ _ _
  by_cases e : k = l
  · subst e
    rw [State.gate_setGate_self, gate] at mw
    exact free.2 k w mw
  · rw [State.gate_setGate_of_ne _ _ e, gate] at mw
    exact free.2 k w mw

/-! ## The re-examination of a held DOT (R60) and the hand-on (R30) -/

/-- A dot waiter's port has nothing else held for it. -/
theorem Laws.free_of_waiter (h : Laws m s) {l : Lane} {w : DotWaiter} (held : (s.gate l).waiter = some w) :
    Free (s.setGate l { s.gate l with waiter := none }) w.port := by
  have law := (h.gates l).waiter w held
  refine ⟨fun e me eq => ?_, fun k v mv eq => ?_⟩
  · have pair := (h.entries e me).link
    rw [eq, law.link] at pair
    cases pair
  · by_cases e : k = l
    · subst e
      rw [State.gate_setGate_self] at mv
      cases mv
    · rw [State.gate_setGate_of_ne _ _ e] at mv
      have role := ((h.gates k).waiter v mv).role
      rw [eq, law.role] at role
      cases role
      exact e rfl

theorem Laws.reexamine (h : Laws m s) (l : Lane) : Laws m (reexamine l s) := by
  unfold Machine.reexamine
  split
  · exact h
  · rename_i w held
    split
    · exact h
    · rename_i st i found
      have unassigned : (s.gate l).assignment = none := by
        by_contra some
        have := (h.gates l).apart (Option.isSome_iff_ne_none.2 some)
        rw [held] at this
        cases this
      exact (h.dropWaiter l).grantDot found (by simpa using unassigned) (by simp) (h.free_of_waiter held)

theorem Laws.handOnSettled (h : Laws m s) (l : Lane) (a : BitVec 32) : Laws m (handOnSettled l a s) :=
  (h.reexamine l).notices (only_settlementCheck l a _)

theorem Laws.answerWaiter (h : Laws m s) (l : Lane) (r : Response) : Laws m (answerWaiter l r s) := by
  unfold Machine.answerWaiter
  split
  · exact h
  · rename_i w held
    exact (h.dropWaiter l).reply (h.free_of_waiter held) r

/-! ## The end of an assignment -/

theorem changeSite_setGate (l k : Lane) (a : BitVec 32) (i : Nat) (x : Site) (g : GateMonitor) (s : State) :
    changeSite l a i x (s.setGate k g) = (changeSite l a i x s).setGate k g := by
  simp only [changeSite, State.site, State.strip, State.lane_setGate]
  split <;> rfl

theorem isBound_unbind (x : Measurement) : x.unbind.isBound = false := by cases x <;> rfl

/-- R62, R65, R67, R68: the assignment of a lane ends, and its site becomes a record that is lawful. -/
theorem Laws.endAssignment (h : Laws m s) {l : Lane} {a : Assignment} (assigned : (s.gate l).assignment = some a)
    {g : GateMonitor} (ended : g.assignment = none) (waiter : g.waiter = (s.gate l).waiter)
    (unbound : g.measurement.isBound = false) (orphans : g.orphans = (s.gate l).orphans) {x : Site}
    (law : ∀ st, SiteLaw m (s.setGate l g) l st a.site x) : Laws m (Machine.changeSite l a.arrival a.site x (s.setGate l g)) := by
  obtain ⟨st, mst, arrival, _, _, at_⟩ := (h.gates l).dotted a assigned
  rw [← arrival]
  have opened := (h.loosen (atSite l st.arrival a.site)).dropAssignment (g := g) ended waiter unbound
    (orphans ▸ (h.gates l).orphans) fun b mb => by
      rw [assigned] at mb; cases mb; exact .inr ⟨rfl, arrival.symm, rfl⟩
  refine opened.closeSite mst at_ (law st) (fun _ => .inl rfl) (fun b mb => ?_) (h.unpaired mst at_ rfl)
  rw [State.gate_setGate_self, ended] at mb
  cases mb

theorem Laws.takeBackSite (h : Laws m s) {l : Lane} {a : Assignment} (assigned : (s.gate l).assignment = some a) :
    Laws m (takeBackSite l a s) := by
  unfold Machine.takeBackSite Machine.dropAssignment
  rw [gate_changeSite, ← changeSite_setGate]
  exact h.endAssignment (g := { s.gate l with assignment := none, measurement := (s.gate l).measurement.unbind }) assigned rfl
    rfl (isBound_unbind _) rfl fun st => bare_empty.law l st _

theorem Laws.withdrawDot (h : Laws m s) (k : GrantMark) : Laws m (withdrawDot k s) := by
  unfold Machine.withdrawDot
  split
  · exact h
  · split
    · exact h
    · rename_i a assigned
      split
      · exact h.takeBackSite assigned
      · exact h

theorem Laws.expireDeadline (h : Laws m s) (l : Lane) : Laws m (expireDeadline l s) := by
  unfold Machine.expireDeadline
  split
  · exact h
  · rename_i a assigned
    split
    · split
      · exact h.setGate
          { h.gates l with
            apart := fun _ => (h.gates l).apart (by rw [assigned]; rfl)
            bound := fun _ => rfl
            deadline := fun b mb runs => by cases mb; cases runs
            dotted := fun b mb => by cases mb; exact (h.gates l).dotted a assigned }
          fun b mb => by rw [assigned] at mb; cases mb; exact .inr ⟨_, rfl, rfl, rfl⟩
      · exact (h.takeBackSite assigned).notices (only_raiseTo _ _ _)
    · exact h

theorem Laws.expireDotWait (h : Laws m s) (l : Lane) : Laws m (expireDotWait l s) := by
  unfold Machine.expireDotWait
  split
  · exact h
  · split
    · exact h.answerWaiter l _
    · exact h

/-! ## DOT and DOT_ABORT -/

/-- A role of which at most one port exists is held by one port (R134). -/
theorem port_unique {r : Role} (one : roleCount s r ≤ 1) {p q : Port} (hp : s.role p = r) (hq : s.role q = r) : p = q := by
  have := (holder_of_role one hp).symm.trans (holder_of_role one hq)
  exact Option.some.inj this

theorem roleCount_dispenser (h : RoleLaw s) (l : Lane) : roleCount s (.dispenser l) ≤ 1 := by
  obtain ⟨_, _, _, _, _, a, b⟩ := h
  cases l; exacts [a, b]

/-- R55: a dispenser that has no DOT held has its lane free of one. -/
theorem Laws.unheld (h : Laws m s) {l : Lane} {p : Port} (role : s.role p = .dispenser l) (free : Free s p) :
    (s.gate l).waiter = none := by
  by_contra some
  obtain ⟨w, held⟩ := Option.ne_none_iff_exists'.1 some
  exact free.2 l w held (port_unique (roleCount_dispenser h.roles l) ((h.gates l).waiter w held).role role)

theorem waitTicks_le (ms : Nat) : waitTicks ms ≤ 10 * Config.maxWaitMs := by
  unfold waitTicks ticksOfMs
  omega

theorem Laws.tryDot (h : Laws m s) {l : Lane} {p : Port} (role : s.role p = .dispenser l) (link : s.link p = .holding .dot)
    (run : s.line = .run) (unassigned : (s.gate l).assignment = none) (free : Free s p) (idle : ¬ m.serving p) (waitMs : Nat) :
    Laws m (tryDot l p waitMs s) := by
  unfold Machine.tryDot
  split
  · rename_i st i found
    exact h.grantDot found unassigned (h.unheld role free) free
  · split
    · exact h.reply free _
    · exact h.setGate
        { h.gates l with
          onlyInRun := fun x => absurd run x.2
          waiter := fun w mw => by
            cases mw
            exact ⟨role, link, by simp, waitTicks_le _, idle⟩
          apart := fun x => by rw [show (s.gate l).assignment = none from unassigned] at x; cases x }
        fun a ma => by rw [unassigned] at ma; cases ma

/-! ## The sweep -/

theorem Laws.spoilSite (h : Laws m s) {l : Lane} {st : Strip} (mst : st ∈ (s.lane l).strips) {i : Nat} {w : Reading}
    (at_ : st.sites[i]? = some (.wetted w)) : Laws m (Machine.changeSite l st.arrival i (.spoiled w) s) :=
  h.changeSite mst at_ (Bare.law (by simp [Bare, Site.bond, pairedUnder]) l st i) (fun e => nomatch e)
    (h.unassigned mst at_ (fun e => nomatch e)) (h.unpaired mst at_ rfl)

end Sys2Proof.Proofs
end

section
/-! PROOFS. The die of the pairings in flight: the law that joins pairings and die records, read as a law of what each index holds,
and how a grant, a pick, an end, a die mark and a change of a bank keep it (R4). -/

namespace Sys2Proof.Proofs

open Sys2Proof Sys2Proof.Machine Sys2Proof.Safety

/-! ## The law, index by index -/

/-- The die state belongs to a pairing in flight. -/
def InFlight (x : DieState) : Prop := x = .claimed ∨ x = .picked

/-- The die state of a pairing's phase (R4). -/
def phaseState (pr : Pairing) : DieState := if pr.isPicked then .picked else .claimed

theorem inFlight_phaseState (pr : Pairing) : InFlight (phaseState pr) := by
  unfold phaseState InFlight
  split <;> simp

/-- R4 for the wafer ids of the banks, the die index of each pairing and the record that each bank holds at each index. -/
structure DiceOk (wafer : BankId → Tag) (index : Pairing → Nat) (die : BankId → Nat → DieRecord) (pairings : List Pairing) :
    Prop where
  wafers : ∀ pr ∈ pairings, wafer pr.bank = pr.waferId
  grades : ∀ pr ∈ pairings, (die pr.bank (index pr)).grade = pr.grade
  phases : ∀ pr ∈ pairings, (die pr.bank (index pr)).state = phaseState pr
  apart : pairings.Pairwise (fun a b => ¬ (a.bank = b.bank ∧ index a = index b))
  named : ∀ b i, InFlight (die b i).state → ∃ pr ∈ pairings, pr.bank = b ∧ index pr = i

/-- The record that a bank holds at an index. -/
abbrev dieOf (s : State) (b : BankId) (i : Nat) : DieRecord := dieAt (s.bank b).dies i

/-- R4, in a state. -/
abbrev DiceLaw (s : State) : Prop := DiceOk (fun b => (s.bank b).waferId) (fun pr => pr.dieIndex s) (dieOf s) s.pairings

theorem blank_not_inFlight : ¬ InFlight DieRecord.blank.state := by
  unfold InFlight DieRecord.blank
  simp

theorem pairedDieLaw_iff {s : State} (wf : ∀ b, dieTableWf (s.bank b).dies) : PairedDieLaw s ↔ DiceLaw s := by
  constructor
  · rintro ⟨each, apart, named⟩
    refine ⟨fun pr m => (each pr m).1, fun pr m => (each pr m).2.1, fun pr m => (each pr m).2.2, apart, fun b i flying => ?_⟩
    have listed : dieAt (s.bank b).dies i ≠ .blank := fun e => blank_not_inFlight (e ▸ flying)
    exact named b (mem_bothBanks b) _ (mem_of_dieAt listed) flying
  · rintro ⟨wafers, grades, phases, apart, named⟩
    refine ⟨fun pr m => ⟨wafers pr m, grades pr m, phases pr m⟩, apart, fun b _ e m flying => ?_⟩
    exact named b e.1 (by rw [dieOf, dieAt_of_mem (wf b) m]; exact flying)

theorem diceLaw_of_laws {m : Mode} {s : State} (h : Laws m s) : DiceLaw s :=
  (pairedDieLaw_iff fun b => (h.dieCounts b).1).1 h.dice

theorem pairedDieLaw_of_map {s : State} (map : MapInv s) (h : DiceLaw s) : PairedDieLaw s :=
  (pairedDieLaw_iff fun b => (dieCounts_of_map map b).1).2 h

/-! ## One record written -/

section Writes

variable {wafer : BankId → Tag} {index : Pairing → Nat} {die : BankId → Nat → DieRecord} {pairings older newer : List Pairing} {pr : Pairing}

/-- The records with one of them written. -/
def writeDie (die : BankId → Nat → DieRecord) (b : BankId) (i : Nat) (r : DieRecord) : BankId → Nat → DieRecord :=
  fun k j => if k = b ∧ j = i then r else die k j

theorem writeDie_self (b : BankId) (i : Nat) (r : DieRecord) : writeDie die b i r b i = r := by simp [writeDie]

theorem writeDie_of_ne {b k : BankId} {i j : Nat} (r : DieRecord) (h : ¬ (k = b ∧ j = i)) :
    writeDie die b i r k j = die k j := by simp [writeDie, h]

theorem DiceOk.apart_of_mem (h : DiceOk wafer index die (older ++ pr :: newer)) {q : Pairing} (mq : q ∈ older ++ newer) :
    ¬ (q.bank = pr.bank ∧ index q = index pr) := by
  have apart := h.apart
  rw [List.pairwise_append, List.pairwise_cons] at apart
  obtain ⟨_, ⟨right, _⟩, left⟩ := apart
  rcases List.mem_append.1 mq with mo | mn
  · exact left q mo pr List.mem_cons_self
  · exact fun e => right q mn ⟨e.1.symm, e.2.symm⟩

theorem mem_middle {pr q : Pairing} : q ∈ older ++ pr :: newer ↔ q = pr ∨ q ∈ older ++ newer := by
  simp only [List.mem_append, List.mem_cons]
  tauto

/-- R92: a grant claims a die of its own. -/
theorem DiceOk.grant (h : DiceOk wafer index die pairings) {pr : Pairing} (own : wafer pr.bank = pr.waferId)
    (fresh : ¬ InFlight (die pr.bank (index pr)).state) {r : DieRecord} (grade : r.grade = pr.grade)
    (state : r.state = phaseState pr) : DiceOk wafer index (writeDie die pr.bank (index pr) r) (pairings ++ [pr]) := by
  have away : ∀ q ∈ pairings, ¬ (q.bank = pr.bank ∧ index q = index pr) := fun q mq ⟨b, i⟩ =>
    fresh (b ▸ i ▸ h.phases q mq ▸ inFlight_phaseState q)
  have each : ∀ {p : Pairing → Prop}, (∀ q ∈ pairings, p q) → p pr → ∀ q ∈ pairings ++ [pr], p q := fun old new q mq => by
    rcases List.mem_append.1 mq with mq | mq
    · exact old q mq
    · exact List.mem_singleton.1 mq ▸ new
  refine ⟨each h.wafers own, each (fun q mq => ?_) ?_, each (fun q mq => ?_) ?_, ?_, fun b i flying => ?_⟩
  · rw [writeDie_of_ne r (away q mq)]; exact h.grades q mq
  · rw [writeDie_self]; exact grade
  · rw [writeDie_of_ne r (away q mq)]; exact h.phases q mq
  · rw [writeDie_self]; exact state
  · exact List.pairwise_append.2 ⟨h.apart, List.pairwise_singleton _ _, fun q mq x mx => List.mem_singleton.1 mx ▸ away q mq⟩
  · by_cases e : b = pr.bank ∧ i = index pr
    · exact ⟨pr, List.mem_append_right _ List.mem_cons_self, e.1.symm, e.2.symm⟩
    · rw [writeDie_of_ne r e] at flying
      obtain ⟨q, mq, rest⟩ := h.named b i flying
      exact ⟨q, List.mem_append_left _ mq, rest⟩

/-- R94: the end of a pairing leaves its die in a state of its own. -/
theorem DiceOk.end (h : DiceOk wafer index die (older ++ pr :: newer)) {r : DieRecord} (out : ¬ InFlight r.state) :
    DiceOk wafer index (writeDie die pr.bank (index pr) r) (older ++ newer) := by
  have mem : ∀ {q}, q ∈ older ++ newer → q ∈ older ++ pr :: newer := fun mq => mem_middle.2 (.inr mq)
  refine ⟨fun q mq => h.wafers q (mem mq), fun q mq => ?_, fun q mq => ?_,
    h.apart.sublist (List.Sublist.append_left (List.sublist_cons_self pr newer) older), fun b i flying => ?_⟩
  · rw [writeDie_of_ne r (h.apart_of_mem mq)]; exact h.grades q (mem mq)
  · rw [writeDie_of_ne r (h.apart_of_mem mq)]; exact h.phases q (mem mq)
  · by_cases e : b = pr.bank ∧ i = index pr
    · rw [e.1, e.2, writeDie_self] at flying
      exact absurd flying out
    · rw [writeDie_of_ne r e] at flying
      obtain ⟨q, mq, bank, idx⟩ := h.named b i flying
      rcases mem_middle.1 mq with rfl | mq
      · exact absurd ⟨bank.symm, idx.symm⟩ e
      · exact ⟨q, mq, bank, idx⟩

/-- R96: a pick moves a pairing and its die to PICKED. -/
theorem DiceOk.pick (h : DiceOk wafer index die (older ++ pr :: newer)) {pr' : Pairing} (bank : pr'.bank = pr.bank)
    (waferId : pr'.waferId = pr.waferId) (grade : pr'.grade = pr.grade) (idx : index pr' = index pr) {r : DieRecord}
    (kept : r.grade = (die pr.bank (index pr)).grade) (state : r.state = phaseState pr') :
    DiceOk wafer index (writeDie die pr.bank (index pr) r) (older ++ pr' :: newer) := by
  have mem : ∀ {q}, q ∈ older ++ newer → q ∈ older ++ pr :: newer := fun mq => mem_middle.2 (.inr mq)
  have self : pr ∈ older ++ pr :: newer := mem_middle.2 (.inl rfl)
  have each : ∀ {p : Pairing → Prop}, (∀ q ∈ older ++ newer, p q) → p pr' → ∀ q ∈ older ++ pr' :: newer, p q :=
    fun old new q mq => (mem_middle.1 mq).elim (fun e => e ▸ new) (old q)
  refine ⟨each (fun q mq => h.wafers q (mem mq)) ?_, each (fun q mq => ?_) ?_, each (fun q mq => ?_) ?_, ?_, fun b i flying => ?_⟩
  · rw [bank, waferId]; exact h.wafers pr self
  · rw [writeDie_of_ne r (h.apart_of_mem mq)]; exact h.grades q (mem mq)
  · rw [bank, idx, writeDie_self, kept, grade]; exact h.grades pr self
  · rw [writeDie_of_ne r (h.apart_of_mem mq)]; exact h.phases q (mem mq)
  · rw [bank, idx, writeDie_self, state]
  · have apart := h.apart
    rw [List.pairwise_append, List.pairwise_cons] at apart ⊢
    obtain ⟨left, ⟨right, rest⟩, across⟩ := apart
    refine ⟨left, ⟨fun q mq => ?_, rest⟩, fun q mq x mx => ?_⟩
    · rw [bank, idx]; exact right q mq
    · rcases List.mem_cons.1 mx with rfl | mx
      · rw [bank, idx]; exact across q mq pr List.mem_cons_self
      · exact across q mq x (List.mem_cons_of_mem _ mx)
  · by_cases e : b = pr.bank ∧ i = index pr
    · exact ⟨pr', mem_middle.2 (.inl rfl), bank.trans e.1.symm, idx.trans e.2.symm⟩
    · rw [writeDie_of_ne r e] at flying
      obtain ⟨q, mq, bq, iq⟩ := h.named b i flying
      rcases mem_middle.1 mq with rfl | mq
      · exact absurd ⟨bq.symm, iq.symm⟩ e
      · exact ⟨q, mem_middle.2 (.inr mq), bq, iq⟩

/-- R17: a die that is in no pairing is written. -/
theorem DiceOk.write (h : DiceOk wafer index die pairings) {b : BankId} {i : Nat} {r : DieRecord}
    (was : ¬ InFlight (die b i).state) (now : ¬ InFlight r.state) : DiceOk wafer index (writeDie die b i r) pairings := by
  have away : ∀ q ∈ pairings, ¬ (q.bank = b ∧ index q = i) := fun q mq ⟨eb, ei⟩ =>
    was (eb ▸ ei ▸ h.phases q mq ▸ inFlight_phaseState q)
  refine ⟨h.wafers, fun q mq => ?_, fun q mq => ?_, h.apart, fun k j flying => ?_⟩
  · rw [writeDie_of_ne r (away q mq)]; exact h.grades q mq
  · rw [writeDie_of_ne r (away q mq)]; exact h.phases q mq
  · by_cases e : k = b ∧ j = i
    · rw [e.1, e.2, writeDie_self] at flying
      exact absurd flying now
    · rw [writeDie_of_ne r e] at flying
      exact h.named k j flying

/-- Each bank stands as it was, or holds no die in flight and is that of no pairing. -/
theorem DiceOk.of_banks (h : DiceOk wafer index die pairings) {wafer' : BankId → Tag} {index' : Pairing → Nat}
    {die' : BankId → Nat → DieRecord}
    (each : ∀ b, (wafer' b = wafer b ∧ (∀ pr ∈ pairings, pr.bank = b → index' pr = index pr) ∧ ∀ i, die' b i = die b i) ∨
      ((∀ pr ∈ pairings, pr.bank ≠ b) ∧ ∀ i, ¬ InFlight (die' b i).state)) : DiceOk wafer' index' die' pairings := by
  have stands : ∀ pr ∈ pairings, wafer' pr.bank = wafer pr.bank ∧ index' pr = index pr ∧
      ∀ i, die' pr.bank i = die pr.bank i := fun pr mpr => by
    rcases each pr.bank with ⟨w, i, d⟩ | ⟨away, _⟩
    · exact ⟨w, i pr mpr rfl, d⟩
    · exact absurd rfl (away pr mpr)
  refine ⟨fun pr mpr => ?_, fun pr mpr => ?_, fun pr mpr => ?_, h.apart.imp_of_mem fun {a b} ma mb apart => ?_,
    fun b i flying => ?_⟩
  · obtain ⟨w, _, _⟩ := stands pr mpr
    rw [w]; exact h.wafers pr mpr
  · obtain ⟨_, i, d⟩ := stands pr mpr
    rw [i, d]; exact h.grades pr mpr
  · obtain ⟨_, i, d⟩ := stands pr mpr
    rw [i, d]; exact h.phases pr mpr
  · rw [(stands a ma).2.1, (stands b mb).2.1]; exact apart
  · rcases each b with ⟨_, idx, d⟩ | ⟨_, out⟩
    · obtain ⟨pr, mpr, bank, i'⟩ := h.named b i (d i ▸ flying)
      exact ⟨pr, mpr, bank, (idx pr mpr bank).trans i'⟩
    · exact absurd flying (out i)

end Writes

/-! ## The banks of a state -/

theorem dieIndex_of_cols {s t : State} {pr : Pairing} (h : (t.bank pr.bank).cols = (s.bank pr.bank).cols) :
    pr.dieIndex t = pr.dieIndex s := posOf_indexOf_cols h _

/-- A bank with one die record written, its header but the references kept, holds that record and the others. -/
theorem DiceOk.of_withDie {s t : State} {b : BankId} {i : Nat} {r : DieRecord} {pairings : List Pairing}
    (wf : dieTableWf (s.bank b).dies)
    (bank : ∀ k, (t.bank k).waferId = (s.bank k).waferId ∧ (t.bank k).cols = (s.bank k).cols ∧
      (t.bank k).dies = if k = b then putDie (s.bank b).dies i r else (s.bank k).dies)
    (h : DiceOk (fun k => (s.bank k).waferId) (fun pr => pr.dieIndex s) (writeDie (dieOf s) b i r) pairings) :
    DiceOk (fun k => (t.bank k).waferId) (fun pr => pr.dieIndex t) (dieOf t) pairings := by
  refine h.of_banks fun k => .inl ⟨(bank k).1, fun pr _ e => dieIndex_of_cols (e ▸ (bank k).2.1), fun j => ?_⟩
  rw [dieOf, (bank k).2.2, writeDie]
  by_cases e : k = b
  · subst e
    rw [if_pos rfl, dieAt_putDie wf]
    simp
  · rw [if_neg e, if_neg fun c => e c.1]

end Sys2Proof.Proofs
end

section
/-! PROOFS. The grant of a pairing, the wait list and the passes keep the laws (R73, R89 to R92, R106 to R112, R120). -/

namespace Sys2Proof.Proofs

open Sys2Proof Sys2Proof.Machine Sys2Proof.Safety

variable {m : Mode} {s t : State}

/-! ## The wait list -/

theorem pairingsOf_congr (h : t.pairings = s.pairings) : t.pairingsOf = s.pairingsOf := by
  funext p
  simp only [State.pairingsOf, h]

/-- A wait list whose entries stand for entries of before, in their order and on ports of their own. -/
theorem Laws.setWaitList (h : Laws m s) {list : List WaitEntry} (onlyInRun : LineIdle m s → list = [])
    (sorted : list.Pairwise (fun a b => b.level ≤ a.level)) (distinct : (list.map (fun e => e.port)).Nodup)
    (entries : ∀ e ∈ list, EntryLaw m s e) : Laws m { s with waitList := list } :=
  { h with onlyInRun := onlyInRun, sorted := sorted, distinct := distinct, entries := entries }

theorem Laws.filterWaitList (h : Laws m s) (keep : WaitEntry → Bool) : Laws m { s with waitList := s.waitList.filter keep } :=
  h.setWaitList (fun r => by rw [h.onlyInRun r]; rfl) (h.sorted.sublist List.filter_sublist)
    (h.distinct.sublist (List.filter_sublist.map _)) fun e me => h.entries e (List.mem_filter.1 me).1

theorem Laws.clearWaitList (h : Laws m s) : Laws m { s with waitList := [] } :=
  h.setWaitList (fun _ => rfl) .nil .nil fun _ n => nomatch n

theorem Laws.removeEntry (h : Laws m s) (p : Port) : Laws m (removeEntry p s) := h.filterWaitList _

theorem Laws.setObstacle (h : Laws m s) (p : Port) (o : Obstacle) : Laws m (setObstacle p o s) := by
  have port : (s.waitList.map (fun e => if e.port = p then { e with obstacle := some o } else e)).map (fun e => e.port) =
      s.waitList.map (fun e => e.port) := by
    rw [List.map_map]
    exact List.map_congr_left fun e _ => by simp only [Function.comp]; split <;> rfl
  refine h.setWaitList (fun r => by rw [h.onlyInRun r]; rfl) ?_ (port ▸ h.distinct) fun e me => ?_
  · refine List.pairwise_map.2 (h.sorted.imp fun {a b} le => ?_)
    split <;> split <;> exact le
  · obtain ⟨d, md, rfl⟩ := List.mem_map.1 me
    have law := h.entries d md
    split <;> exact { law with }

/-- The port of an entry has nothing else held for it. -/
theorem Laws.free_of_entry (h : Laws m s) {e : WaitEntry} (me : e ∈ s.waitList) : Free (Machine.removeEntry e.port s) e.port := by
  refine ⟨fun d md eq => ?_, fun l w mw eq => ?_⟩
  · simpa [eq] using (List.mem_filter.1 md).2
  · have link := ((h.gates l).waiter w mw).link
    rw [eq, (h.entries e me).link] at link
    cases link

theorem Laws.answerEntry (h : Laws m s) (p : Port) : Laws m (answerEntry p s) := by
  unfold Machine.answerEntry
  split
  · exact h
  · rename_i e found
    have port : e.port = p := by simpa using List.find?_some found
    exact (h.removeEntry p).reply (port ▸ h.free_of_entry (List.mem_of_find?_eq_some found)) _

theorem Laws.expirePairWait (h : Laws m s) (p : Port) : Laws m (expirePairWait p s) := by
  unfold Machine.expirePairWait
  split
  · exact h
  · split
    · exact h.answerEntry p
    · exact h

theorem reply_setWaitList (p : Port) (r : Response) (s : State) (list : List WaitEntry) :
    reply p r { s with waitList := list } = { reply p r s with waitList := list } := by
  have link : State.link { s with waitList := list } p = s.link p := rfl
  simp only [reply, handOver, link]
  cases s.link p <;> rfl

/-- R114, R115: the answers to every entry, with the list emptied before them. -/
theorem answerAllEntries_eq (st : Status) (s : State) : answerAllEntries st s =
    s.waitList.foldl (fun s e => reply e.port (resp st []) s) { s with waitList := [] } := by
  have fold : ∀ (es : List WaitEntry) (u : State), { es.foldl (fun s e => reply e.port (resp st []) s) u with waitList := [] } =
      es.foldl (fun s e => reply e.port (resp st []) s) { u with waitList := [] } := by
    intro es
    induction es with
    | nil => exact fun u => rfl
    | cons e es ih => exact fun u => (ih _).trans (by rw [List.foldl_cons, reply_setWaitList])
  exact fold _ s

theorem Laws.answerAllEntries (h : Laws m s) (st : Status) : Laws m (answerAllEntries st s) := by
  have free : ∀ e ∈ s.waitList, ∀ l, ∀ w ∈ (s.gate l).waiter, w.port ≠ e.port := fun e me l w mw =>
    (h.free_of_entry me).2 l w mw
  rw [answerAllEntries_eq]
  have fold : ∀ (es : List WaitEntry) (u : State), Laws m u → u.waitList = [] →
      (∀ e ∈ es, ∀ l, ∀ w ∈ (u.gate l).waiter, w.port ≠ e.port) →
      Laws m (es.foldl (fun s e => Machine.reply e.port (resp st []) s) u) := by
    intro es
    induction es with
    | nil => exact fun u k _ _ => k
    | cons e es ih =>
      intro u k empty apart
      have only := only_reply e.port (resp st []) u
      have gates := only.gates_eq (by simp)
      refine ih _ (k.reply ⟨fun d md => ?_, apart e List.mem_cons_self⟩ _) ((only.waitList_eq (by simp)).trans empty)
        fun d md l w mw => apart d (List.mem_cons_of_mem _ md) l w ?_
      · rw [empty] at md; cases md
      · rw [State.gate, gates] at mw; exact mw
  exact fold s.waitList _ h.clearWaitList rfl free

/-- R106: an entry is placed behind those of its level or a higher one. -/
theorem mem_insertEntry {e d : WaitEntry} {list : List WaitEntry} : d ∈ insertEntry e list ↔ d = e ∨ d ∈ list := by
  induction list with
  | nil => simp [insertEntry]
  | cons x list ih =>
    unfold insertEntry
    split
    · simp
    · simp only [List.mem_cons, ih]; tauto

theorem sorted_insertEntry {e : WaitEntry} {list : List WaitEntry} (h : list.Pairwise (fun a b => b.level ≤ a.level)) :
    (insertEntry e list).Pairwise (fun a b => b.level ≤ a.level) := by
  induction list with
  | nil => simp [insertEntry]
  | cons x list ih =>
    obtain ⟨below, rest⟩ := List.pairwise_cons.1 h
    unfold insertEntry
    split
    · rename_i lt
      refine List.pairwise_cons.2 ⟨fun y my => ?_, h⟩
      rcases List.mem_cons.1 my with rfl | my
      · exact lt.le
      · exact (below y my).trans lt.le
    · rename_i ge
      refine List.pairwise_cons.2 ⟨fun y my => ?_, ih rest⟩
      rcases mem_insertEntry.1 my with rfl | my
      · omega
      · exact below y my

theorem perm_insertEntry (e : WaitEntry) (list : List WaitEntry) : (insertEntry e list).Perm (e :: list) := by
  induction list with
  | nil => exact .refl _
  | cons x list ih =>
    unfold insertEntry
    split
    · exact .refl _
    · exact (ih.cons x).trans (.swap e x list)

theorem Laws.place (h : Laws m s) {e : WaitEntry} (run : s.line = .run) (free : Free s e.port) (law : EntryLaw m s e) :
    Laws m { s with waitList := insertEntry e s.waitList } := by
  refine h.setWaitList (fun r => absurd run r.2) (sorted_insertEntry h.sorted) ?_ fun d md => ?_
  · rw [((perm_insertEntry e s.waitList).map _).nodup_iff, List.map_cons, List.nodup_cons]
    refine ⟨fun mem => ?_, h.distinct⟩
    obtain ⟨d, md, eq⟩ := List.mem_map.1 mem
    exact free.1 d md eq
  · rcases mem_insertEntry.1 md with rfl | md
    · exact law
    · exact h.entries d md

/-! ## The grant (R92) -/

/-- R92: a pairing enters the table, its site and its die already its own. -/
theorem Laws.addPairing {pr : Pairing} (h : Laws (m.loosen (atSite pr.lane pr.arrival pr.site)) s) {banks : PerBank MapBank}
    (map : MapInv { s with banks := banks, pairings := s.pairings ++ [pr] })
    (dice : PairedDieLaw { s with banks := banks, pairings := s.pairings ++ [pr] })
    (fresh : s.ticketHeld pr.ticket = false) (ok : PairingLaw s pr) (space : s.trace.canReserve = true)
    (few : s.pairingsOf pr.port < Config.maxPairingsPerHead) (run : ¬ m.lineAhead → s.line = .run) :
    Laws m { s with
      banks := banks
      pairings := s.pairings ++ [pr]
      trace := { s.trace with reservations := s.trace.reservations + 1 }
      waitList := s.waitList.filter (fun e => e.port != pr.port) } := by
  have count : ∀ q, (State.pairingsOf { s with pairings := s.pairings ++ [pr] } q) =
      s.pairingsOf q + if pr.port = q then 1 else 0 := fun q => by
    simp only [State.pairingsOf, List.filter_append, List.length_append]
    by_cases e : pr.port = q
    · simp [e]
    · simp [e, beq_eq_false_iff_ne.2 e]
  have unheld : pr.ticket ∉ s.pairings.map (fun pr => pr.ticket) ∧ pr.ticket ∉ s.ring.map (fun e => e.ticket) := by
    simpa [State.ticketHeld] using fresh
  have reserve : s.trace.records.length + s.trace.reservations < Config.traceCapacity := by
    simpa [TraceQueue.canReserve] using space
  obtain ⟨reservations, level⟩ := h.room
  have listed := h.filterWaitList (fun e => e.port != pr.port)
  have counts := dieCounts_of_map map
  have added : Laws (m.loosen (atSite pr.lane pr.arrival pr.site)) { s with
      banks := banks
      pairings := s.pairings ++ [pr]
      trace := { s.trace with reservations := s.trace.reservations + 1 }
      waitList := s.waitList.filter (fun e => e.port != pr.port) } :=
    { listed with
      states := map.states
      dieCounts := counts
      references := map.references
      dice := dice
      room := ⟨by rw [List.length_append, ← reservations]; rfl, reserve⟩
      entries := fun e me =>
        { listed.entries e me with
          room := by
            have ne : pr.port ≠ e.port := fun eq => by simpa [eq] using (List.mem_filter.1 me).2
            have c := count e.port
            rw [if_neg ne] at c
            exact c ▸ (listed.entries e me).room }
      sites := fun l st mst i x at_ =>
        { h.sites l st mst i x at_ with
          paired := fun t u => ((h.sites l st mst i x at_).paired t u).imp_right fun ⟨q, mq, rest⟩ =>
            ⟨q, List.mem_append_left _ mq, rest⟩ }
      tickets := by
        have perm : ((s.pairings ++ [pr]).map (fun pr => pr.ticket) ++ s.ring.map (fun e => e.ticket)).Perm
            (pr.ticket :: (s.pairings.map (fun pr => pr.ticket) ++ s.ring.map (fun e => e.ticket))) := by
          rw [List.map_append, List.map_singleton, List.append_assoc]
          exact List.perm_middle
        refine perm.nodup_iff.2 (List.nodup_cons.2 ⟨fun mem => ?_, h.tickets⟩)
        exact (List.mem_append.1 mem).elim unheld.1 unheld.2
      perHead := fun q => by
        have c := count q
        have old := h.perHead q
        split at c
        · rename_i e
          subst e
          exact c ▸ few
        · exact c ▸ old
      setup := fun a e => by
        rw [show s.line = .run from run a] at e
        cases e
      pairings := fun q mq => by
        rcases List.mem_append.1 mq with mq | mq
        · exact h.pairings q mq
        · exact List.mem_singleton.1 mq ▸ ok }
  obtain ⟨y, my, arrival, _, w, at_, _⟩ := ok.sited
  refine added.tighten (fun l st mst i at' c => ?_) fun l st mst i v t at' c => .inr ?_
  · obtain ⟨rfl, arr, rfl⟩ := c
    rw [strip_unique (h.lanes pr.lane).queue mst my (arr.trans arrival.symm), at_] at at'
    cases at'
  · obtain ⟨rfl, arr, rfl⟩ := c
    rw [strip_unique (h.lanes pr.lane).queue mst my (arr.trans arrival.symm), at_] at at'
    cases at'
    exact ⟨pr, List.mem_append_right _ List.mem_cons_self, rfl, rfl, arr.symm, rfl⟩

end Sys2Proof.Proofs
end

section
/-! PROOFS. The grant of a PAIR, and the passes, keep the laws (R72, R76, R81, R90, R92, R108). -/

namespace Sys2Proof.Proofs

open Sys2Proof Sys2Proof.Machine Sys2Proof.Safety

variable {m : Mode} {s t : State}

/-! ## Products in use (R21) -/

theorem product_of_some {c : ProductCode} {pr : Product} (h : pr ∈ s.products[c]) : s.product c = pr := by
  simp only [State.product, Option.mem_def.1 h]

/-- The product of a queued strip is defined, in range, and gives the strip's site count (R21, R25). -/
theorem Laws.product_inRange (h : Laws m s) {l : Lane} {st : Strip} (mst : st ∈ (s.lane l).strips) :
    (s.product st.product).inRange = true ∧ st.sites.length = (s.product st.product).siteCount := by
  obtain ⟨pr, mpr, size⟩ := (h.lanes l).queue.2.2.1 st mst
  rw [product_of_some mpr]
  exact ⟨h.products _ pr mpr, size⟩

theorem bounds_of_inRange {pr : Product} (h : pr.inRange = true) :
    pr.siteCount ≤ 64 ∧ pr.openTime ≤ 360000 ∧ pr.pickLeaseMs ≤ 60000 ∧ pr.bondLeaseMs ≤ 60000 ∧ 100 ≤ pr.pickLeaseMs ∧
      100 ≤ pr.bondLeaseMs := by
  simp only [Product.inRange, Bool.and_eq_true, decide_eq_true_eq] at h
  omega

theorem lease_le {ms : Nat} (h : ms ≤ 60000) : ticksOfMs ms ≤ Config.maxLeaseTicks := by
  have : Config.maxLeaseTicks = 600000 := rfl
  unfold ticksOfMs
  omega

/-! ## Tickets (R90) -/

/-- R90: an issued ticket is free, and is not 0. -/
theorem nextTicket_spec {k : Ticket} (h : nextTicket s = some k) : s.ticketHeld k = false ∧ k ≠ 0 := by
  refine ⟨by simpa using List.find?_some h, ?_⟩
  obtain ⟨j, _, rfl⟩ := List.mem_map.1 (List.mem_of_find?_eq_some h)
  intro zero
  have nat := congrArg BitVec.toNat zero
  rw [BitVec.toNat_ofNat] at nat
  simp at nat
  omega

/-! ## What a found selection stands for -/

/-- R76, R81: the strip and the WETTED, eligible site that a found selection names, and its AVAILABLE die. -/
theorem found_spec {p : Port} {ch : LaneChoice} {f : Found} (h : select s p ch = .found f) :
    ∃ st ∈ (s.lane f.cand.lane).strips, f.cand.arrival = st.arrival ∧ f.cand.stripId = st.id ∧
      f.cand.product = st.product ∧ ∃ w, st.sites[f.cand.site]? = some (.wetted w) ∧
      elapsed w s.clock < (s.product st.product).openTicks ∧
      (s.product st.product).gradeSet.getLsbD f.record.grade.toNat = true := by
  obtain ⟨_, mem, _, matching⟩ := select_spec h
  obtain ⟨l, _, st, mst, cand⟩ := mem_candidates.1 mem
  obtain ⟨w, at_, eligible, eq⟩ := mem_stripCandidates.1 cand
  have lane : f.cand.lane = l := by rw [eq]
  have arrival : f.cand.arrival = st.arrival := by rw [eq]
  have id : f.cand.stripId = st.id := by rw [eq]
  have product : f.cand.product = st.product := by rw [eq]
  refine ⟨st, lane ▸ mst, arrival, id, product, w, at_, ?_, ?_⟩
  · obtain ⟨_, left⟩ := Bool.and_eq_true_iff.1 eligible
    have open_ : 0 < remainingOpen (s.product st.product).openTicks (elapsed w s.clock) := by simpa using left
    exact Nat.lt_of_sub_pos open_
  · simp only [matchingDie, Bool.and_eq_true] at matching
    rw [← product]
    exact matching.1.2

theorem eq_of_only_banks (o : OnlyChanges [.banks, .notices] s t) : t = { s with banks := t.banks, notices := t.notices } := by
  have gates := o.gates_eq (by simp)
  have lanes := o.lanes_eq (by simp)
  have pairings := o.pairings_eq (by simp)
  have last := o.lastTicket_eq (by simp)
  have ring := o.ring_eq (by simp)
  have reach := o.reach_eq (by simp)
  have picks := o.lastPick_eq (by simp)
  have waits := o.waitList_eq (by simp)
  have trace := o.trace_eq (by simp)
  have ports := o.ports_eq (by simp)
  have reset := o.resetAsserted_eq (by simp)
  have clock := o.clock_eq (by simp)
  have sweep := o.sweepPos_eq (by simp)
  have visit := o.visitOwed_eq (by simp)
  have dual := o.dualLane_eq (by simp)
  have line := o.line_eq (by simp)
  have roles := o.roles_eq (by simp)
  have products := o.products_eq (by simp)
  have pending := o.pending_eq
  cases s
  cases t
  dsimp only at gates lanes pairings last ring reach picks waits trace ports reset clock sweep visit dual line roles products pending
  subst gates lanes pairings last ring reach picks waits trace ports reset clock sweep visit dual line roles products pending
  rfl

theorem changeSite_setBanks (l : Lane) (a : BitVec 32) (i : Nat) (x : Site) (s : State) (banks : PerBank MapBank)
    (notices : Vector NoticeState 8) (last : Ticket) :
    changeSite l a i x { s with banks := banks, notices := notices, lastTicket := last } =
      { changeSite l a i x s with banks := banks, notices := notices, lastTicket := last } := by
  have site : State.site { s with banks := banks, notices := notices, lastTicket := last } l a i = s.site l a i := rfl
  simp only [changeSite, site]
  cases s.site l a i <;> rfl

/-- What a grant is: the site paired, the die claimed, the pairing entered, and the answer handed over (R92). -/
theorem grantPair_eq {p : Port} {f : Found} {w : Reading} {k : Ticket}
    (wet : s.site f.cand.lane f.cand.arrival f.cand.site = some (.wetted w)) :
    ∃ notices r mark, grantPair p f k s = handOver p r mark
      { changeSite f.cand.lane f.cand.arrival f.cand.site (.paired w k) s with
        banks := (grantPair p f k s).banks
        notices := notices
        lastTicket := k
        pairings := s.pairings ++ [pairingFor s p f k]
        trace := { s.trace with reservations := s.trace.reservations + 1 }
        waitList := s.waitList.filter (fun e => e.port != p) } := by
  obtain ⟨banks, notices, claimed⟩ : ∃ banks notices, claimDie f { s with lastTicket := k } =
      { s with banks := banks, notices := notices, lastTicket := k } :=
    ⟨_, _, eq_of_only_banks (only_claimDie f { s with lastTicket := k })⟩
  have site : State.site { s with banks := banks, notices := notices, lastTicket := k } f.cand.lane f.cand.arrival f.cand.site =
      some (.wetted w) := wet
  have paired : pairSite f k { s with banks := banks, notices := notices, lastTicket := k } =
      { changeSite f.cand.lane f.cand.arrival f.cand.site (.paired w k) s with
        banks := banks, notices := notices, lastTicket := k } := by
    simp only [pairSite, site, changeSite_setBanks]
  have o := only_changeSite f.cand.lane f.cand.arrival f.cand.site (.paired w k) s
  refine ⟨notices, okResp (pairGrantBody s (pairingFor s p f k) f), some (.pair k p s.clock), ?_⟩
  rw [banks_grantPair, claimed, ← o.pairings_eq (by simp), ← o.trace_eq (by simp), ← o.waitList_eq (by simp)]
  unfold grantPair
  dsimp only
  rw [claimed, paired]
  rfl

/-- The die of a pairing that is granted is the one that its selection found. -/
theorem dieIndex_pairingFor (p : Port) (f : Found) (k : Ticket) (s : State) : (pairingFor s p f k).dieIndex s = f.die := by
  show (f.die / (s.bank f.bank).cols) * (s.bank f.bank).cols + f.die % (s.bank f.bank).cols = f.die
  rw [Nat.mul_comm]
  exact Nat.div_add_mod _ _

/-- R92: the die of a grant is CLAIMED by its pairing alone. -/
theorem diceLaw_grantPair (h : DiceLaw s) (map : MapInv s) {p : Port} {ch : LaneChoice} {f : Found}
    (found : select s p ch = .found f) (k : Ticket) :
    DiceOk (fun b => ((grantPair p f k s).bank b).waferId) (fun pr => pr.dieIndex (grantPair p f k s)) (dieOf (grantPair p f k s))
      (s.pairings ++ [pairingFor s p f k]) := by
  obtain ⟨_, die, available⟩ := grant_claims map found
  have bank := bank_grantPair p f k s
  refine DiceOk.of_withDie (s := s) (b := f.bank) (i := f.die) (r := { f.record with state := .claimed })
    (dieCounts_of_map map f.bank).1 (fun b => ?_) ?_
  · rw [bank]
    split
    · rename_i e; subst e; exact ⟨rfl, rfl, rfl⟩
    · exact ⟨rfl, rfl, rfl⟩
  · have index := dieIndex_pairingFor p f k s
    rw [← index]
    refine h.grant (pr := pairingFor s p f k) (r := { f.record with state := .claimed }) rfl ?_ rfl ?_
    rotate_left
    · rw [phaseState, isPicked_of_claimed (pr := pairingFor s p f k) rfl]; rfl
    show ¬ InFlight (dieAt (s.bank f.bank).dies ((pairingFor s p f k).dieIndex s)).state
    rw [index, die, (isAvailable_iff _).1 available]
    simp [InFlight]

/-- The pairing that a grant enters meets the laws of a pairing, its site paired (R92). -/
theorem Laws.pairingFor (h : Laws m s) {d : WaitEntry} (md : d ∈ s.waitList) {f : Found} {k : Ticket} (nonzero : k ≠ 0)
    {st : Strip} (mst : st ∈ (s.lane f.cand.lane).strips) (arrival : f.cand.arrival = st.arrival)
    (id : f.cand.stripId = st.id) (product : f.cand.product = st.product) {w : Reading}
    (at_ : st.sites[f.cand.site]? = some (.wetted w)) (early : elapsed w s.clock < (s.product st.product).openTicks)
    (grade : (s.product st.product).gradeSet.getLsbD f.record.grade.toNat = true) :
    PairingLaw (Machine.changeSite f.cand.lane st.arrival f.cand.site (.paired w k) s) (pairingFor s d.port f k) := by
  have bounds := bounds_of_inRange (h.product_inRange mst).1
  rw [changeSite_of_mem (h.lanes _).queue mst at_ (.paired w k)]
  refine ⟨(h.entries d md).role, nonzero, ?_, beq_self_eq_true _, ?_, ?_⟩
  · rw [show (Machine.pairingFor s d.port f k).lane = f.cand.lane from rfl, State.lane_setLane_self]
    refine ⟨_, List.mem_map.2 ⟨st, mst, rfl⟩, ?_, ?_, w, getElem?_stripAfter_self at_, ?_, ?_⟩
    · rw [stripAfter_arrival]; exact arrival.symm
    · rw [stripAfter_id]; exact id.symm
    · rw [stripAfter_product]; exact early
    · rw [stripAfter_product]; exact grade
  · show elapsed s.clock s.clock ≤ _
    rw [elapsed_self]
    exact Nat.zero_le _
  · show ticksOfMs (s.product f.cand.product).pickLeaseMs ≤ _
    rw [product]
    exact lease_le bounds.2.2.1

theorem Laws.setUnread (h : Laws m s) (notices : Vector NoticeState 8) (last : Ticket) :
    Laws m { s with notices := notices, lastTicket := last } := { h with }

theorem Laws.grantPair (h : Laws m s) {d : WaitEntry} (md : d ∈ s.waitList) {ch : LaneChoice} {f : Found}
    (found : select s d.port ch = .found f) {k : Ticket} (ticket : nextTicket s = some k)
    (space : s.trace.canReserve = true) : Laws m (grantPair d.port f k s) := by
  obtain ⟨st, mst, arrival, id, product, w, at_, early, grade⟩ := found_spec found
  obtain ⟨active, _, _⟩ := grant_claims h.map found
  obtain ⟨free, nonzero⟩ := nextTicket_spec ticket
  have wet : s.site f.cand.lane f.cand.arrival f.cand.site = some (.wetted w) :=
    (arrival ▸ site_of_mem (h.lanes _).queue mst f.cand.site).trans at_
  have site : SiteLaw (m.loosen (atSite f.cand.lane st.arrival f.cand.site)) s f.cand.lane st f.cand.site (.paired w k) :=
    ⟨rfl, (fun _ n => nomatch n), (fun e => nomatch e), fun _ _ => .inl (.inr ⟨rfl, rfl, rfl⟩), (fun _ e => nomatch e)⟩
  have changed : Laws (m.loosen (atSite f.cand.lane f.cand.arrival f.cand.site))
      (Machine.changeSite f.cand.lane st.arrival f.cand.site (.paired w k) s) := by
    rw [arrival]
    exact (h.loosen _).changeSite mst at_ site (fun _ => .inl rfl) (h.unassigned mst at_ (fun e => nomatch e))
      (h.unpaired mst at_ rfl)
  have ok := h.pairingFor md nonzero mst arrival id product at_ early grade
  obtain ⟨notices, r, mark, eq⟩ := grantPair_eq (p := d.port) (k := k) wet
  have paired := pairings_grantPair d.port f k s
  have mapAfter := mapInv_grantPair h.map d.port f k active
  have diceAfter := diceLaw_grantPair (diceLaw_of_laws h) h.map found k
  have o := only_changeSite f.cand.lane st.arrival f.cand.site (.paired w k) s
  have waits := h.free_of_entry md
  rw [arrival] at eq
  rw [eq]
  generalize Machine.changeSite f.cand.lane st.arrival f.cand.site (.paired w k) s = u at changed o ok eq ⊢
  have pairings := o.pairings_eq (by simp)
  have map : MapInv { u with
      banks := (Machine.grantPair d.port f k s).banks, pairings := u.pairings ++ [Machine.pairingFor s d.port f k] } :=
    mapInv_of_eq (s := Machine.grantPair d.port f k s) rfl (by rw [paired, pairings]) mapAfter
  have dice : PairedDieLaw { u with
      banks := (Machine.grantPair d.port f k s).banks, pairings := u.pairings ++ [Machine.pairingFor s d.port f k] } :=
    pairedDieLaw_of_map map (pairings ▸ diceAfter)
  have unheld : u.ticketHeld k = false := by
    rw [← free]
    simp only [State.ticketHeld, pairings, o.ring_eq (by simp)]
  have granted := changed.addPairing map dice unheld ok (by rw [o.trace_eq (by simp)]; exact space)
    (by rw [pairingsOf_congr pairings]; exact (h.entries d md).room) fun ahead => by
      rw [o.line_eq (by simp)]
      by_contra run
      rw [h.onlyInRun ⟨ahead, run⟩] at md
      cases md
  rw [pairings, o.trace_eq (by simp), o.waitList_eq (by simp)] at granted
  have gates : u.gates = s.gates := o.gates_eq (by simp)
  refine Laws.handOver (granted.setUnread notices k) ⟨waits.1, fun l w mw => waits.2 l w ?_⟩ r mark
  show w ∈ (s.gates.get l).waiter
  rw [← gates]
  exact mw

/-! ## The passes (R108) -/

theorem Laws.tryEntry (h : Laws m s) {e d : WaitEntry} (md : d ∈ s.waitList) (port : d.port = e.port) :
    Laws m (tryEntry e s) := by
  rcases tryEntry_cases e s with ⟨f, k, space, found, ticket, eq⟩ | ⟨o, eq⟩ | eq <;> rw [eq]
  · rw [← port] at found ⊢
    exact h.grantPair md found ticket space
  · exact h.setObstacle _ _
  · exact h

theorem waitPorts_tryEntry {e : WaitEntry} {q : Port} (mq : q ∈ waitPorts s) (other : q ≠ e.port) :
    q ∈ waitPorts (tryEntry e s) := by
  obtain ⟨d, md, rfl⟩ := List.mem_map.1 mq
  rcases tryEntry_cases e s with ⟨f, k, _, _, _, eq⟩ | ⟨o, eq⟩ | eq <;> rw [eq]
  · rw [waitPorts, waitList_grantPair]
    exact List.mem_map.2 ⟨d, List.mem_filter.2 ⟨md, by simpa using other⟩, rfl⟩
  · refine List.mem_map.2 ⟨_, List.mem_map.2 ⟨d, md, rfl⟩, ?_⟩
    split <;> rfl
  · exact mq

theorem Laws.walk (es : List WaitEntry) (s : State) (h : Laws m s) (distinct : (es.map (fun e => e.port)).Nodup)
    (listed : ∀ e ∈ es, e.port ∈ waitPorts s) : Laws m (walk es s) := by
  induction es generalizing s with
  | nil => exact h
  | cons e es ih =>
    obtain ⟨apart, rest⟩ := List.nodup_cons.1 distinct
    obtain ⟨d, md, port⟩ := List.mem_map.1 (listed e List.mem_cons_self)
    refine ih _ (h.tryEntry md port) rest fun x mx => waitPorts_tryEntry (listed x (List.mem_cons_of_mem _ mx)) fun eq => ?_
    exact apart (List.mem_map.2 ⟨x, mx, eq⟩)

theorem Laws.arbiterPass (h : Laws m s) : Laws m (arbiterPass s) :=
  Laws.walk s.waitList s h h.distinct fun e me => List.mem_map.2 ⟨e, me, rfl⟩

theorem Laws.arbiterPasses (h : Laws m s) (n : Nat) : Laws m (arbiterPasses n s) :=
  arbiterPasses_keeps (I := Laws m) (fun _ k => k.arbiterPass) n h

theorem Laws.placePair (h : Laws m s) {e : WaitEntry} (run : s.line = .run) (free : Free s e.port) (law : EntryLaw m s e) :
    Laws m (placePair e s) := by
  have passed := (h.place run free law).arbiterPass
  unfold Machine.placePair
  dsimp only
  split
  · exact passed.answerEntry _
  · exact passed

end Sys2Proof.Proofs
end

section
/-! PROOFS. The common end of a pairing keeps the laws, and so does every cause of one (R91, R93, R94, R97 to R103, R118, R120). -/

namespace Sys2Proof.Proofs

open Sys2Proof Sys2Proof.Machine Sys2Proof.Safety

variable {m : Mode} {s t : State}

/-! ## Frames -/

theorem only_symm {parts : List Part} (o : OnlyChanges parts s t) : OnlyChanges parts t s := by
  refine ⟨o.1.symm, fun part mem n => ?_⟩
  have same := o.2 part mem n
  cases part <;> exact Eq.symm same

/-- A part that is found unchanged leaves the frame. -/
theorem only_strike {part : Part} {parts : List Part} (o : OnlyChanges (part :: parts) s t) (same : part.same s t) :
    OnlyChanges parts s t := by
  refine ⟨o.1, fun q mem n => ?_⟩
  by_cases e : q = part
  · exact e ▸ same
  · exact o.2 q mem fun mq => (List.mem_cons.1 mq).elim e n

/-- What the common end of a pairing may change, but for what the passes after it do. -/
def endingParts : List Part := [.banks, .trace, .pairings, .ring, .lanes, .gates, .ports, .notices]

theorem only_ending (pr : Pairing) (e : PairEnd) (s : State) : OnlyChanges endingParts s (endPairing pr e s) := by
  have die := (only_releaseDie pr e.die s).mono (b := endingParts) (by simp [endingParts])
  have site := (only_releaseSite pr e.site (releaseDie pr e.die s)).mono (b := endingParts) (by simp [endingParts])
  have trace := (only_closeTrace pr e.record (releaseSite pr e.site (releaseDie pr e.die s))).mono (b := endingParts)
    (by simp [endingParts])
  have ticket : ∀ u, OnlyChanges endingParts u (retireTicket pr e.outcome u) := by
    simp [retireTicket, OnlyChanges, endingParts, Part.list, Part.same]
  have bank : ∀ u, OnlyChanges endingParts u (retireIfClear pr.bank u) := fun u =>
    (only_retireIfClear pr.bank u).mono (by simp [endingParts])
  have ended : OnlyChanges endingParts s (retireIfClear pr.bank (endedBeforeRetire pr e s)) :=
    (die.trans (site.trans trace)).trans ((ticket _).trans (bank _))
  rw [endPairing_eq]
  split
  · exact ended.trans ((only_raiseAt _ _ _).mono (by simp [endingParts]))
  · exact ended

/-! ## What the hand-on of a site reads -/

/-- Two states agree in all that the hand-on of a site reads and changes. -/
structure SameWork (s t : State) : Prop where
  clock : t.clock = s.clock
  products : t.products = s.products
  lanes : t.lanes = s.lanes
  gates : t.gates = s.gates
  ports : t.ports = s.ports

theorem sameWork_of_only {parts : List Part} (o : OnlyChanges parts s t)
    (n : ∀ part ∈ [Part.clock, .products, .lanes, .gates, .ports], part ∉ parts) : SameWork s t :=
  ⟨o.clock_eq (n _ (by simp)), o.products_eq (n _ (by simp)), o.lanes_eq (n _ (by simp)), o.gates_eq (n _ (by simp)),
    o.ports_eq (n _ (by simp))⟩

theorem SameWork.symm (h : SameWork s t) : SameWork t s :=
  ⟨h.clock.symm, h.products.symm, h.lanes.symm, h.gates.symm, h.ports.symm⟩

theorem SameWork.trans {u : State} (h : SameWork s t) (k : SameWork t u) : SameWork s u :=
  ⟨k.clock.trans h.clock, k.products.trans h.products, k.lanes.trans h.lanes, k.gates.trans h.gates, k.ports.trans h.ports⟩

theorem SameWork.setGate (h : SameWork s t) (l : Lane) (g : GateMonitor) : SameWork (s.setGate l g) (t.setGate l g) :=
  { h with gates := by simp only [State.setGate, h.gates] }

theorem SameWork.handOver (h : SameWork s t) (p : Port) (r : Response) (k : Option GrantMark) :
    SameWork (handOver p r k s) (handOver p r k t) := by
  have link : t.link p = s.link p := by simp only [State.link, h.ports]
  simp only [Machine.handOver, link]
  cases s.link p with
  | holding kind => exact { h with ports := by simp only [State.setLink, State.setPort, h.ports] }
  | _ => exact h

theorem SameWork.changeSite (h : SameWork s t) (l : Lane) (a : BitVec 32) (i : Nat) (x : Site) :
    SameWork (changeSite l a i x s) (changeSite l a i x t) := by
  have lane : t.lane l = s.lane l := by simp only [State.lane, h.lanes]
  have site : t.site l a i = s.site l a i := by simp only [State.site, State.strip, lane]
  simp only [Machine.changeSite, site]
  cases s.site l a i with
  | none => exact h
  | some old => exact { h with lanes := by simp only [State.setLane, lane, h.lanes] }

theorem SameWork.grantDot (h : SameWork s t) (l : Lane) (p : Port) (st : Strip) (i : Nat) :
    SameWork (grantDot l p st i s) (grantDot l p st i t) := by
  have lane : t.lane l = s.lane l := by simp only [State.lane, h.lanes]
  have mark : assignmentFor t l st i = assignmentFor s l st i := by simp only [assignmentFor, lane, h.clock]
  have body : dotGrantBody t l st i = dotGrantBody s l st i := by simp only [dotGrantBody, State.product, h.products]
  have changed := h.changeSite l st.arrival i .dispensing
  have gate : (Machine.changeSite l st.arrival i .dispensing t).gate l = (Machine.changeSite l st.arrival i .dispensing s).gate l := by
    simp only [State.gate, changed.gates]
  simp only [Machine.grantDot, mark, body, gate]
  exact (changed.setGate l _).handOver p _ _

theorem SameWork.reexamine (h : SameWork s t) (l : Lane) : SameWork (reexamine l s) (reexamine l t) := by
  have gate : t.gate l = s.gate l := by simp only [State.gate, h.gates]
  have lane : t.lane l = s.lane l := by simp only [State.lane, h.lanes]
  have found : examine t l = examine s l := by simp only [examine, lane]
  simp only [Machine.reexamine, gate, found]
  cases (s.gate l).waiter with
  | none => exact h
  | some w =>
    cases examine s l with
    | none => exact h
    | some at_ => exact (h.setGate l _).grantDot l _ _ _

theorem SameWork.handOnSettled (h : SameWork s t) (l : Lane) (a : BitVec 32) :
    SameWork (handOnSettled l a s) (handOnSettled l a t) :=
  have quiet : ∀ u, SameWork u (settlementCheck l a u) := fun u => sameWork_of_only (only_settlementCheck l a u) (by simp)
  ((quiet _).symm.trans (h.reexamine l)).trans (quiet _)

theorem SameWork.releaseSite (h : SameWork s t) (pr : Pairing) (x : Option Site) :
    SameWork (releaseSite pr x s) (releaseSite pr x t) := by
  have changed := fun x => h.changeSite pr.lane pr.arrival pr.site x
  cases x with
  | none => exact h
  | some x =>
    simp only [Machine.releaseSite]
    split
    · exact (changed x).handOnSettled pr.lane pr.arrival
    · exact changed x

/-- R94: the common end of a pairing, sorted: the pairing leaves with its die and its ticket, then its site is handed on; the two
states differ in the notices alone. -/
theorem only_endPairing_sorted (pr : Pairing) (e : PairEnd) (s : State) : OnlyChanges [.notices]
    (releaseSite pr e.site { s with
      banks := (endPairing pr e s).banks
      trace := (closeTrace pr e.record s).trace
      pairings := s.pairings.eraseP (fun q => q.ticket == pr.ticket)
      ring := ringAppend { ticket := pr.ticket, port := pr.port, outcome := e.outcome } s.ring })
    (endPairing pr e s) := by
  have work : SameWork (releaseSite pr e.site (releaseDie pr e.die s)) (endPairing pr e s) := by
    have closed := sameWork_of_only (only_closeTrace pr e.record (releaseSite pr e.site (releaseDie pr e.die s))) (by simp)
    have ticket : SameWork (closeTrace pr e.record (releaseSite pr e.site (releaseDie pr e.die s))) (endedBeforeRetire pr e s) :=
      ⟨rfl, rfl, rfl, rfl, rfl⟩
    have retired := sameWork_of_only (only_retireIfClear pr.bank (endedBeforeRetire pr e s)) (by simp)
    rw [endPairing_eq]
    split
    · exact ((closed.trans ticket).trans retired).trans (sameWork_of_only (only_raiseAt _ _ _) (by simp))
    · exact (closed.trans ticket).trans retired
  have ring : (endPairing pr e s).ring = ringAppend { ticket := pr.ticket, port := pr.port, outcome := e.outcome } s.ring := by
    have before : (closeTrace pr e.record (releaseSite pr e.site (releaseDie pr e.die s))).ring = s.ring :=
      ((only_closeTrace _ _ _).ring_eq (by simp)).trans
        (((only_releaseSite _ _ _).ring_eq (by simp)).trans ((only_releaseDie _ _ _).ring_eq (by simp)))
    have retired : (retireIfClear pr.bank (endedBeforeRetire pr e s)).ring = _ :=
      ((only_retireIfClear pr.bank _).ring_eq (by simp)).trans (congrArg (ringAppend _) before)
    rw [endPairing_eq]
    split
    · exact ((only_raiseAt _ _ _).ring_eq (by simp)).trans retired
    · exact retired
  have trace := trace_endPairing pr e s
  have pairings := pairings_endPairing pr e s
  have ending := only_ending pr e s
  generalize eu : { s with
    banks := (endPairing pr e s).banks
    trace := (closeTrace pr e.record s).trace
    pairings := s.pairings.eraseP (fun q => q.ticket == pr.ticket)
    ring := ringAppend { ticket := pr.ticket, port := pr.port, outcome := e.outcome } s.ring } = u
  have moved : OnlyChanges endingParts s u := by
    subst eu
    simp [OnlyChanges, endingParts, Part.list, Part.same]
  have same : SameWork (releaseDie pr e.die s) u :=
    (sameWork_of_only (only_releaseDie pr e.die s) (by simp)).symm.trans (by subst eu; exact ⟨rfl, rfl, rfl, rfl, rfl⟩)
  have sited := (same.releaseSite pr e.site).symm.trans work
  have o := only_releaseSite pr e.site u
  have all := (only_symm (moved.trans (o.mono (by simp [endingParts])))).trans ending
  have banks' := o.banks_eq (by simp)
  have trace' := o.trace_eq (by simp)
  have pairings' := o.pairings_eq (by simp)
  have ring' := o.ring_eq (by simp)
  have banks := only_strike all (banks'.trans (by subst eu; rfl)).symm
  have traces := only_strike banks (trace.trans (trace'.trans (by subst eu; rfl)).symm)
  have tables := only_strike traces (pairings.trans (pairings'.trans (by subst eu; rfl)).symm)
  have rings := only_strike tables (ring.trans (ring'.trans (by subst eu; rfl)).symm)
  exact only_strike (only_strike (only_strike rings sited.lanes) sited.gates) sited.ports

end Sys2Proof.Proofs
end

section
/-! PROOFS. Each cause of the end of a pairing keeps the laws (R91, R93, R94, R97 to R103, R118, R120). -/

namespace Sys2Proof.Proofs

open Sys2Proof Sys2Proof.Machine Sys2Proof.Safety

variable {m : Mode} {s t : State}

/-! ## Numbers given in order -/

/-- The items of a list carry consecutive numbers, up to the next one to be given. -/
def Numbered {α : Type} (number : α → BitVec 32) (next : BitVec 32) (xs : List α) : Prop :=
  ∀ e ∈ xs.zipIdx, number e.1 = next - BitVec.ofNat 32 (xs.length - e.2)

theorem numbered_iff {α : Type} {number : α → BitVec 32} {next : BitVec 32} {xs : List α} : Numbered number next xs ↔
    ∀ i x, xs[i]? = some x → number x = next - BitVec.ofNat 32 (xs.length - i) :=
  ⟨fun h i x at_ => h (x, i) (List.mem_zipIdx_iff_getElem?.2 at_), fun h e me => h e.2 e.1 (List.mem_zipIdx_iff_getElem?.1 me)⟩

theorem Numbered.append {α : Type} {number : α → BitVec 32} {next : BitVec 32} {xs : List α} (h : Numbered number next xs)
    {x : α} (e : number x = next) : Numbered number (next + 1) (xs ++ [x]) := by
  rw [numbered_iff] at h ⊢
  intro i y at_
  rw [List.length_append, List.length_singleton]
  rcases Nat.lt_or_ge i xs.length with lt | ge
  · rw [List.getElem?_append_left lt] at at_
    rw [h i y at_, show xs.length + 1 - i = xs.length - i + 1 by omega, BitVec.ofNat_add]
    bv_omega
  · rw [List.getElem?_append_right ge] at at_
    obtain ⟨zero, eq⟩ := List.getElem?_eq_some_iff.1 at_
    rw [List.length_singleton] at zero
    have same : y = x := by rw [← eq]; simp
    rw [same, e, show xs.length + 1 - i = 1 by omega]
    bv_omega

theorem Numbered.drop {α : Type} {number : α → BitVec 32} {next : BitVec 32} {xs : List α} (h : Numbered number next xs)
    (n : Nat) : Numbered number next (xs.drop n) := by
  rw [numbered_iff] at h ⊢
  intro i y at_
  rw [List.getElem?_drop] at at_
  rw [h _ y at_, List.length_drop, show xs.length - (n + i) = xs.length - n - i by omega]

/-! ## The trace at the end of a pairing -/

/-- R94, step 4: the reservation ends, and where a record is written it is the next one. -/
theorem closeTrace_cases (pr : Pairing) (k : Option TraceKind) (s : State) : (closeTrace pr k s).trace = s.trace.release ∨
    ∃ r, r.seq = s.trace.nextSeq ∧ (closeTrace pr k s).trace = s.trace.release.append r := by
  cases k with
  | none => exact .inl (trace_closeTrace_none pr s)
  | some k =>
    cases phase : pr.phase with
    | claimed => exact .inl (by simp only [closeTrace, phase])
    | picked g => exact .inr ⟨recordFor pr k g s, rfl, trace_closeTrace_picked phase k s⟩

/-! ## The pairing leaves the table -/

theorem ringAppend_eq (e : RingEntry) (ring : List RingEntry) :
    ∃ kept, kept.Sublist ring ∧ kept.length < Config.ringSize + (ring.length - Config.ringSize) ∧ ringAppend e ring = kept ++ [e] := by
  unfold ringAppend
  split
  · rename_i lt
    exact ⟨ring, .refl _, by omega, rfl⟩
  · have : Config.ringSize = 16 := rfl
    exact ⟨ring.drop 1, List.drop_sublist 1 ring, by rw [List.length_drop]; omega, rfl⟩

theorem tickets_split {older newer : List Pairing} {pr : Pairing} {rest : List Ticket}
    (h : ((older ++ pr :: newer).map (fun pr => pr.ticket) ++ rest).Nodup) :
    pr.ticket ∉ (older ++ newer).map (fun pr => pr.ticket) ++ rest ∧
      ((older ++ newer).map (fun pr => pr.ticket) ++ rest).Nodup := by
  have perm : ((older ++ pr :: newer).map (fun pr => pr.ticket) ++ rest).Perm
      (pr.ticket :: ((older ++ newer).map (fun pr => pr.ticket) ++ rest)) := by
    simp
  exact List.nodup_cons.1 (perm.nodup_iff.1 h)

theorem sublist_middle {older newer : List Pairing} {pr : Pairing} : (older ++ newer).Sublist (older ++ pr :: newer) :=
  List.Sublist.append_left (List.sublist_cons_self pr newer) older

/-- R94, steps 2, 4 and 5: a pairing leaves the table with its die and its ticket; its site is left open. -/
theorem Laws.removePairing (h : Laws m s) {older newer : List Pairing} {pr : Pairing} (split : s.pairings = older ++ pr :: newer)
    (open_ : m.loose pr.lane pr.arrival pr.site) {banks : PerBank MapBank} (k : Option TraceKind) (o : PairOutcome)
    (map : MapInv { s with banks := banks, pairings := older ++ newer })
    (dice : PairedDieLaw { s with banks := banks, pairings := older ++ newer }) :
    Laws m { s with
      banks := banks
      trace := (closeTrace pr k s).trace
      pairings := older ++ newer
      ring := ringAppend { ticket := pr.ticket, port := pr.port, outcome := o } s.ring } := by
  have sub : (older ++ newer).Sublist s.pairings := split ▸ sublist_middle
  have mem : ∀ q, q ∈ older ++ newer → q ∈ s.pairings := fun q mq => sub.subset mq
  have fewer : ∀ p, State.pairingsOf { s with pairings := older ++ newer } p ≤ s.pairingsOf p := fun p =>
    (sub.filter _).length_le
  obtain ⟨reservations, level⟩ := h.room
  have one : s.pairings.length = (older ++ newer).length + 1 := by rw [split]; simp; omega
  have closed := closeTrace_cases pr k s
  obtain ⟨kept, keptSub, keptLen, ring⟩ := ringAppend_eq { ticket := pr.ticket, port := pr.port, outcome := o } s.ring
  have counts := dieCounts_of_map map
  generalize (closeTrace pr k s).trace = trace at closed
  exact { h with
    threshold := by rcases closed with rfl | ⟨r, _, rfl⟩ <;> exact h.threshold
    ringSize := by
      have := h.ringSize
      show (ringAppend _ _).length ≤ _
      rw [ring, List.length_append, List.length_singleton]
      omega
    room := by
      rcases closed with rfl | ⟨r, _, rfl⟩
      · refine ⟨?_, ?_⟩
        · show s.trace.reservations - 1 = (older ++ newer).length
          omega
        · show s.trace.records.length + (s.trace.reservations - 1) ≤ _
          omega
      · refine ⟨?_, ?_⟩
        · show s.trace.reservations - 1 = (older ++ newer).length
          omega
        · show (s.trace.records ++ [r]).length + (s.trace.reservations - 1) ≤ _
          rw [List.length_append, List.length_singleton]
          omega
    order := by
      rcases closed with rfl | ⟨r, seq, rfl⟩
      · exact h.order
      · exact Numbered.append (number := fun r : TraceRecord => r.seq) h.order seq
    states := map.states
    dieCounts := counts
    references := map.references
    dice := dice
    entries := fun e me => { h.entries e me with room := Nat.lt_of_le_of_lt (fewer e.port) (h.entries e me).room }
    sites := fun l st mst i x at_ =>
      { h.sites l st mst i x at_ with
        paired := fun t u => by
          rcases (h.sites l st mst i x at_).paired t u with old | ⟨q, mq, ticket, rfl, arrival, rfl⟩
          · exact .inl old
          · rw [split] at mq
            rcases mem_middle.1 mq with rfl | mq
            · exact .inl (arrival ▸ open_)
            · exact .inr ⟨q, mq, ticket, rfl, arrival, rfl⟩ }
    tickets := by
      have old := h.tickets
      rw [split] at old
      obtain ⟨gone, rest⟩ := tickets_split old
      show ((older ++ newer).map _ ++ (ringAppend _ s.ring).map _).Nodup
      have sub := (keptSub.map (fun e => e.ticket)).append_left ((older ++ newer).map (fun pr => pr.ticket))
      rw [ring, List.map_append (l₁ := kept), List.map_singleton, ← List.append_assoc, List.nodup_append_comm]
      exact List.nodup_cons.2 ⟨fun mem => gone (sub.subset mem), rest.sublist sub⟩
    perHead := fun p => (fewer p).trans (h.perHead p)
    setup := fun ahead line => by
      have none := h.setup ahead line
      rw [split] at none
      simp at none
    pairings := fun q mq => h.pairings q (mem q mq) }

/-! ## The common end (R94) -/

/-- R94: what the banks of an ended pairing hold: its die written, or nothing where its bank has retired. -/
theorem bank_endPairing (pr : Pairing) (e : PairEnd) (s : State) (k : BankId) :
    (endPairing pr e s).bank k =
        (if k = pr.bank then
          { (s.bank pr.bank).withDie (pr.dieIndex s) e.die with refs := (s.bank pr.bank).refs - 1 }
        else s.bank k) ∨ k = pr.bank ∧ (endPairing pr e s).bank k = .blank := by
  have bank : (endPairing pr e s).bank k = (retireIfClear pr.bank (endedBeforeRetire pr e s)).bank k := by
    rw [endPairing_eq]
    split
    · exact bank_eq_of_banks ((only_raiseAt _ _ _).banks_eq (by simp)) k
    · rfl
  rw [bank, bank_retireIfClear]
  split
  · rename_i c
    exact .inr ⟨c.1, rfl⟩
  · exact .inl ((bank_eq_of_banks (banks_endedBeforeRetire pr e s) k).trans (bank_releaseDie pr e.die s k))

theorem Laws.dice_endPairing (h : Laws m s) {k : Ticket} {pr : Pairing} (named : s.pairing k = some pr) {e : PairEnd}
    (out : ¬ InFlight e.die.state) : DiceLaw (endPairing pr e s) := by
  obtain ⟨_, older, newer, split, _, erased⟩ := pairing_split named
  have map := mapInv_endPairing h.map named e
  have law := diceLaw_of_laws h
  rw [DiceLaw, split] at law
  have ended := law.end out
  have each := fun k => bank_endPairing pr e s k
  rw [DiceLaw, pairings_endPairing, erased]
  refine ended.of_banks fun b => ?_
  rcases each b with eq | ⟨rfl, eq⟩
  · refine .inl ⟨?_, fun q _ bq => dieIndex_of_cols ?_, fun i => ?_⟩
    · rw [eq]; split
      · rename_i c; rw [c]; rfl
      · rfl
    · rw [bq, eq]; split
      · rename_i c; rw [c]; rfl
      · rfl
    · rw [dieOf, eq, writeDie]
      by_cases c : b = pr.bank
      · subst c
        rw [if_pos rfl]
        show dieAt (putDie _ _ _) i = _
        rw [dieAt_putDie (h.dieCounts pr.bank).1]
        simp
      · rw [if_neg c, if_neg fun x => c x.1]
  · refine .inr ⟨fun q mq bq => ?_, fun i => ?_⟩
    · have on := map.references.2 q (by rw [pairings_endPairing, erased]; exact mq)
      rw [bq, eq] at on
      cases on
    · rw [dieOf, eq]
      exact blank_not_inFlight

/-- What the cause of an end may leave at the site of its pairing. -/
def Leaves (m : Mode) (s : State) (pr : Pairing) (x : Site) : Prop :=
  x ≠ .dispensing ∧ pairedUnder x = none ∧
    ∀ st ∈ (s.lane pr.lane).strips, st.arrival = pr.arrival → SiteLaw m s pr.lane st pr.site x

theorem Laws.endPairing (h : Laws m s) {k : Ticket} {pr : Pairing} (named : s.pairing k = some pr) {e : PairEnd}
    (out : ¬ InFlight e.die.state) (site : ∀ x ∈ e.site, Leaves m s pr x)
    (gone : e.site = none → m.loose pr.lane pr.arrival pr.site) : Laws m (endPairing pr e s) := by
  obtain ⟨_, older, newer, split, _, erased⟩ := pairing_split named
  have mem := mem_of_pairing named
  have mapAfter := mapInv_endPairing h.map named e
  have diceAfter := h.dice_endPairing named out
  have map : MapInv { s with banks := (Machine.endPairing pr e s).banks, pairings := older ++ newer } :=
    mapInv_of_eq (s := Machine.endPairing pr e s) rfl (by rw [pairings_endPairing, erased]) mapAfter
  have dice : PairedDieLaw { s with banks := (Machine.endPairing pr e s).banks, pairings := older ++ newer } := by
    refine pairedDieLaw_of_map map ?_
    rw [DiceLaw, pairings_endPairing, erased] at diceAfter
    exact diceAfter
  refine Laws.notices (only_endPairing_sorted pr e s) ?_
  rw [erased]
  cases left : e.site with
  | none => exact h.removePairing split (gone left) e.record e.outcome map dice
  | some x =>
    obtain ⟨dot, pair, law⟩ := site x left
    obtain ⟨st, mst, arrival, _, w, at_, _⟩ := (h.pairings pr mem).sited
    have opened := (h.loosen (atSite pr.lane st.arrival pr.site)).removePairing split (.inr ⟨rfl, arrival.symm, rfl⟩) e.record
      e.outcome map dice
    have tickets := h.tickets
    rw [split] at tickets
    have changed := opened.closeSite (new := x) mst at_
      ⟨(law st mst arrival).bondAge, (law st mst arrival).bondGrade, fun d => absurd d dot,
        fun t mt => by rw [pair] at mt; exact absurd mt (by simp), (law st mst arrival).wet⟩
      (fun _ => .inl rfl) (h.unassigned mst at_ (fun e => nomatch e)) fun q mq c => by
        obtain ⟨lane, arr, sit⟩ := c
        have mq' : q ∈ s.pairings := by rw [split]; exact mem_middle.2 (.inr mq)
        obtain ⟨y, my, ya, _, v, aty, _⟩ := (h.pairings q mq').sited
        rw [lane] at my
        rw [strip_unique (h.lanes pr.lane).queue my mst (ya.trans arr), sit, at_, Option.some.injEq, Site.paired.injEq] at aty
        have ticket : q.ticket = pr.ticket := aty.2.symm
        exact (tickets_split tickets).1 (List.mem_append_left _ (List.mem_map.2 ⟨q, mq, ticket⟩))
    rw [arrival] at changed
    unfold Machine.releaseSite
    dsimp only
    split
    · exact changed.handOnSettled _ _
    · exact changed

theorem Laws.endAndPass (h : Laws m s) {k : Ticket} {pr : Pairing} (named : s.pairing k = some pr) {e : PairEnd}
    (out : ¬ InFlight e.die.state) (site : ∀ x ∈ e.site, Leaves m s pr x)
    (gone : e.site = none → m.loose pr.lane pr.arrival pr.site) : Laws m (Machine.endAndPass pr e s) :=
  (h.endPairing named out site gone).arbiterPasses _

/-! ## What the causes of an end leave -/

/-- R46: the age of a PAIRED site is below its open time and the two leases that have followed its grant. -/
theorem PairingOk.age {role : Port → Role} {product : ProductCode → Product} {now : Reading} {t : LaneTable} {pr : Pairing}
    (h : PairingOk role product now t pr) {bound : Nat} {w : Reading} (early : elapsed w pr.grantTime < bound) :
    elapsed w now < bound + 2 * Config.maxLeaseTicks := by
  have follows := h.follows
  have running := h.running
  have length := h.length
  have whole := elapsed_trans w pr.grantTime now
  unfold leaseFollows at follows
  split at follows
  · have start : pr.leaseStart = pr.grantTime := by simpa using follows
    rw [start] at running
    omega
  · rename_i pick _
    simp only [Bool.and_eq_true, beq_iff_eq, decide_eq_true_eq] at follows
    obtain ⟨start, picked⟩ := follows
    have later := elapsed_trans pr.grantTime pick now
    rw [start] at running
    omega

/-- The strip and the site of a pairing, and what the model reads of them (R28). -/
theorem Laws.sited (h : Laws m s) {pr : Pairing} (mem : pr ∈ s.pairings) :
    ∃ st ∈ (s.lane pr.lane).strips, st.arrival = pr.arrival ∧ pr.product s = s.product st.product ∧
      elapsed (pr.wetTime s) s.clock < (s.product st.product).openTicks + 2 * Config.maxLeaseTicks ∧
      (s.product st.product).gradeSet.getLsbD pr.grade.toNat = true := by
  obtain ⟨st, mst, arrival, _, w, at_, early, grade⟩ := (h.pairings pr mem).sited
  obtain ⟨_, wet, product⟩ := read_of_sited (h.lanes pr.lane).queue mst arrival at_
  exact ⟨st, mst, arrival, product, wet ▸ (h.pairings pr mem).age early, grade⟩

theorem Laws.leaves_wetted (h : Laws m s) {pr : Pairing} (mem : pr ∈ s.pairings) : Leaves m s pr (.wetted (pr.wetTime s)) := by
  obtain ⟨st, mst, arrival, _, young, _⟩ := h.sited mem
  refine ⟨(fun e => nomatch e), rfl, fun y my ya => siteLaw_wetted ?_⟩
  rw [strip_unique (h.lanes pr.lane).queue my mst (ya.trans arrival.symm)]
  exact young

theorem leaves_suspect (m : Mode) (s : State) (pr : Pairing) (w : Reading) : Leaves m s pr (.suspect w) :=
  ⟨(fun e => nomatch e), rfl, fun st _ _ => Bare.law (by simp [Bare, Site.bond, pairedUnder]) pr.lane st pr.site⟩

/-- R97, R98: the state a BONDED report gives a site agrees with its age at bond, and its grade is accepted. -/
theorem Laws.leaves_bond (h : Laws m s) {pr : Pairing} (mem : pr ∈ s.pairings) (dx dy : Half) :
    Leaves m s pr (bondSite pr dx dy s) := by
  obtain ⟨st, mst, arrival, product, _, grade⟩ := h.sited mem
  have same : ∀ y ∈ (s.lane pr.lane).strips, y.arrival = pr.arrival → y = st := fun y my ya =>
    strip_unique (h.lanes pr.lane).queue my mst (ya.trans arrival.symm)
  have accepted : ∀ f ∈ some (bondFields pr s), (s.product st.product).gradeSet.getLsbD f.grade.toNat = true := fun f mf => by
    cases mf; exact grade
  have late : bondLate pr s = decide ((s.product st.product).openTicks ≤ (ageNow pr s).toNat) := by rw [bondLate, product]
  unfold bondSite
  split
  · rename_i is
    refine ⟨(fun e => nomatch e), rfl, fun y my ya => ?_⟩
    rw [same y my ya]
    exact ⟨by rw [late] at is; exact is, accepted, (fun e => nomatch e), (fun _ n => nomatch n), (fun _ e => nomatch e)⟩
  · rename_i not
    have early : (ageNow pr s).toNat < (s.product st.product).openTicks := by simpa [late] using not
    split
    all_goals
      refine ⟨(fun e => nomatch e), rfl, fun y my ya => ?_⟩
      rw [same y my ya]
      exact ⟨decide_eq_true early, accepted, (fun e => nomatch e), (fun _ n => nomatch n), (fun _ e => nomatch e)⟩

/-! ## The causes -/

theorem out_to {r : DieRecord} {x : DieState} (h : ¬ InFlight x) : ¬ InFlight (r.to x).state := h

theorem Laws.withdrawn (h : Laws m s) {k : Ticket} {pr : Pairing} (named : s.pairing k = some pr) :
    Laws m (Machine.endAndPass pr (withdrawalEnd pr s) s) :=
  h.endAndPass named (out_to (by simp [InFlight])) (fun x mx => by cases mx; exact h.leaves_wetted (mem_of_pairing named))
    (fun e => nomatch e)

theorem Laws.expired (h : Laws m s) {k : Ticket} {pr : Pairing} (named : s.pairing k = some pr) :
    Laws m (Machine.endAndPass pr (expiryEnd pr s) s) := by
  unfold expiryEnd
  split
  · exact h.endAndPass named (out_to (by simp [InFlight]))
      (fun x mx => by cases mx; exact h.leaves_wetted (mem_of_pairing named)) (fun e => nomatch e)
  · exact h.endAndPass named (out_to (by simp [InFlight])) (fun x mx => by cases mx; exact leaves_suspect m s pr _)
      (fun e => nomatch e)

theorem Laws.bonded (h : Laws m s) {k : Ticket} {pr : Pairing} (named : s.pairing k = some pr) (dx dy : Half) :
    Laws m (Machine.endAndPass pr (bondEnd pr dx dy s) s) :=
  h.endAndPass named (out_to (by simp [InFlight])) (fun x mx => by cases mx; exact h.leaves_bond (mem_of_pairing named) dx dy)
    (fun e => nomatch e)

theorem failedDie_out (reason : PickReason) (r : DieRecord) : ¬ InFlight (failedDie reason r).state := by
  cases reason with
  | tool =>
    simp only [failedDie]
    split <;> simp [InFlight, DieRecord.to]
  | _ => simp [failedDie, InFlight, DieRecord.to]

theorem Laws.pickFailed (h : Laws m s) {k : Ticket} {pr : Pairing} (named : s.pairing k = some pr) (reason : PickReason) :
    Laws m (Machine.endAndPass pr (failEnd pr reason s) s) :=
  h.endAndPass named (failedDie_out reason _) (fun x mx => by cases mx; exact h.leaves_wetted (mem_of_pairing named))
    (fun e => nomatch e)

theorem Laws.discarded (h : Laws m s) {k : Ticket} {pr : Pairing} (named : s.pairing k = some pr) :
    Laws m (Machine.endAndPass pr (discardEnd pr s) s) :=
  h.endAndPass named (out_to (by simp [InFlight])) (fun x mx => by cases mx; exact h.leaves_wetted (mem_of_pairing named))
    (fun e => nomatch e)

theorem Laws.revoked (h : Laws m s) {k : Ticket} {pr : Pairing} (named : s.pairing k = some pr)
    (open_ : m.loose pr.lane pr.arrival pr.site) : Laws m (Machine.endPairing pr (revocationEnd pr s) s) := by
  unfold revocationEnd
  split
  · exact h.endPairing named (out_to (by simp [InFlight])) (fun _ n => nomatch n) fun _ => open_
  · exact h.endPairing named (out_to (by simp [InFlight])) (fun _ n => nomatch n) fun _ => open_

theorem Laws.clearEnd (h : Laws m s) {k : Ticket} {pr : Pairing} (named : s.pairing k = some pr)
    (open_ : m.loose pr.lane pr.arrival pr.site) : Laws m (Machine.endPairing pr (Machine.clearEnd pr s) s) := by
  unfold Machine.clearEnd
  split
  · exact h.endPairing named (out_to (by simp [InFlight])) (fun _ n => nomatch n) fun _ => open_
  · exact h.endPairing named (out_to (by simp [InFlight])) (fun _ n => nomatch n) fun _ => open_

theorem Laws.withdraw (h : Laws m s) (k : Option GrantMark) : Laws m (Machine.withdraw k s) := by
  unfold Machine.withdraw
  split
  · exact h
  · unfold withdrawPair
    split
    · rename_i pr marked
      exact h.withdrawn (markedPairing_eq_some marked).1
    · exact h
  · exact h.withdrawDot _

theorem Laws.expireLease (h : Laws m s) (k : Ticket) : Laws m (Machine.expireLease k s) := by
  unfold Machine.expireLease
  split
  · exact h
  · rename_i pr named
    split
    · exact h.expired named
    · exact h

end Sys2Proof.Proofs
end

section
/-! PROOFS. The requests of the Map Store and the head reports keep the laws (R6 to R14, R17, R18, R95 to R100). -/

namespace Sys2Proof.Proofs

open Sys2Proof Sys2Proof.Machine Sys2Proof.Safety

variable {m : Mode} {s t : State} {p : Port}

/-- The answer to the request in service. -/
theorem Laws.answer (h : Laws m s) (serving : m.serving p) (r : Response) : Laws m (Machine.reply p r s) :=
  h.reply (h.free serving) r

theorem mapInv_of_reply {r : Response} (h : MapInv (reply p r s)) : MapInv s :=
  mapInv_of_only (only_symm (only_reply p r s)) (by simp) (by simp) h

/-! ## Banks -/

theorem Laws.rebank (h : Laws m s) (o : OnlyChanges [.banks, .notices] s t) (map : MapInv t)
    (dice : DiceOk (fun b => (t.bank b).waferId) (fun pr => pr.dieIndex t) (dieOf t) s.pairings) : Laws m t := by
  have pairings := o.pairings_eq (by simp)
  have map' : MapInv { s with banks := t.banks } := mapInv_of_eq (s := t) rfl pairings.symm map
  rw [eq_of_only_banks o]
  exact (h.setBanks map' (pairedDieLaw_of_map map' dice)).setUnread t.notices s.lastTicket

/-- A bank that is neither ACTIVE nor RETIRING is that of no pairing. -/
theorem Laws.no_pairing_on (h : Laws m s) {b : BankId} (off : (s.bank b).onTable = false) : ∀ pr ∈ s.pairings, pr.bank ≠ b :=
  fun pr mpr e => by
    have on := h.references.2 pr mpr
    rw [e, off] at on
    cases on

/-- R4: a bank that is that of no pairing has no die in flight. -/
theorem Laws.no_die_in_flight (h : Laws m s) {b : BankId} (off : (s.bank b).onTable = false) (i : Nat) :
    ¬ InFlight (dieOf s b i).state := fun flying => by
  obtain ⟨pr, mpr, bank, _⟩ := (diceLaw_of_laws h).named b i flying
  exact h.no_pairing_on off pr mpr bank

/-- A bank is changed that keeps its wafer, its columns and its die. -/
theorem Laws.restateBank (h : Laws m s) {b : BankId} {x : MapBank} (map : MapInv (s.setBank b x))
    (waferId : x.waferId = (s.bank b).waferId) (cols : x.cols = (s.bank b).cols) (dies : x.dies = (s.bank b).dies) :
    Laws m (s.setBank b x) := by
  refine h.rebank ((only_setBank s b x).mono (by simp)) map ((diceLaw_of_laws h).of_banks fun k => .inl ?_)
  by_cases e : k = b
  · subst e
    refine ⟨by rw [State.bank_setBank_self, waferId], fun pr _ bank => dieIndex_of_cols ?_, fun i => ?_⟩
    · rw [bank, State.bank_setBank_self, cols]
    · rw [dieOf, State.bank_setBank_self, dies]
  · refine ⟨by rw [State.bank_setBank_of_ne _ _ e], fun pr _ bank => dieIndex_of_cols ?_, fun i => ?_⟩
    · rw [bank, State.bank_setBank_of_ne _ _ e]
    · rw [dieOf, State.bank_setBank_of_ne _ _ e]

/-- A bank is changed that is that of no pairing, to one with no die in flight. -/
theorem Laws.renewBank (h : Laws m s) {b : BankId} {x : MapBank} (map : MapInv (s.setBank b x))
    (off : (s.bank b).onTable = false) (dies : ∀ i, ¬ InFlight (dieAt x.dies i).state) : Laws m (s.setBank b x) := by
  refine h.rebank ((only_setBank s b x).mono (by simp)) map ((diceLaw_of_laws h).of_banks fun k => ?_)
  by_cases e : k = b
  · subst e
    refine .inr ⟨h.no_pairing_on off, fun i => ?_⟩
    rw [dieOf, State.bank_setBank_self]
    exact dies i
  · refine .inl ⟨by rw [State.bank_setBank_of_ne _ _ e], fun pr _ bank => dieIndex_of_cols ?_, fun i => ?_⟩
    · rw [bank, State.bank_setBank_of_ne _ _ e]
    · rw [dieOf, State.bank_setBank_of_ne _ _ e]

theorem Laws.blankBank (h : Laws m s) {b : BankId} (off : (s.bank b).onTable = false) : Laws m (s.setBank b .blank) :=
  h.renewBank (mapInv_setBank_blank h.map b off) off fun _ => blank_not_inFlight

theorem off_of_loading {b : MapBank} (h : b.state = .loading) : b.onTable = false :=
  not_onTable (by rw [h]; decide) (by rw [h]; decide)

/-! ## Loading a map (R6 to R10) -/

theorem Laws.serveMapOpen (h : Laws m s) (serving : m.serving p) (body : List Octet) :
    Laws m (Machine.serveMapOpen p body s) := by
  have map := mapInv_serveMapOpen h.map p body
  revert map
  unfold Machine.serveMapOpen
  split
  · exact fun _ => h.answer serving _
  · split
    · exact fun _ => h.answer serving _
    · split
      · exact fun _ => h.answer serving _
      · rename_i b empty
        intro map
        have off : (s.bank b).onTable = false := by simp [MapBank.onTable, emptyBank_eq_some empty]
        exact (h.renewBank (mapInv_of_reply map) off fun _ => blank_not_inFlight).answer serving _

/-- R7: a loaded grade gives no die in flight. -/
theorem loadedDie_out (g : Grade) : ¬ InFlight (loadedDie g).state := by
  unfold loadedDie InFlight
  dsimp only
  split
  · simp
  · split <;> simp

theorem loadGrades_out {b : MapBank} (law : DieCountLaw b) (loading : b.state = .loading) (start : Nat) (grades : List Octet)
    (out : ∀ i, ¬ InFlight (dieAt b.dies i).state) (i : Nat) : ¬ InFlight (dieAt (b.loadGrades start grades).dies i).state := by
  induction grades generalizing b start with
  | nil => exact out i
  | cons g grades ih =>
    obtain ⟨one, state, _⟩ := dieCountLaw_loadGrades law loading start [g]
    refine ih one state _ fun j => ?_
    show ¬ InFlight (dieAt (putDie b.dies start _) j).state
    rw [dieAt_putDie law.1]
    split
    · exact loadedDie_out _
    · exact out j

theorem Laws.serveMapRows (h : Laws m s) (serving : m.serving p) (body : List Octet) :
    Laws m (Machine.serveMapRows p body s) := by
  have map := mapInv_serveMapRows h.map p body
  revert map
  unfold Machine.serveMapRows
  dsimp only
  split
  · exact fun _ => h.answer serving _
  · rename_i b loading
    split
    · exact fun _ => h.answer serving _
    · intro map
      have off := off_of_loading (loadingBank_eq_some loading)
      exact (h.renewBank (mapInv_of_reply map) off
        (loadGrades_out (h.dieCounts b) (loadingBank_eq_some loading) _ _ (h.no_die_in_flight off))).answer serving _

theorem Laws.serveMapClose (h : Laws m s) (serving : m.serving p) (body : List Octet) :
    Laws m (Machine.serveMapClose p body s) := by
  have map := mapInv_serveMapClose h.map p body
  revert map
  unfold Machine.serveMapClose
  dsimp only
  split
  · exact fun _ => h.answer serving _
  · rename_i b loading
    split
    · exact fun map => (h.restateBank (mapInv_of_reply map) rfl rfl rfl).answer serving _
    · exact fun _ => (h.blankBank (off_of_loading (loadingBank_eq_some loading))).answer serving _

theorem Laws.serveMapAbort (h : Laws m s) (serving : m.serving p) (body : List Octet) :
    Laws m (Machine.serveMapAbort p body s) := by
  unfold Machine.serveMapAbort
  split
  · exact h.answer serving _
  · rename_i b loading
    exact (h.blankBank (off_of_loading (loadingBank_eq_some loading))).answer serving _

/-! ## Die marks (R17, R18) -/

theorem Laws.changeDie (h : Laws m s) {b : BankId} (held : (s.bank b).state ≠ .empty) {i : Nat} {r : DieRecord}
    (was : ¬ InFlight (dieOf s b i).state) (now : ¬ InFlight r.state) : Laws m (Machine.changeDie b i r s) := by
  refine h.rebank (only_changeDie b i r s) (mapInv_changeDie h.map held i r) (DiceOk.of_withDie (h.dieCounts b).1 (fun k => ?_)
    ((diceLaw_of_laws h).write was now))
  rw [bank_changeDie]
  split
  · rename_i e; subst e; exact ⟨rfl, rfl, rfl⟩
  · exact ⟨rfl, rfl, rfl⟩

theorem markedDie_out {a : MarkAction} {r r' : DieRecord} (h : markedDie a r = some r') : ¬ InFlight r'.state := by
  unfold markedDie at h
  split at h
  · cases h; simp [InFlight]
  · cases h; simp [InFlight]
  · split at h
    · cases h; simp [InFlight]
    · cases h
  · cases h

theorem Laws.serveDieMark (h : Laws m s) (serving : m.serving p) (body : List Octet) :
    Laws m (Machine.serveDieMark p body s) := by
  unfold Machine.serveDieMark
  dsimp only
  split
  · rename_i b a _ _
    split
    · exact h.answer serving _
    · rename_i holds
      split
      · exact h.answer serving _
      · split
        · exact h.answer serving _
        · rename_i free
          split
          · exact h.answer serving _
          · rename_i marked
            have held : (s.bank b).state ≠ .empty := fun e => holds (by simp [MapBank.holdsMap, e])
            exact ((h.changeDie held (by simpa [InFlight] using free) (markedDie_out marked)).arbiterPasses _).answer serving _
  · exact h.answer serving _

/-! ## Wafers (R11 to R14) -/

theorem Laws.serveWaferIn (h : Laws m s) (serving : m.serving p) (body : List Octet) :
    Laws m (Machine.serveWaferIn p body s) := by
  unfold Machine.serveWaferIn
  dsimp only
  split
  · exact h.answer serving _
  · rename_i clear
    split
    · exact h.answer serving _
    · split
      · exact h.answer serving _
      · rename_i b staged
        refine Laws.answer (Laws.arbiterPass ?_) serving _
        have off : ∀ k, (s.bank k).onTable = false := fun k => by
          simp only [Bool.or_eq_true, not_or, Bool.not_eq_true] at clear
          cases k
          · exact clear.1
          · exact clear.2
        have quiet : OnlyChanges [.lastPick, .notices] (s.setBank b { s.bank b with state := .active }) (activate b s) := by
          unfold activate
          dsimp only
          split
          · exact ((only_resetLastPicks _).mono (by simp)).trans ((only_raiseTo _ _ _).mono (by simp))
          · exact (only_resetLastPicks _).mono (by simp)
        have map := mapInv_of_only (only_symm quiet) (by simp) (by simp) (mapInv_activate h.map (stagedBank_eq_some staged).1 off)
        exact (h.restateBank map rfl rfl rfl).quiet (quiet.mono (by simp))

theorem Laws.serveWaferOut (h : Laws m s) (serving : m.serving p) (body : List Octet) :
    Laws m (Machine.serveWaferOut p body s) := by
  have map := mapInv_serveWaferOut h.map p body
  revert map
  unfold Machine.serveWaferOut
  dsimp only
  split
  · exact fun _ => h.answer serving _
  · rename_i b active
    intro map
    replace map := mapInv_of_reply map
    refine Laws.answer (h.rebank (((only_setBank s b _).mono (by simp)).trans (only_retireIfClear b _)) map
      ((diceLaw_of_laws h).of_banks fun k => ?_)) serving _
    have refs := h.references.1 b (mem_bothBanks b)
    have bank := bank_retireIfClear b (s.setBank b { s.bank b with state := .retiring }) k
    rw [State.bank_setBank_self] at bank
    by_cases e : k = b
    · subst e
      rw [State.bank_setBank_self] at bank
      split at bank
      · rename_i clear
        refine .inr ⟨fun pr mpr on => ?_, fun i => ?_⟩
        · have zero : (s.bank k).refs = 0 := clear.2.2
          rw [zero] at refs
          have none := List.length_eq_zero_iff.1 refs.1.symm
          have := List.filter_eq_nil_iff.1 none pr mpr
          simp [on] at this
        · rw [dieOf, bank]; exact blank_not_inFlight
      · refine .inl ⟨by rw [bank], fun pr _ on => dieIndex_of_cols (by rw [on, bank]), fun i => by rw [dieOf, bank]⟩
    · rw [if_neg fun c => e c.1, State.bank_setBank_of_ne _ _ e] at bank
      exact .inl ⟨by rw [bank], fun pr _ on => dieIndex_of_cols (by rw [on, bank]), fun i => by rw [dieOf, bank]⟩

/-! ## PICKED (R96) -/

/-- The pairings in flight are restated: each keeps its ticket, its port and its site. -/
theorem Laws.mapPairings (h : Laws m s) {f : Pairing → Pairing} {banks : PerBank MapBank}
    (same : ∀ q ∈ s.pairings, (f q).ticket = q.ticket ∧ (f q).port = q.port ∧ (f q).lane = q.lane ∧ (f q).arrival = q.arrival ∧
      (f q).site = q.site)
    (law : ∀ q ∈ s.pairings, PairingLaw s (f q)) (map : MapInv { s with banks := banks, pairings := s.pairings.map f })
    (dice : PairedDieLaw { s with banks := banks, pairings := s.pairings.map f }) :
    Laws m { s with banks := banks, pairings := s.pairings.map f } := by
  have length : (s.pairings.map f).length = s.pairings.length := List.length_map _
  have tickets : (s.pairings.map f).map (fun pr => pr.ticket) = s.pairings.map (fun pr => pr.ticket) := by
    rw [List.map_map]
    exact List.map_congr_left fun q mq => (same q mq).1
  have few : ∀ q, State.pairingsOf { s with pairings := s.pairings.map f } q = s.pairingsOf q := fun q => by
    simp only [State.pairingsOf, List.filter_map, List.length_map]
    congr 1
    exact List.filter_congr fun x mx => by simp only [Function.comp, (same x mx).2.1]
  have counts := dieCounts_of_map map
  exact { h with
    room := ⟨h.room.1.trans length.symm, h.room.2⟩
    states := map.states
    dieCounts := counts
    references := map.references
    dice := dice
    entries := fun e me => { h.entries e me with room := (few e.port).symm ▸ (h.entries e me).room }
    sites := fun l st mst i x at_ =>
      { h.sites l st mst i x at_ with
        paired := fun t u => ((h.sites l st mst i x at_).paired t u).imp_right fun ⟨q, mq, ticket, lane, arrival, site⟩ => by
          obtain ⟨t', _, l', a', i'⟩ := same q mq
          exact ⟨f q, List.mem_map.2 ⟨q, mq, rfl⟩, t'.trans ticket, l'.trans lane, a'.trans arrival, i'.trans site⟩ }
    tickets := by
      show ((s.pairings.map f).map _ ++ _).Nodup
      rw [tickets]
      exact h.tickets
    perHead := fun q => (few q).symm ▸ h.perHead q
    setup := fun ahead line => by
      show s.pairings.map f = []
      rw [h.setup ahead line]
      rfl
    pairings := fun q mq => by
      obtain ⟨x, mx, rfl⟩ := List.mem_map.1 mq
      exact law x mx }

theorem Laws.takePick (h : Laws m s) {k : Ticket} {pr : Pairing} (named : s.pairing k = some pr) (claimed : pr.phase = .claimed) :
    Laws m (Machine.takePick pr s) := by
  obtain ⟨ticket, older, newer, split, _, _⟩ := pairing_split named
  have mem := mem_of_pairing named
  have old := h.pairings pr mem
  have mapAfter := mapInv_takePick h.map named
  have tickets := h.tickets
  have o := only_changeDie pr.bank (pr.dieIndex s) ((pr.dieRecord s).to .picked) s
  have unique : ∀ q ∈ s.pairings, q.ticket = pr.ticket → q = pr := fun q mq e =>
    List.inj_on_of_nodup_map (List.nodup_append.1 tickets).1 mq mem e
  have after : s.pairings.map (fun q => if q.ticket = pr.ticket then pickedPairing pr s else q) =
      older ++ pickedPairing pr s :: newer := by
    have away : ∀ q ∈ older ++ newer, q.ticket ≠ pr.ticket := fun q mq e => by
      rw [split] at tickets
      exact (tickets_split tickets).1 (List.mem_append_left _ (List.mem_map.2 ⟨q, mq, e⟩))
    rw [split, List.map_append, List.map_cons, if_pos rfl]
    congr 1
    · rw [List.map_congr_left (g := fun q => q) fun q mq => if_neg (away q (List.mem_append_left _ mq))]
      exact List.map_id' older
    · rw [List.map_congr_left (g := fun q => q) fun q mq => if_neg (away q (List.mem_append_right _ mq))]
      rw [List.map_id' newer]
  have map : MapInv { s with
      banks := (Machine.takePick pr s).banks
      pairings := s.pairings.map (fun q => if q.ticket = pr.ticket then pickedPairing pr s else q) } :=
    mapInv_of_eq (s := Machine.takePick pr s) rfl (by simp only [Machine.takePick, o.pairings_eq (by simp)]) mapAfter
  have dice : PairedDieLaw { s with
      banks := (Machine.takePick pr s).banks
      pairings := s.pairings.map (fun q => if q.ticket = pr.ticket then pickedPairing pr s else q) } := by
    refine pairedDieLaw_of_map map ?_
    have law := diceLaw_of_laws h
    rw [DiceLaw, split] at law
    have picked := law.pick (pr' := pickedPairing pr s) (r := (pr.dieRecord s).to .picked) rfl rfl rfl rfl rfl rfl
    rw [DiceLaw]
    dsimp only
    rw [after]
    refine DiceOk.of_withDie (h.dieCounts pr.bank).1 (fun b => ?_) picked
    show ((Machine.changeDie pr.bank (pr.dieIndex s) ((pr.dieRecord s).to .picked) s).bank b).waferId = _ ∧
      ((Machine.changeDie pr.bank (pr.dieIndex s) ((pr.dieRecord s).to .picked) s).bank b).cols = _ ∧
      ((Machine.changeDie pr.bank (pr.dieIndex s) ((pr.dieRecord s).to .picked) s).bank b).dies = _
    rw [bank_changeDie]
    split
    · rename_i e; subst e; exact ⟨rfl, rfl, rfl⟩
    · exact ⟨rfl, rfl, rfl⟩
  have lease : ticksOfMs (pr.product s).bondLeaseMs ≤ Config.maxLeaseTicks := by
    obtain ⟨st, mst, _, product, _⟩ := h.sited mem
    rw [product]
    exact lease_le (bounds_of_inRange (h.product_inRange mst).1).2.2.2.1
  have picked : PairingLaw s (pickedPairing pr s) := by
    refine ⟨old.head, old.ticket, old.sited, ?_, ?_, lease⟩
    · have start : pr.leaseStart = pr.grantTime := by simpa [leaseFollows, claimed] using old.follows
      have early : elapsed pr.grantTime s.clock ≤ Config.maxLeaseTicks := start ▸ old.running.trans old.length
      simp [leaseFollows, pickedPairing, early]
    · simp [pickedPairing]
  have moved := h.mapPairings (f := fun q => if q.ticket = pr.ticket then pickedPairing pr s else q)
    (banks := (Machine.takePick pr s).banks)
    (fun q mq => by
      split
      · rename_i e; rw [unique q mq e]; exact ⟨rfl, rfl, rfl, rfl, rfl⟩
      · exact ⟨rfl, rfl, rfl, rfl, rfl⟩)
    (fun q mq => by
      split
      · exact picked
      · exact h.pairings q mq) map dice
  refine moved.quiet ?_
  have eq := eq_of_only_banks o
  unfold Machine.takePick
  rw [eq]
  simp [OnlyChanges, Part.list, Part.same]

/-! ## The head reports -/

theorem Laws.servePicked (h : Laws m s) (serving : m.serving p) (body : List Octet) :
    Laws m (Machine.servePicked p body s) := by
  refine withTicket_keeps (fun r => h.answer serving r) fun pr named _ => ?_
  split
  · rename_i claimed
    exact (h.takePick named claimed).answer serving _
  · exact h.answer serving _

theorem Laws.serveBonded (h : Laws m s) (serving : m.serving p) (body : List Octet) :
    Laws m (Machine.serveBonded p body s) := by
  refine withTicket_keeps (fun r => h.answer serving r) fun pr named _ => ?_
  split
  · exact h.answer serving _
  · exact (h.bonded named _ _).answer serving _

theorem Laws.servePickFail (h : Laws m s) (serving : m.serving p) (body : List Octet) :
    Laws m (Machine.servePickFail p body s) := by
  refine withTicket_keeps (fun r => h.answer serving r) fun pr named _ => ?_
  split
  · exact h.answer serving _
  · exact h.answer serving _
  · exact (h.pickFailed named _).answer serving _

theorem Laws.serveDiscard (h : Laws m s) (serving : m.serving p) (body : List Octet) :
    Laws m (Machine.serveDiscard p body s) := by
  refine withTicket_keeps (fun r => h.answer serving r) fun pr named _ => ?_
  split
  · exact h.answer serving _
  · exact (h.discarded named).answer serving _

end Sys2Proof.Proofs
end

section
/-! PROOFS. The configuration requests, STRIP_IN, the trace and the notice requests keep the laws (R22 to R27, R66, R121, R124,
R134, R135). -/

namespace Sys2Proof.Proofs

open Sys2Proof Sys2Proof.Machine Sys2Proof.Safety

variable {m : Mode} {s t : State} {p : Port}

/-! ## Roles (R134, R135) -/

/-- How many ports other than the named one hold a role. -/
def othersWith (s : State) (q : Port) (r : Role) : Nat := (allPorts.filter (fun x => x != q && s.role x == r)).length

theorem length_filter_split {α : Type} [DecidableEq α] {xs : List α} (distinct : xs.Nodup) {q : α} (mq : q ∈ xs)
    (f : α → Bool) :
    (xs.filter f).length = (xs.filter (fun x => x != q && f x)).length + if f q = true then 1 else 0 := by
  induction xs with
  | nil => cases mq
  | cons x xs ih =>
    obtain ⟨apart, rest⟩ := List.nodup_cons.1 distinct
    simp only [List.filter_cons]
    by_cases e : x = q
    · subst e
      have same : xs.filter (fun y => y != x && f y) = xs.filter f := List.filter_congr fun y my => by
        have ne : y ≠ x := fun e => apart (e ▸ my)
        simp [ne]
      simp only [bne_self_eq_false, Bool.false_and, Bool.false_eq_true, if_false, same]
      split <;> simp
    · have mq' : q ∈ xs := (List.mem_cons.1 mq).resolve_left fun c => e c.symm
      have step := ih rest mq'
      have ne : (x != q) = true := by simpa using e
      rw [ne, Bool.true_and]
      split
      · simp only [List.length_cons, step]; omega
      · exact step

theorem roleCount_split (s : State) (q : Port) (r : Role) :
    roleCount s r = othersWith s q r + if s.role q = r then 1 else 0 := by
  have split := length_filter_split (xs := allPorts) (by decide) (q := q) (mem_allPorts q) (fun x => s.role x == r)
  simpa [roleCount, othersWith] using split

/-- The others of a port keep their roles where that port alone is assigned one. -/
theorem roleCount_assign {q : Port} (kept : ∀ x, x ≠ q → t.role x = s.role x) (r : Role) :
    roleCount t r = othersWith s q r + if t.role q = r then 1 else 0 := by
  rw [roleCount_split t q r]
  congr 1
  unfold othersWith
  congr 1
  refine List.filter_congr fun x _ => ?_
  by_cases e : x = q
  · simp [e]
  · simp [kept x e]

theorem RoleLaw.assign (h : RoleLaw s) {q : Port} (station : q ≠ 0) (kept : ∀ x, x ≠ q → t.role x = s.role x)
    (notSupervisor : t.role q ≠ .supervisor) (head : t.role q = .head → othersWith s q .head < Config.maxHeads)
    (sole : t.role q ≠ .head → t.role q ≠ .unassigned → othersWith s q (t.role q) = 0) : RoleLaw t := by
  obtain ⟨zero, supervisor, heads, indexer, wafer, dispA, dispB⟩ := h
  have before := roleCount_split s q
  have after := roleCount_assign kept
  have one : ∀ r : Role, r ≠ .head → r ≠ .unassigned → roleCount s r ≤ 1 → roleCount t r ≤ 1 := fun r notHead assigned le => by
    have b := before r
    rw [after r]
    split
    · rename_i e
      subst e
      have := sole notHead assigned
      omega
    · omega
  refine ⟨(kept 0 fun e => station e.symm).trans zero, ?_, ?_, one _ (by simp) (by simp) indexer, one _ (by simp) (by simp) wafer,
    one _ (by simp) (by simp) dispA, one _ (by simp) (by simp) dispB⟩
  · have b := before .supervisor
    have first : 0 < othersWith s q .supervisor := List.length_pos_of_mem (a := (0 : Port))
      (List.mem_filter.2 ⟨mem_allPorts 0, by simpa [zero] using fun e => station e.symm⟩)
    rw [after, if_neg notSupervisor]
    omega
  · have b := before .head
    rw [after .head]
    split
    · rename_i e
      have := head e
      omega
    · omega

theorem Laws.setRoles (h : Laws m s) (settled : ¬ m.lineAhead) (line : s.line = .setup) {roles : Vector RoleEntry 8}
    (law : RoleLaw { s with roles := roles }) (levels : ∀ q : Port, roles[q].level ≤ 3) : Laws m { s with roles := roles } := by
  have idle : LineIdle m s := ⟨settled, by rw [line]; decide⟩
  have noEntry := h.onlyInRun idle
  have noWaiter := fun l => (h.gates l).onlyInRun idle
  have noPairing := h.setup settled line
  exact { h with
    roles := law
    levels := levels
    entries := fun e me => by rw [show s.waitList = [] from noEntry] at me; cases me
    gates := fun l => { h.gates l with
      waiter := fun w (mw : w ∈ (s.gate l).waiter) => by rw [noWaiter l] at mw; cases mw }
    pairings := fun pr mpr => by rw [show s.pairings = [] from noPairing] at mpr; cases mpr }

theorem Laws.clearOrphans (h : Laws m s) (l : Lane) : Laws m (Machine.clearOrphans l s) :=
  h.setGate_held rfl rfl (h.gates l).bound (Nat.zero_le _)

theorem Laws.resetOrphans (h : Laws m s) (before after : Role) : Laws m (Machine.resetOrphans before after s) := by
  have one : ∀ l u, Laws m u → Laws m (if before = .dispenser l ∨ after = .dispenser l then Machine.clearOrphans l u else u) :=
    fun l u k => by
      split
      · exact k.clearOrphans l
      · exact k
  unfold Machine.resetOrphans
  simpa using one .B _ (one .A s h)

theorem Laws.assignRole (h : Laws m s) (settled : ¬ m.lineAhead) (line : s.line = .setup) {q : Port} (station : q ≠ 0) {r : Role}
    (notSupervisor : r ≠ .supervisor) (head : r = .head → othersWith s q .head < Config.maxHeads)
    (sole : r ≠ .head → r ≠ .unassigned → othersWith s q r = 0) {level : Nat} (low : level ≤ 3) :
    Laws m (Machine.assignRole q r level s) := by
  have own : State.role { s with roles := s.roles.set q.val ⟨r, level⟩ q.isLt } q = r := by simp [State.role]
  have others : ∀ x, x ≠ q → State.role { s with roles := s.roles.set q.val ⟨r, level⟩ q.isLt } x = s.role x := fun x ne => by
    have ne' : q.val ≠ x.val := fun e => ne (Fin.ext e.symm)
    simp [State.role, ne']
  have law : RoleLaw { s with roles := s.roles.set q.val ⟨r, level⟩ q.isLt } :=
    RoleLaw.assign h.roles station others (by rw [own]; exact notSupervisor) (by rw [own]; exact head) (by rw [own]; exact sole)
  have assigned := h.setRoles settled line law fun x => by
    by_cases e : x = q
    · subst e; simpa using low
    · have ne' : q.val ≠ x.val := fun c => e (Fin.ext c.symm)
      simpa [ne'] using h.levels x
  exact (assigned.notices (only_setNotice _ q _)).resetOrphans _ _

theorem assignableRole_ne_supervisor {o : Octet} {r : Role} (h : assignableRole o = some r) : r ≠ .supervisor := by
  unfold assignableRole at h
  repeat' split at h
  all_goals cases h
  all_goals simp

theorem Laws.serveRole (h : Laws m s) (serving : m.serving p) (settled : ¬ m.lineAhead) (body : List Octet) :
    Laws m (Machine.serveRole p body s) := by
  unfold Machine.serveRole
  dsimp only
  split
  · rename_i q r port role
    have station := stationPort_ne_zero port
    have notSupervisor := assignableRole_ne_supervisor role
    have low : min (u8 body 2).toNat 3 ≤ 3 := Nat.min_le_right _ _
    split
    · exact h.answer serving _
    · split
      · exact h.answer serving _
      · rename_i line
        replace line : s.line = .setup := not_not.1 line
        split
        · rename_i isHead
          split
          · exact h.answer serving _
          · rename_i few
            exact (h.assignRole settled line station notSupervisor (fun _ => Nat.lt_of_not_le few) (fun n => absurd isHead n)
              low).answer serving _
        · rename_i notHead
          split
          · rename_i none
            exact (h.assignRole settled line station notSupervisor (fun e => absurd e notHead) (fun _ n => absurd none n)
              low).answer serving _
          · split
            · exact h.answer serving _
            · rename_i sole
              refine (h.assignRole settled line station notSupervisor (fun e => absurd e notHead) (fun _ _ => ?_)
                low).answer serving _
              have empty : allPorts.filter (fun x => x != q && s.role x == r) = [] :=
                List.filter_eq_nil_iff.2 fun x mx => List.find?_eq_none.1 sole x mx
              rw [othersWith, empty]
              rfl
  · exact h.answer serving _

/-! ## Products (R21, R22) -/

theorem Laws.setProduct (h : Laws m s) {c : ProductCode} {new : Product} (range : new.inRange = true)
    (unused : ∀ l, ∀ st ∈ (s.lane l).strips, st.product ≠ c) :
    Laws m { s with products := s.products.set c.val (some new) c.isLt } := by
  have entry : ∀ d : ProductCode, d ≠ c → (s.products.set c.val (some new) c.isLt)[d] = s.products[d] := fun d ne => by
    have ne' : c.val ≠ d.val := fun e => ne (Fin.ext e.symm)
    simp [ne']
  have same : ∀ l, ∀ st ∈ (s.lane l).strips,
      State.product { s with products := s.products.set c.val (some new) c.isLt } st.product = s.product st.product :=
    fun l st mst => by simp only [State.product, entry st.product (unused l st mst)]
  exact { h with
    products := fun d pr mpr => by
      by_cases e : d = c
      · subst e
        have eq : new = pr := by simpa using mpr
        exact eq ▸ range
      · exact h.products d pr (by simpa [entry d e] using mpr)
    lanes := fun l => { h.lanes l with
      queue := by
        obtain ⟨four, slots, sizes, arrivals⟩ := (h.lanes l).queue
        exact ⟨four, slots, fun st mst => by rw [entry _ (unused l st mst)]; exact sizes st mst, arrivals⟩ }
    sites := fun l st mst i x at_ => by
      have law := h.sites l st mst i x at_
      have eq := same l st mst
      exact ⟨by rw [eq]; exact law.bondAge, by rw [eq]; exact law.bondGrade, law.assigned, law.paired,
        by rw [eq]; exact law.wet⟩
    pairings := fun pr mpr =>
      { h.pairings pr mpr with
        sited := by
          obtain ⟨st, mst, arrival, id, w, at_, early, grade⟩ := (h.pairings pr mpr).sited
          have eq := same pr.lane st mst
          exact ⟨st, mst, arrival, id, w, at_, by rw [eq]; exact early, by rw [eq]; exact grade⟩ } }

theorem Laws.serveProduct (h : Laws m s) (serving : m.serving p) (body : List Octet) :
    Laws m (Machine.serveProduct p body s) := by
  unfold Machine.serveProduct
  split
  · exact h.answer serving _
  · rename_i c _
    split
    · exact h.answer serving _
    · rename_i range
      split
      · exact h.answer serving _
      · rename_i unused
        have away : ∀ l, ∀ st ∈ (s.lane l).strips, st.product ≠ c := fun l st mst e => by
          simp only [State.codeQueued, Bool.or_eq_true, List.any_eq_true, beq_iff_eq, not_or, not_exists, not_and] at unused
          cases l
          · exact unused.1 st mst e
          · exact unused.2 st mst e
        exact (h.setProduct (by simpa using range) away).answer serving _

/-! ## Lanes (R23 to R27) -/

theorem laneOf_B {o : Octet} {l : Lane} (h : s.laneOf o = some l) (b : l = .B) : s.dualLane = true := by
  unfold State.laneOf at h
  split at h
  · split at h
    · assumption
    · cases h
  · rename_i other
    subst b
    exact absurd h other

theorem Laws.serveLane (h : Laws m s) (serving : m.serving p) (body : List Octet) : Laws m (Machine.serveLane p body s) := by
  unfold Machine.serveLane
  dsimp only
  split
  · exact h.answer serving _
  · rename_i l _
    split
    · exact h.answer serving _
    · rename_i range
      split
      · exact h.answer serving _
      · rename_i empty
        replace empty : (s.lane l).strips = [] := not_not.1 empty
        have lane := h.lanes l
        simp only [Bool.not_eq_true, Bool.not_eq_false', Bool.and_eq_true, decide_eq_true_eq] at range
        obtain ⟨⟨⟨low, high⟩, least⟩, most⟩ := range
        have dry : (s.lane l).wetAhead = 0 := by
          rw [lane.counts.1, wetSites, empty]
          rfl
        have parameters : LaneOk s.products
            { s.lane l with wetLimit := (u8 body 1).toNat, dotDeadlineMs := (u16 body 2).toNat } :=
          ⟨⟨low, high, least, most, lane.queue.1⟩, lane.counts, lane.queue, dry.le.trans (Nat.zero_le _)⟩
        exact Laws.answer (h.setLane parameters (fun _ _ => empty) (fun _ => empty) (h.sites l) (h.gates l).dotted
          fun pr mpr e => e ▸ (h.pairings pr mpr).sited) serving _

theorem freeSlot_spec {strips : List Strip} {k : Fin 4} (h : freeSlot strips = some k) : ∀ st ∈ strips, st.slot ≠ k := by
  have all := List.find?_some h
  simpa using all

/-- R26: a new strip's sites are EMPTY or SKIPPED. -/
theorem newSites_bare {count : Nat} {bad : List Octet} {x : Site} (h : x ∈ newSites count bad) : Bare x ∧ x.countsWet = false := by
  obtain ⟨i, _, rfl⟩ := List.mem_map.1 h
  split <;> simp [Bare, Site.bond, pairedUnder, Site.countsWet]

theorem countSites_newSites (count : Nat) (bad : List Octet) : countSites Site.countsWet (newSites count bad) = 0 := by
  rw [countSites, List.length_eq_zero_iff, List.filter_eq_nil_iff]
  intro x mx
  simp [(newSites_bare mx).2]

theorem Laws.enterStrip (h : Laws m s) {l : Lane} (live : s.resetAsserted = false) (dual : l = .B → s.dualLane = true)
    (room : (s.lane l).strips.length < Config.maxStrips) {id : Tag} {c : ProductCode} {slot : Fin 4} {bad : List Octet}
    (free : freeSlot (s.lane l).strips = some slot) (defined : (s.products[c]).isSome = true) :
    Laws m (Machine.enterStrip l (newStrip s l id c slot bad) s) := by
  have lane := h.lanes l
  obtain ⟨low, high, least, most, _⟩ := lane.ranges
  obtain ⟨wet, unsettled⟩ := lane.counts
  obtain ⟨four, slots, sizes, arrivals⟩ := lane.queue
  obtain ⟨pr, entry⟩ := Option.isSome_iff_exists.1 defined
  have mem : ∀ {y}, y ∈ (s.lane l).strips → y ∈ (s.lane l).strips ++ [newStrip s l id c slot bad] := fun my =>
    List.mem_append_left _ my
  have longer : ((s.lane l).strips ++ [newStrip s l id c slot bad]).length ≤ Config.maxStrips := by
    rw [List.length_append, List.length_singleton]
    exact room
  have each : ∀ {f : Strip → Prop}, (∀ y ∈ (s.lane l).strips, f y) → f (newStrip s l id c slot bad) →
      ∀ y ∈ (s.lane l).strips ++ [newStrip s l id c slot bad], f y := fun old new y my => by
    rcases List.mem_append.1 my with my | my
    · exact old y my
    · exact List.mem_singleton.1 my ▸ new
  refine h.setLane ⟨⟨low, high, least, most, longer⟩, ⟨?_, each unsettled rfl⟩, ⟨longer, ?_, each sizes ?_, ?_⟩, lane.wet⟩
    (fun d e => ?_) (fun r => ?_) (each (h.sites l) fun i x at_ => ?_) (fun a ma => ?_) fun q mq e => ?_
  · show (s.lane l).wetAhead = wetSites _
    simp only [wetSites, List.map_append, List.map_singleton, List.sum_append, List.sum_singleton]
    rw [show countSites Site.countsWet (newStrip s l id c slot bad).sites = 0 from countSites_newSites _ _, Nat.add_zero]
    exact wet
  · rw [List.map_append, List.map_singleton, List.nodup_append_comm]
    refine List.nodup_cons.2 ⟨fun mem => ?_, slots⟩
    obtain ⟨y, my, eq⟩ := List.mem_map.1 mem
    exact freeSlot_spec free y my eq
  · refine ⟨pr, entry, ?_⟩
    show (newSites _ _).length = _
    rw [newSites, List.length_map, List.length_range, product_of_some (c := c) entry]
  · exact Numbered.append (number := fun st : Strip => st.arrival) arrivals rfl
  · rw [dual e] at d; cases d
  · rw [live] at r; cases r
  · exact (newSites_bare (List.mem_of_getElem? at_)).1.law l _ i
  · obtain ⟨y, my, rest⟩ := (h.gates l).dotted a ma
    exact ⟨y, mem my, rest⟩
  · subst e
    obtain ⟨y, my, rest⟩ := (h.pairings q mq).sited
    exact ⟨y, mem my, rest⟩

theorem Laws.serveStripIn (h : Laws m s) (serving : m.serving p) (live : s.resetAsserted = false) (body : List Octet) :
    Laws m (Machine.serveStripIn p body s) := by
  unfold Machine.serveStripIn
  split
  · exact h.answer serving _
  · rename_i l lane
    split
    · exact h.answer serving _
    · rename_i room
      split
      · rename_i c slot _ free
        split
        · exact h.answer serving _
        · rename_i defined
          have entered := h.enterStrip (id := u32 body 1) (c := c) (bad := badSitesOfBody body) live (laneOf_B lane)
            (Nat.lt_of_not_le room) free (by
              rw [Bool.or_eq_true, not_or] at defined
              simpa [Option.isSome_iff_ne_none] using defined.1)
          exact ((entered.notices (only_settlementCheck l _ _)).reexamine l).answer serving _
      · exact h.answer serving _

/-! ## Reach (R79) -/

theorem Laws.serveReach (h : Laws m s) (serving : m.serving p) (body : List Octet) : Laws m (Machine.serveReach p body s) := by
  unfold Machine.serveReach
  split
  · split
    · exact h.answer serving _
    · rename_i q r _ _ _
      have set : Laws m { s with reach := s.reach.set q.val r q.isLt } :=
        h.quiet (by simp [OnlyChanges, Part.list, Part.same])
      refine Laws.answer ?_ serving _
      split
      · exact set.arbiterPass
      · exact set
  · exact h.answer serving _

/-! ## The trace (R121, R124) -/

theorem Laws.dropRecords (h : Laws m s) (n : Nat) : Laws m (Machine.dropRecords n s) := by
  refine Laws.notices (only_reevalTraceLevel _) { h with room := ⟨h.room.1, ?_⟩, order := Numbered.drop h.order n }
  have := h.room.2
  have : (s.trace.records.drop n).length ≤ s.trace.records.length := by rw [List.length_drop]; exact Nat.sub_le _ _
  show (s.trace.records.drop n).length + s.trace.reservations ≤ _
  omega

theorem Laws.serveTraceRead (h : Laws m s) (serving : m.serving p) (body : List Octet) :
    Laws m (Machine.serveTraceRead p body s) := by
  unfold Machine.serveTraceRead
  dsimp only
  refine Laws.answer ?_ serving _
  split
  · exact h.dropRecords _
  · exact (h.dropRecords _).arbiterPass

theorem Laws.serveTraceLevel (h : Laws m s) (serving : m.serving p) (body : List Octet) :
    Laws m (Machine.serveTraceLevel p body s) := by
  have : Config.traceCapacity = 512 := rfl
  refine Laws.answer (Laws.notices (only_reevalTraceLevel _) ?_) serving _
  exact { h with threshold := ⟨by show 1 ≤ min _ _; omega, by show min _ _ ≤ _; omega⟩ }

/-! ## Notices (R66, R144 to R146) -/

theorem Laws.takeHandOn (h : Laws m s) (x : Notice) (r : Role) : Laws m (Machine.takeHandOn x r s) := by
  unfold Machine.takeHandOn
  split
  · exact h.clearOrphans _
  · exact h

theorem Laws.serveNoticeTake (h : Laws m s) (serving : m.serving p) (body : List Octet) :
    Laws m (Machine.serveNoticeTake p body s) := by
  unfold Machine.serveNoticeTake
  split
  · exact h.answer serving _
  · split
    · exact h.answer serving _
    · exact ((h.notices (only_setNotice s p _)).takeHandOn _ _).answer serving _

theorem Laws.serveNoticeEnd (h : Laws m s) (serving : m.serving p) (body : List Octet) :
    Laws m (Machine.serveNoticeEnd p body s) := by
  unfold Machine.serveNoticeEnd
  split
  · exact h.answer serving _
  · split
    · exact h.answer serving _
    · rename_i k _ _ _ _
      have finished := h.notices (only_setNotice s p ((s.notice p).finish k))
      refine Laws.answer ?_ serving _
      split
      · exact finished.notices (only_reevalTraceLevel _)
      · exact finished

theorem Laws.serveNoticeMask (h : Laws m s) (serving : m.serving p) (body : List Octet) :
    Laws m (Machine.serveNoticeMask p body s) := (h.notices (only_setNotice s p _)).answer serving _

end Sys2Proof.Proofs
end

section
/-! PROOFS. The gate inputs, the line state, the line clear and the departure of a strip keep the laws (R35, R36, R63 to R66,
R102, R114, R115, R129 to R133, R137). -/

namespace Sys2Proof.Proofs

open Sys2Proof Sys2Proof.Machine Sys2Proof.Safety

variable {m : Mode} {s t : State} {p : Port}

/-! ## Gate inputs (R63 to R66) -/

@[simp] theorem assignment_sample (g : GateMonitor) : g.sample.assignment = g.assignment := by
  unfold GateMonitor.sample; split <;> rfl

@[simp] theorem waiter_sample (g : GateMonitor) : g.sample.waiter = g.waiter := by unfold GateMonitor.sample; split <;> rfl

@[simp] theorem orphans_sample (g : GateMonitor) : g.sample.orphans = g.orphans := by unfold GateMonitor.sample; split <;> rfl

@[simp] theorem measurement_sample (g : GateMonitor) : g.sample.measurement = g.measurement := by
  unfold GateMonitor.sample; split <;> rfl

theorem Laws.gateRises (h : Laws m s) (l : Lane) : Laws m (Machine.gateRises l s) := by
  unfold Machine.gateRises
  dsimp only
  split
  · exact h
  · split
    · exact h.setGate_held rfl rfl (h.gates l).bound (h.gates l).orphans
    · exact h.setGate_held (by simp) (by simp) (fun e => nomatch e) (by simpa using (h.gates l).orphans)

theorem Laws.pulseBegins (h : Laws m s) (l : Lane) : Laws m (Machine.pulseBegins l s) := by
  unfold Machine.pulseBegins
  split
  · exact h.setGate_held rfl rfl id (h.gates l).orphans
  · exact h

theorem Laws.countOrphan (h : Laws m s) (l : Lane) : Laws m (Machine.countOrphan l s) :=
  (h.setGate_held (g := { s.gate l with orphans := min Config.maxOctetCount ((s.gate l).orphans + 1) }) rfl rfl (h.gates l).bound
    (Nat.min_le_left _ _)).notices (only_raiseTo _ _ _)

theorem Laws.judgeDot (h : Laws m s) {l : Lane} {a : Assignment} (assigned : (s.gate l).assignment = some a)
    (unbound : (s.gate l).measurement.isBound = false) (width : Nat) : Laws m (Machine.judgeDot l a width s) := by
  have ended := fun (x : Site) law => h.endAssignment assigned (g := { s.gate l with assignment := none }) rfl rfl unbound rfl
    (x := x) law
  unfold Machine.judgeDot
  dsimp only
  split
  · refine (ended (.wetted s.clock) fun st => siteLaw_wetted ?_).arbiterPass
    have : Config.maxLeaseTicks = 600000 := rfl
    show elapsed s.clock s.clock < _
    rw [elapsed_self]
    omega
  · refine Laws.notices (only_raiseTo _ _ _) ((ended .badDot fun st => Bare.law ?_ l st _).handOnSettled _ _)
    simp [Bare, Site.bond, pairedUnder]

theorem Laws.completePulse (h : Laws m s) {l : Lane} (unbound : (s.gate l).measurement.isBound = false) (width : Nat)
    (bound : Bool) : Laws m (Machine.completePulse l width bound s) := by
  unfold Machine.completePulse
  split
  · rename_i a assigned
    exact h.judgeDot assigned unbound width
  · exact h.countOrphan l

theorem Laws.pulseSaturates (h : Laws m s) (l : Lane) : Laws m (Machine.pulseSaturates l s) := by
  unfold Machine.pulseSaturates
  split
  · exact (h.setGate_held (g := { s.gate l with measurement := .idle, ready := false }) rfl rfl (fun e => nomatch e)
      (h.gates l).orphans).completePulse (by simp [Measurement.isBound]) _ _
  · exact h

theorem Laws.gateFalls (h : Laws m s) (l : Lane) (width : Nat) : Laws m (Machine.gateFalls l width s) := by
  unfold Machine.gateFalls
  dsimp only
  split
  · exact h
  · split
    · exact h.setGate_held rfl rfl (h.gates l).bound (h.gates l).orphans
    · have fallen := h.setGate_held (l := l) (g := { s.gate l with gateActive := false, measurement := .idle, ready := true })
        rfl rfl (fun e => nomatch e) (h.gates l).orphans
      split
      · split
        · exact fallen
        · exact fallen.completePulse (by simp [Measurement.isBound]) _ _
      · exact fallen

/-! ## The line state (R114, R129 to R133) -/

/-- The mode in which the line state has moved, and what it asks for has not followed yet. -/
def Mode.ahead (m : Mode) : Mode := { m with lineAhead := True }

theorem Laws.moveLine (h : Laws m s) (x : LineState) : Laws m.ahead { s with line := x } :=
  { h with
    onlyInRun := fun r => absurd trivial r.1
    setup := fun n => absurd trivial n
    gates := fun l => { h.gates l with onlyInRun := fun r => absurd trivial r.1 } }

theorem Laws.lineSettled (h : Laws m.ahead s) (entries : s.line ≠ .run → s.waitList = [])
    (waiters : s.line ≠ .run → ∀ l, (s.gate l).waiter = none) (pairings : s.line = .setup → s.pairings = []) : Laws m s :=
  { h with
    onlyInRun := fun r => entries r.2
    setup := fun _ => pairings
    gates := fun l => { h.gates l with onlyInRun := fun r => waiters r.2 l } }

theorem gate_answerWaiter (l k : Lane) (r : Response) (s : State) :
    (answerWaiter l r s).gate k = if k = l then { s.gate l with waiter := none } else s.gate k := by
  unfold answerWaiter
  split
  · rename_i none
    split
    · rename_i e
      subst e
      rw [← none]
    · rfl
  · rename_i w _
    have gates := (only_reply w.port r (s.setGate l { s.gate l with waiter := none })).gates_eq (by simp)
    rw [State.gate, gates]
    split
    · rename_i e; subst e; exact State.gate_setGate_self _ _ _
    · rename_i e; exact State.gate_setGate_of_ne _ _ e

theorem Laws.stopLine (h : Laws m s) (p : Port) : Laws m (Machine.stopLine p s) := by
  have moved := ((h.moveLine .paused).answerAllEntries .paused)
  have dots := (moved.answerWaiter .A (resp .paused [])).answerWaiter .B (resp .paused [])
  have o : ∀ u, OnlyChanges [.gates, .ports] u (Machine.answerWaiter .B (resp .paused []) (Machine.answerWaiter .A (resp .paused []) u)) := fun u =>
    (only_answerWaiter .A _ u).trans (only_answerWaiter .B _ _)
  have paused : (Machine.answerWaiter .B (resp .paused []) (Machine.answerWaiter .A (resp .paused [])
      (Machine.answerAllEntries .paused { s with line := .paused }))).line = .paused :=
    ((o _).line_eq (by simp)).trans ((only_answerAllEntries _ _).line_eq (by simp))
  have stopped := dots.lineSettled (fun _ => (o _).waitList_eq (by simp))
    (fun _ l => by
      rw [gate_answerWaiter]
      cases l
      · rw [if_neg (by decide), gate_answerWaiter, if_pos rfl]
      · rw [if_pos rfl])
    (fun e => by rw [paused] at e; cases e)
  have raised := stopped.notices (only_raiseLineState .pause _)
  unfold Machine.stopLine
  dsimp only
  split
  · exact raised
  · exact raised.notices (only_raiseAt _ _ _)

theorem Laws.servePause (h : Laws m s) (serving : m.serving p) (body : List Octet) : Laws m (Machine.servePause p body s) := by
  unfold Machine.servePause
  refine Laws.answer ?_ serving _
  split
  · exact h.stopLine p
  · exact h

theorem Laws.runLine (h : Laws m s) : Laws m { s with line := .run } :=
  { h with
    onlyInRun := fun r => absurd rfl r.2
    setup := fun _ e => nomatch e
    gates := fun l => { h.gates l with onlyInRun := fun r => absurd rfl r.2 } }

theorem Laws.serveStart (h : Laws m s) (serving : m.serving p) (body : List Octet) : Laws m (Machine.serveStart p body s) := by
  unfold Machine.serveStart
  split
  · exact h.answer serving _
  · split
    · exact h.answer serving _
    · exact (h.runLine.notices (only_raiseLineState _ _)).arbiterPass.answer serving _

theorem Laws.serveResume (h : Laws m s) (serving : m.serving p) (body : List Octet) : Laws m (Machine.serveResume p body s) := by
  unfold Machine.serveResume
  split
  · exact h.answer serving _
  · exact (((h.runLine.notices (only_raiseLineState _ _)).arbiterPass.reexamine _).reexamine _).answer serving _

theorem Laws.serveLineEnd (h : Laws m s) (serving : m.serving p) (settled : ¬ m.lineAhead) (body : List Octet) :
    Laws m (Machine.serveLineEnd p body s) := by
  unfold Machine.serveLineEnd
  split
  · exact h.answer serving _
  · rename_i paused
    replace paused : s.line = .paused := not_not.1 paused
    split
    · exact h.answer serving _
    · rename_i clear
      have idle : LineIdle m s := ⟨settled, by rw [paused]; decide⟩
      simp only [Bool.or_eq_true, decide_eq_true_eq, not_or, ne_eq, not_not] at clear
      obtain ⟨⟨none, _⟩, _⟩ := clear
      exact (((h.moveLine .setup).lineSettled (fun _ => h.onlyInRun idle) (fun _ l => (h.gates l).onlyInRun idle)
        fun _ => none).notices (only_raiseLineState _ _)).answer serving _

/-! ## The line clear (R137) -/

/-- Every site is left open. -/
def anySite : Lane → BitVec 32 → Nat → Prop := fun _ _ _ => True

theorem gate_clearGate (l k : Lane) (s : State) : (clearGate l s).gate k =
    if k = l then { s.gate l with waiter := none, assignment := none, measurement := (s.gate l).measurement.unbind }
    else s.gate k := by
  unfold clearGate dropAssignment
  by_cases e : k = l
  · subst e
    rw [State.gate_setGate_self, gate_answerWaiter, if_pos rfl, if_pos rfl]
  · rw [State.gate_setGate_of_ne _ _ e, gate_answerWaiter, if_neg e, if_neg e]

theorem Laws.clearGate (h : Laws m s) (l : Lane) (open_ : ∀ a i, m.loose l a i) : Laws m (Machine.clearGate l s) :=
  (h.answerWaiter l _).dropAssignment rfl rfl (isBound_unbind _) ((h.answerWaiter l _).gates l).orphans fun _ _ => open_ _ _

theorem Laws.clearLane (h : Laws m s) (l : Lane) (unassigned : (s.gate l).assignment = none) (unpaired : s.pairings = []) :
    Laws m (Machine.clearLane l s) := by
  obtain ⟨low, high, least, most, _⟩ := (h.lanes l).ranges
  refine h.setLane ⟨⟨low, high, least, most, Nat.zero_le _⟩, ⟨rfl, (fun _ n => nomatch n)⟩,
    ⟨Nat.zero_le _, List.nodup_nil, (fun _ n => nomatch n), (fun _ n => nomatch n)⟩, Nat.zero_le _⟩ (fun _ _ => rfl) (fun _ => rfl)
    (fun _ n => nomatch n) (fun a ma => ?_) fun pr mpr => ?_
  · rw [unassigned] at ma; cases ma
  · rw [unpaired] at mpr; cases mpr

theorem Laws.clearBank (h : Laws m s) (b : BankId) : Laws m (Machine.clearBank b s) := by
  unfold Machine.clearBank
  split
  · rename_i loading
    exact h.blankBank (off_of_loading loading)
  · exact h

/-- R137, steps 1 to 3: the held requests are answered and every pairing ends. -/
theorem Laws.pairingsCleared (h : Laws m s) : Laws (m.ahead.loosen anySite) (pairingsCleared s) ∧
    (pairingsCleared s).pairings = [] ∧ (pairingsCleared s).waitList = [] ∧ (pairingsCleared s).line = .setup := by
  have answered := ((h.moveLine .setup).loosen anySite).answerAllEntries .cleared
  have line : (Machine.answerAllEntries .cleared { s with line := .setup }).line = .setup :=
    (only_answerAllEntries _ _).line_eq (by simp)
  obtain ⟨⟨laws, waits, setup⟩, none⟩ := clearPairings_keeps
    (I := fun u => Laws (m.ahead.loosen anySite) u ∧ u.waitList = [] ∧ u.line = .setup)
    (fun u pr prs all k =>
      have o := only_ending pr (Machine.clearEnd pr u) u
      ⟨k.1.clearEnd (pairing_of_cons all) (.inr trivial), (o.waitList_eq (by simp [endingParts])).trans k.2.1,
        (o.line_eq (by simp [endingParts])).trans k.2.2⟩)
    s.pairings (Machine.answerAllEntries .cleared { s with line := .setup })
    ((only_answerAllEntries _ _).pairings_eq (by simp)) ⟨answered, rfl, line⟩
  exact ⟨laws, none, waits, setup⟩

theorem Laws.lanesCleared (h : Laws m s) : Laws m (lanesCleared s) := by
  obtain ⟨laws, unpaired, waits, setup⟩ := h.pairingsCleared
  have gates := (laws.clearGate .A fun _ _ => .inr trivial).clearGate .B fun _ _ => .inr trivial
  have gateParts := (only_clearGate .A (Proofs.pairingsCleared s)).trans (only_clearGate .B _)
  have lanes : ∀ u, OnlyChanges [.lanes] u (Machine.clearLane .B (Machine.clearLane .A u)) := fun u =>
    (only_clearLane .A u).trans (only_clearLane .B _)
  have gate : ∀ l, ((Machine.clearGate .B (Machine.clearGate .A (Proofs.pairingsCleared s))).gate l).assignment = none ∧
      ((Machine.clearGate .B (Machine.clearGate .A (Proofs.pairingsCleared s))).gate l).waiter = none := fun l => by
    rw [gate_clearGate]
    cases l
    · rw [if_neg (by decide), gate_clearGate, if_pos rfl]; exact ⟨rfl, rfl⟩
    · rw [if_pos rfl]; exact ⟨rfl, rfl⟩
  have none := (gateParts.pairings_eq (by simp)).trans unpaired
  have cleared := (gates.clearLane .A (gate .A).1 none).clearLane .B (gate .B).1 none
  have empty : ∀ l, ((Machine.clearLane .B (Machine.clearLane .A
      (Machine.clearGate .B (Machine.clearGate .A (Proofs.pairingsCleared s))))).lane l).strips = [] := fun l => by cases l <;> rfl
  have closed : Laws m.ahead (Proofs.lanesCleared s) := cleared.tighten
    (fun l st mst => by rw [empty l] at mst; cases mst) (fun l st mst => by rw [empty l] at mst; cases mst)
  refine closed.lineSettled (fun _ => ?_) (fun _ l => ?_) fun _ => ?_
  · exact (((lanes _).waitList_eq (by simp)).trans (gateParts.waitList_eq (by simp))).trans waits
  · have same := (lanes (Machine.clearGate .B (Machine.clearGate .A (Proofs.pairingsCleared s)))).gates_eq (by simp)
    show ((Machine.clearLane .B _).gates.get l).waiter = _
    rw [same]
    exact (gate l).2
  · exact ((lanes _).pairings_eq (by simp)).trans none

theorem Laws.serveClear (h : Laws m s) (serving : m.serving p) (body : List Octet) : Laws m (Machine.serveClear p body s) := by
  unfold Machine.serveClear
  rw [lineClear_eq]
  exact (((((h.lanesCleared.clearBank .b0).clearBank .b1).quiet ((only_resetLastPicks _).mono (by simp))).notices
    (only_raiseLineState _ _))).answer serving _

/-! ## The departure of a strip (R35, R36, R102) -/

/-- The sites of one strip. -/
def onStrip (l : Lane) (a : BitVec 32) : Lane → BitVec 32 → Nat → Prop := fun k b _ => k = l ∧ b = a

/-- The pairings of a departing strip are being revoked: its sites are left open, and its lane stands. -/
structure Revoking (m : Mode) (s : State) (l : Lane) (a : BitVec 32) (u : State) : Prop where
  laws : Laws (m.loosen (onStrip l a)) u
  lanes : u.lanes = s.lanes
  fewer : u.pairings.Sublist s.pairings

theorem lanes_endPairing_none (pr : Pairing) {e : PairEnd} (stays : e.site = none) (s : State) :
    (endPairing pr e s).lanes = s.lanes := by
  have o := only_endPairing_sorted pr e s
  rw [stays] at o
  exact o.lanes_eq (by simp)

theorem site_revocationEnd (pr : Pairing) (s : State) : (revocationEnd pr s).site = none := by
  unfold revocationEnd
  split <;> rfl

/-- R102: the pairing of one departing site is revoked. -/
theorem Revoking.revokeSite {l : Lane} {st : Strip} {u : State} (h : Laws m s) (tight : ∀ l a i, ¬ m.loose l a i)
    (mst : st ∈ (s.lane l).strips) (k : Revoking m s l st.arrival u) {x : Site} (mx : x ∈ st.sites) (n : Nat) :
    Revoking m s l st.arrival (Machine.revokeSite x (n, u)).2 ∧ (Machine.revokeSite x (n, u)).2.pairings.Sublist u.pairings ∧
      ∀ t ∈ pairedUnder x, ∀ q ∈ (Machine.revokeSite x (n, u)).2.pairings, q.ticket ≠ t := by
  unfold Machine.revokeSite
  split
  · rename_i w t
    dsimp only
    split
    · rename_i pr named
      have mem := k.fewer.subset (mem_of_pairing named)
      obtain ⟨ticket, older, newer, split, _, erased⟩ := pairing_split named
      obtain ⟨i, at_⟩ := List.getElem?_of_mem mx
      obtain ⟨q, mq, tq, lq, aq, _⟩ := ((h.sites l st mst i _ at_).paired t rfl).resolve_left (tight _ _ _)
      have same : pr = q := List.inj_on_of_nodup_map (List.nodup_append.1 h.tickets).1 mem mq (ticket.trans tq.symm)
      have pairings : (Machine.endPairing pr (revocationEnd pr u) u).pairings = older ++ newer := by
        rw [pairings_endPairing, erased]
      have sub : (older ++ newer).Sublist u.pairings := by rw [split]; exact sublist_middle
      refine ⟨⟨k.laws.revoked named (.inr ⟨same ▸ lq, same ▸ aq⟩),
        (lanes_endPairing_none pr (site_revocationEnd pr u) u).trans k.lanes, ?_⟩, ?_, fun t' mt q mq e => ?_⟩
      · rw [pairings]; exact sub.trans k.fewer
      · rw [pairings]; exact sub
      · cases mt
        rw [pairings] at mq
        have distinct := k.laws.tickets
        rw [split] at distinct
        exact (tickets_split distinct).1 (List.mem_append_left _ (List.mem_map.2 ⟨q, mq, e.trans ticket.symm⟩))
    · rename_i none
      exact ⟨k, .refl _, fun t' mt q mq e => by cases mt; simpa [e] using List.find?_eq_none.1 none q mq⟩
  · rename_i other
    refine ⟨k, .refl _, fun t mt => ?_⟩
    obtain ⟨w, rfl⟩ := pairedUnder_eq_some.1 mt
    exact absurd rfl (other w t)

/-- R36: after the revocations of some departing sites no pairing in flight holds a ticket of theirs. -/
theorem Revoking.fold {l : Lane} {st : Strip} (h : Laws m s) (tight : ∀ l a i, ¬ m.loose l a i)
    (mst : st ∈ (s.lane l).strips) (xs : List Site) (acc : Nat × State) (k : Revoking m s l st.arrival acc.2)
    (mem : ∀ x ∈ xs, x ∈ st.sites) :
    Revoking m s l st.arrival (xs.foldl (fun acc x => Machine.revokeSite x acc) acc).2 ∧
      (xs.foldl (fun acc x => Machine.revokeSite x acc) acc).2.pairings.Sublist acc.2.pairings ∧
      ∀ x ∈ xs, ∀ t ∈ pairedUnder x, ∀ q ∈ (xs.foldl (fun acc x => Machine.revokeSite x acc) acc).2.pairings, q.ticket ≠ t := by
  induction xs generalizing acc with
  | nil => exact ⟨k, .refl _, fun _ n => nomatch n⟩
  | cons x xs ih =>
    obtain ⟨one, fewer, gone⟩ := k.revokeSite h tight mst (mem x List.mem_cons_self) acc.1
    obtain ⟨all, rest, none⟩ := ih (Machine.revokeSite x acc) one fun y my => mem y (List.mem_cons_of_mem _ my)
    refine ⟨all, rest.trans fewer, fun y my t mt q mq => ?_⟩
    rcases List.mem_cons.1 my with rfl | my
    · exact gone t mt q (rest.subset mq)
    · exact none y my t mt q mq

theorem Laws.revokeSites (h : Laws m s) (tight : ∀ l a i, ¬ m.loose l a i) {l : Lane} {st : Strip}
    (mst : st ∈ (s.lane l).strips) : Revoking m s l st.arrival (Machine.revokeSites st.sites s).2 ∧
      ∀ x ∈ st.sites, ∀ t ∈ pairedUnder x, ∀ q ∈ (Machine.revokeSites st.sites s).2.pairings, q.ticket ≠ t := by
  obtain ⟨all, _, gone⟩ := Revoking.fold h tight mst st.sites (0, s) ⟨h.loosen _, rfl, .refl _⟩ fun _ mx => mx
  exact ⟨all, gone⟩

theorem Laws.endDepartingDot {l : Lane} {st : Strip} (h : Laws (m.loosen (onStrip l st.arrival)) s) :
    Laws (m.loosen (onStrip l st.arrival)) (Machine.endDepartingDot l st s) ∧
      ∀ a ∈ ((Machine.endDepartingDot l st s).gate l).assignment, a.arrival ≠ st.arrival := by
  unfold Machine.endDepartingDot
  split
  · rename_i none
    exact ⟨h, fun a ma => by rw [none] at ma; cases ma⟩
  · rename_i a assigned
    split
    · rename_i e
      have dropped : Laws (m.loosen (onStrip l st.arrival)) (Machine.dropAssignment l s) :=
        Laws.dropAssignment h (g := { s.gate l with assignment := none, measurement := (s.gate l).measurement.unbind }) rfl rfl
          (isBound_unbind _) (h.gates l).orphans fun b mb => by
            rw [assigned] at mb; cases mb; exact .inr ⟨rfl, e⟩
      refine ⟨dropped.notices (only_raiseTo _ _ _), fun b mb => ?_⟩
      rw [State.gate, (only_raiseTo _ _ _).gates_eq (by simp)] at mb
      have none : ((Machine.dropAssignment l s).gate l).assignment = none := by simp [Machine.dropAssignment]
      rw [State.gate] at none
      rw [none] at mb
      cases mb
    · rename_i ne
      exact ⟨h, fun b mb => by rw [assigned] at mb; cases mb; exact ne⟩

/-- R35: the oldest strip leaves, its assignment and its pairings ended. -/
theorem Laws.removeOldest {l : Lane} {st : Strip} {rest : List Strip} (h : Laws (m.loosen (onStrip l st.arrival)) s)
    (strips : (s.lane l).strips = st :: rest) (undotted : ∀ a ∈ (s.gate l).assignment, a.arrival ≠ st.arrival)
    (unpaired : ∀ pr ∈ s.pairings, ¬ (pr.lane = l ∧ pr.arrival = st.arrival)) : Laws m (Machine.removeOldest l s) := by
  have lane := h.lanes l
  obtain ⟨low, high, least, most, _⟩ := lane.ranges
  obtain ⟨wet, unsettled⟩ := lane.counts
  obtain ⟨four, slots, sizes, arrivals⟩ := lane.queue
  have distinct := arrivals_nodup lane.queue
  have dry := lane.wet
  have order : Numbered (fun y : Strip => y.arrival) (s.lane l).arrivalCounter (s.lane l).strips := arrivals
  rw [strips] at four slots distinct
  have left : ∀ {y}, y ∈ (s.lane l).strips → y.arrival ≠ st.arrival → y ∈ rest := fun {y} my ne => by
    rw [strips] at my
    exact (List.mem_cons.1 my).resolve_left fun e => ne (e ▸ rfl)
  have mem : ∀ {y}, y ∈ rest → y ∈ (s.lane l).strips := fun my => by rw [strips]; exact List.mem_cons_of_mem _ my
  have count : (s.lane l).wetAhead = countSites Site.countsWet st.sites + wetSites { s.lane l with strips := rest } := by
    rw [wet, wetSites, strips]
    rfl
  have kept : LaneOk s.products
      { s.lane l with strips := rest, wetAhead := (s.lane l).wetAhead - countSites Site.countsWet st.sites } := by
    have fewer : rest.length ≤ Config.maxStrips := (Nat.le_succ _).trans four
    refine ⟨⟨low, high, least, most, fewer⟩, ⟨?_, fun y my => unsettled y (mem my)⟩,
      ⟨fewer, (List.nodup_cons.1 slots).2, fun y my => sizes y (mem my), ?_⟩, (Nat.sub_le _ _).trans dry⟩
    · show _ - _ = wetSites { s.lane l with strips := rest }
      omega
    · have dropped := order.drop 1
      rw [strips] at dropped
      exact dropped
  have eq : Machine.removeOldest l s = s.setLane l
      { s.lane l with strips := rest, wetAhead := (s.lane l).wetAhead - countSites Site.countsWet st.sites } := by
    simp only [Machine.removeOldest, strips]
  have away : ∀ y ∈ rest, y.arrival ≠ st.arrival := fun y my e => (List.nodup_cons.1 distinct).1 (List.mem_map.2 ⟨y, my, e⟩)
  rw [eq]
  have removed := h.setLane kept
    (fun d e => by subst e; have none := h.single d; rw [strips] at none; cases none)
    (fun r => by have none := h.cleared r l; rw [strips] at none; cases none)
    (fun y my => h.sites l y (mem my))
    (fun a ma => by
      obtain ⟨y, my, arrival, more⟩ := (h.gates l).dotted a ma
      exact ⟨y, left my fun e => undotted a ma (arrival.symm.trans e), arrival, more⟩)
    (fun pr mpr e => by
      subst e
      obtain ⟨y, my, arrival, more⟩ := (h.pairings pr mpr).sited
      exact ⟨y, left my fun c => unpaired pr mpr ⟨rfl, arrival.symm.trans c⟩, arrival, more⟩)
  have closed : ∀ k, ∀ y ∈ ((s.setLane l
      { s.lane l with strips := rest, wetAhead := (s.lane l).wetAhead - countSites Site.countsWet st.sites }).lane k).strips,
      ¬ (k = l ∧ y.arrival = st.arrival) := by
    rintro k y my ⟨rfl, e⟩
    rw [State.lane_setLane_self] at my
    exact away y my e
  exact removed.tighten (fun k y my i _ c => absurd c (closed k y my)) (fun k y my i w t _ c => absurd c (closed k y my))

theorem Laws.departStrip (h : Laws m s) (tight : ∀ l a i, ¬ m.loose l a i) {l : Lane} {st : Strip} {rest : List Strip}
    (strips : (s.lane l).strips = st :: rest) : Laws m (Machine.departStrip l st s) := by
  have mst : st ∈ (s.lane l).strips := by rw [strips]; exact List.mem_cons_self
  obtain ⟨revoked, gone⟩ := h.revokeSites tight mst
  obtain ⟨ended, undotted⟩ := revoked.laws.endDepartingDot
  have o := only_endDepartingDot l st (Machine.revokeSites st.sites s).2
  have lane : (Machine.endDepartingDot l st (Machine.revokeSites st.sites s).2).lane l = s.lane l := by
    simp only [State.lane, o.lanes_eq (by simp)]
    exact congrArg (fun x => PerLane.get x l) revoked.lanes
  have removed := ended.removeOldest (lane ▸ strips) undotted fun pr mpr c => by
    obtain ⟨rfl, arrival⟩ := c
    obtain ⟨y, my, ya, _, w, at_, _⟩ := (ended.pairings pr mpr).sited
    rw [lane] at my
    rw [strip_unique (h.lanes pr.lane).queue my mst (ya.trans arrival)] at at_
    have pairings := o.pairings_eq (by simp)
    exact gone _ (List.mem_of_getElem? at_) _ rfl pr (pairings ▸ mpr) rfl
  exact ((removed.reexamine l).notices (only_settlementCheckOldest l _)).arbiterPasses _

theorem Laws.serveStripOut (h : Laws m s) (serving : m.serving p) (tight : ∀ l a i, ¬ m.loose l a i) (body : List Octet) :
    Laws m (Machine.serveStripOut p body s) := by
  unfold Machine.serveStripOut
  split
  · exact h.answer serving _
  · split
    · exact h.answer serving _
    · rename_i strips
      exact (h.departStrip tight strips).answer serving _

end Sys2Proof.Proofs
end

section
/-! PROOFS. Every request that is taken and every event at a port keeps the laws (R56 to R59, R68, R73, R107, R113, R151 to R157). -/

namespace Sys2Proof.Proofs

open Sys2Proof Sys2Proof.Machine Sys2Proof.Safety

variable {m : Mode} {s t : State} {p : Port}

/-! ## PAIR, DOT and DOT_ABORT -/

theorem run_of_not {x : LineState} (setup : x ≠ .setup) (paused : x ≠ .paused) : x = .run := by
  cases x
  · exact absurd rfl setup
  · rfl
  · exact absurd rfl paused

theorem Laws.servePair (h : Laws m s) (role : s.role p = .head) (link : s.link p = .holding .pair) (free : Free s p)
    (idle : ¬ m.serving p) (body : List Octet) : Laws m (Machine.servePair p body s) := by
  unfold Machine.servePair
  split
  · exact h.reply free _
  · split
    · exact h.reply free _
    · rename_i setup
      split
      · exact h.reply free _
      · rename_i paused
        split
        · exact h.reply free _
        · rename_i few
          exact h.placePair (run_of_not setup paused) free
            ⟨role, link, by simp [entryFor], waitTicks_le _, Nat.lt_of_not_le few, idle⟩

theorem lane_eq_some {r : Role} {l : Lane} (h : r.lane = some l) : r = .dispenser l := by
  cases r <;> simp_all [Role.lane]

theorem Laws.serveDot (h : Laws m s) (link : s.link p = .holding .dot) (free : Free s p) (idle : ¬ m.serving p)
    (body : List Octet) : Laws m (Machine.serveDot p body s) := by
  unfold Machine.serveDot
  split
  · exact h
  · rename_i l lane
    split
    · exact h.reply free _
    · rename_i setup
      split
      · exact h.reply free _
      · rename_i paused
        split
        · exact h.reply free _
        · rename_i unassigned
          exact h.tryDot (lane_eq_some lane) link (run_of_not setup paused) unassigned free idle _

theorem Laws.serveDotAbort (h : Laws m s) (serving : m.serving p) (body : List Octet) :
    Laws m (Machine.serveDotAbort p body s) := by
  unfold Machine.serveDotAbort
  split
  · exact h
  · split
    · exact h.answer serving _
    · rename_i a assigned
      split
      · exact h.answer serving _
      · exact (h.takeBackSite assigned).answer serving _

/-! ## Every request -/

theorem Laws.serveKind (h : Laws .normal s) (live : s.resetAsserted = false) {k : Kind} (link : s.link p = .holding k)
    (permits : kindPermits k (s.role p) = true) (free : Free s p) (body : List Octet) : Laws .normal (Machine.serve k p body s) := by
  have settled : ¬ (Mode.normal.serve p).lineAhead := id
  have tight : ∀ l a i, ¬ (Mode.normal.serve p).loose l a i := fun _ _ _ => id
  have serving : (Mode.normal.serve p).serving p := .inr rfl
  have taken : Laws (Mode.normal.serve p) s := h.serve free
  cases k with
  | pair => exact h.servePair (by simpa [kindPermits] using permits) link free id body
  | dot => exact h.serveDot link free id body
  | ident => exact (taken.answer serving _).served
  | clockRead => exact (taken.answer serving _).served
  | lineStatus => exact (taken.answer serving _).served
  | noticeTake => exact (taken.serveNoticeTake serving body).served
  | noticeEnd => exact (taken.serveNoticeEnd serving body).served
  | noticeMask => exact (taken.serveNoticeMask serving body).served
  | pause => exact (taken.servePause serving body).served
  | role => exact (taken.serveRole serving settled body).served
  | product => exact (taken.serveProduct serving body).served
  | lane => exact (taken.serveLane serving body).served
  | reach => exact (taken.serveReach serving body).served
  | start => exact (taken.serveStart serving body).served
  | resume => exact (taken.serveResume serving body).served
  | lineEnd => exact (taken.serveLineEnd serving settled body).served
  | clear => exact (taken.serveClear serving body).served
  | mapOpen => exact (taken.serveMapOpen serving body).served
  | mapRows => exact (taken.serveMapRows serving body).served
  | mapClose => exact (taken.serveMapClose serving body).served
  | mapAbort => exact (taken.serveMapAbort serving body).served
  | dieMark => exact (taken.serveDieMark serving body).served
  | traceRead => exact (taken.serveTraceRead serving body).served
  | traceLevel => exact (taken.serveTraceLevel serving body).served
  | picked => exact (taken.servePicked serving body).served
  | bonded => exact (taken.serveBonded serving body).served
  | pickFail => exact (taken.servePickFail serving body).served
  | discard => exact (taken.serveDiscard serving body).served
  | dotAbort => exact (taken.serveDotAbort serving body).served
  | stripIn => exact (taken.serveStripIn serving live body).served
  | stripOut => exact (taken.serveStripOut serving tight body).served
  | waferIn => exact (taken.serveWaferIn serving body).served
  | waferOut => exact (taken.serveWaferOut serving body).served

/-! ## Frames -/

theorem Laws.free_of_receiving (h : Laws m s) (r : Receiving s p) : Free s p := by
  obtain ⟨_, _, _, link⟩ := r
  exact h.free_of_link (by rw [link]; exact fun e => nomatch e) (by rw [link]; exact fun e => nomatch e)

theorem Laws.answerAtPort (h : Laws m s) (received : Receiving s p) (r : Response) : Laws m (Machine.answerAtPort p r s) := by
  have free := h.free_of_receiving received
  obtain ⟨_, _, _, link⟩ := received
  exact h.setLink free (by rw [link]; exact fun e => nomatch e) (fun e => nomatch e) rfl

theorem Laws.frameCheck (h : Laws .normal s) (live : s.resetAsserted = false) (received : Receiving s p) (k : Kind)
    (body : List Octet) : Laws .normal (Machine.frameCheck k p body (Machine.serve k) s) := by
  have free := h.free_of_receiving received
  refine frameCheck_keeps (fun r => h.answerAtPort received r) fun _ permits => ?_
  obtain ⟨_, _, _, link⟩ := received
  have holds := h.setLink (y := .holding k) free (by rw [link]; exact fun e => nomatch e) (fun e => nomatch e) rfl
  exact holds.serveKind live (by simp [State.link, State.setLink]) permits free body

theorem Laws.keepInHand (h : Laws m s) (p : Port) : Laws m (Machine.keepInHand p s) := by
  unfold Machine.keepInHand
  split
  · rename_i link
    exact h.setLink (h.free_of_link (by rw [link]; exact fun e => nomatch e) (by rw [link]; exact fun e => nomatch e))
      (by rw [link]; exact fun e => nomatch e) (fun e => nomatch e) rfl
  · exact h

theorem Laws.handOverDecided (h : Laws m s) (p : Port) : Laws m (Machine.handOverDecided p s) := by
  unfold Machine.handOverDecided
  split
  · rename_i link
    exact h.setLink (h.free_of_link (by rw [link]; exact fun e => nomatch e) (by rw [link]; exact fun e => nomatch e))
      (by rw [link]; exact fun e => nomatch e) (fun e => nomatch e) rfl
  · exact h

theorem Laws.expireFrame (h : Laws m s) (p : Port) : Laws m (Machine.expireFrame p s) := by
  unfold Machine.expireFrame
  split
  · rename_i octets bits start link
    split
    · exact h.setLink (h.free_of_receiving ⟨octets, bits, start, link⟩) (by rw [link]; exact fun e => nomatch e)
        (fun e => nomatch e) rfl
    · exact h
  · exact h

theorem Laws.handOverAll (h : Laws m s) : Laws m (Machine.handOverAll s) :=
  foldl_keeps (I := Laws m) (f := fun s p => Machine.handOverDecided p s) (fun _ p k => k.handOverDecided p) allPorts h

theorem Laws.bitIn (h : Laws m s) (received : Receiving s p) (octets : List Octet) (bits : List Bool) :
    Laws m (s.setLink p (.receiving octets bits s.clock)) := by
  have free := h.free_of_receiving received
  obtain ⟨_, _, _, link⟩ := received
  exact h.setLink free (by rw [link]; exact fun e => nomatch e) (fun e => nomatch e) (by simp [idleInTime])

theorem Laws.bitOut (h : Laws m s) {k : Option Kind} {r : Response} {n : Nat} {mark : Option GrantMark}
    (link : s.link p = .answering k r n mark) : Laws m (s.setLink p (.answering k r (n + 1) mark)) :=
  h.setLink (h.free_of_link (by rw [link]; exact fun e => nomatch e) (by rw [link]; exact fun e => nomatch e))
    (by rw [link]; exact fun e => nomatch e) (fun e => nomatch e) rfl

/-! ## SEL (R151, R155 to R157, R159) -/

theorem Laws.selFalls (h : Laws m s) (c : s.resetAsserted = true ∨ s.link p ≠ .idle) :
    Laws m (s.setPort p { s.ports[p] with selLow := true }) :=
  h.setPort ⟨fun r => ⟨(fun e => nomatch e), fun idle => absurd idle (c.resolve_left (by rw [r]; exact fun e => nomatch e))⟩,
    (h.ports p).held, (h.ports p).idle⟩ (.inl rfl)

theorem Laws.selFallOpens (h : Laws m s) (live : s.resetAsserted = false) (link : s.link p = .idle) :
    Laws m (s.setPort p { selLow := true, link := .receiving [] [] s.clock }) :=
  h.setPort ⟨fun _ => ⟨(fun e => nomatch e), (fun e => nomatch e)⟩, fun r => (by rw [live] at r; cases r), by simp [idleInTime]⟩
    (.inr (h.free_of_link (by rw [link]; exact fun e => nomatch e) (by rw [link]; exact fun e => nomatch e)))

theorem Laws.selRises (h : Laws m s) (reset : s.resetAsserted = true) :
    Laws m (s.setPort p { s.ports[p] with selLow := false }) :=
  h.setPort ⟨fun r => (by rw [reset] at r; cases r), (h.ports p).held, (h.ports p).idle⟩ (.inl rfl)

/-- R156: the dot waiter of a lane is let go where it is that of the port. -/
def dropHeld (p : Port) (l : Lane) (s : State) : State :=
  match (s.gate l).waiter with
  | some w => if w.port = p then s.setGate l { s.gate l with waiter := none } else s
  | none => s

theorem releaseHeld_eq (p : Port) (s : State) : releaseHeld p s = dropHeld p .B (dropHeld p .A (removeEntry p s)) := rfl

theorem Laws.dropHeld (h : Laws m s) (p : Port) (l : Lane) : Laws m (Proofs.dropHeld p l s) := by
  unfold Proofs.dropHeld
  split
  · split
    · exact h.dropWaiter l
    · exact h
  · exact h

/-- R156: after the release the lane's dot waiter, if any, is of another port; the other lane stands. -/
theorem waiter_dropHeld (p : Port) (l k : Lane) (s : State) : ∀ w ∈ ((dropHeld p l s).gate k).waiter,
    w ∈ (s.gate k).waiter ∧ (k = l → w.port ≠ p) := by
  intro w mw
  unfold dropHeld at mw
  split at mw
  · rename_i v held
    split at mw
    · by_cases e : k = l
      · subst e; rw [State.gate_setGate_self] at mw; cases mw
      · rw [State.gate_setGate_of_ne _ _ e] at mw; exact ⟨mw, fun c => absurd c e⟩
    · rename_i ne
      exact ⟨mw, fun e => by subst e; rw [held] at mw; cases mw; exact ne⟩
  · rename_i none
    exact ⟨mw, fun e => by subst e; rw [none] at mw; cases mw⟩

theorem only_dropHeld (p : Port) (l : Lane) (s : State) : OnlyChanges [.gates] s (dropHeld p l s) := by
  unfold dropHeld
  split
  · split
    · exact only_setGate s l _
    · exact .refl _ s
  · exact .refl _ s

theorem free_releaseHeld (p : Port) (s : State) : Free (releaseHeld p s) p := by
  rw [releaseHeld_eq]
  have waits : (dropHeld p .B (dropHeld p .A (removeEntry p s))).waitList = (removeEntry p s).waitList :=
    ((only_dropHeld p .B _).waitList_eq (by simp)).trans ((only_dropHeld p .A _).waitList_eq (by simp))
  refine ⟨fun e me eq => ?_, fun l w mw => ?_⟩
  · rw [waits] at me
    simpa [eq] using (List.mem_filter.1 me).2
  · obtain ⟨before, other⟩ := waiter_dropHeld p .B l _ w mw
    cases l with
    | A => exact (waiter_dropHeld p .A .A _ w before).2 rfl
    | B => exact other rfl

theorem dropHeld_setPort (p : Port) (l : Lane) (x : PortState) (s : State) :
    dropHeld p l (s.setPort p x) = (dropHeld p l s).setPort p x := by
  have gate : (s.setPort p x).gate l = s.gate l := rfl
  unfold dropHeld
  rw [gate]
  cases (s.gate l).waiter with
  | none => rfl
  | some w => dsimp only; split <;> rfl

theorem releaseHeld_setPort (p : Port) (x : PortState) (s : State) :
    releaseHeld p (s.setPort p x) = (releaseHeld p s).setPort p x := by
  rw [releaseHeld_eq, releaseHeld_eq, ← dropHeld_setPort, ← dropHeld_setPort]
  rfl

theorem setLink_setPort (s : State) (p : Port) (x : PortState) (y : Link) :
    (s.setPort p x).setLink p y = s.setPort p { x with link := y } := by
  simp [State.setLink, State.setPort]

theorem portOk_closed {now : Reading} : PortOk false now { selLow := false, link := .idle } :=
  ⟨fun _ => ⟨fun _ => rfl, fun _ => rfl⟩, (fun r => nomatch r), rfl⟩

theorem Laws.selRiseCloses (h : Laws m s) (live : s.resetAsserted = false) (low : s.ports[p].selLow = true) :
    Laws m (Machine.closeLink p (s.setPort p { s.ports[p] with selLow := false })) := by
  have link : (s.setPort p { s.ports[p] with selLow := false }).link p = s.link p := by simp [State.link]
  have busy : s.link p ≠ .idle := fun e => by
    have high := ((h.ports p).live live).2 e
    rw [low] at high
    cases high
  have closes : ∀ u, (∀ k, s.link p ≠ .holding k) → u = s.setPort p { selLow := false, link := .idle } → Laws m u :=
    fun u other eq => eq ▸ h.setPort (live ▸ portOk_closed) (.inr (h.free_of_link (other _) (other _)))
  have idle := setLink_setPort s p { s.ports[p] with selLow := false } .idle
  unfold Machine.closeLink
  rw [link, idle]
  cases held : s.link p with
  | idle => exact absurd held busy
  | receiving octets bits start => exact closes _ (by rw [held]; exact fun _ e => nomatch e) rfl
  | holding k =>
    dsimp only
    rw [releaseHeld_setPort]
    have released : Laws m (Machine.releaseHeld p s) := by
      rw [releaseHeld_eq]
      exact ((h.removeEntry p).dropHeld p .A).dropHeld p .B
    have reset : (Machine.releaseHeld p s).resetAsserted = false :=
      ((only_releaseHeld p s).resetAsserted_eq (by simp)).trans live
    exact released.setPort (reset ▸ portOk_closed) (.inr (free_releaseHeld p s))
  | decided k r mark => exact (closes _ (by rw [held]; exact fun _ e => nomatch e) rfl).withdraw mark
  | answering k r n mark =>
    have closed := closes _ (by rw [held]; exact fun _ e => nomatch e) rfl
    dsimp only
    split
    · exact closed
    · exact closed.withdraw mark
  | draining => exact closes _ (by rw [held]; exact fun _ e => nomatch e) rfl

end Sys2Proof.Proofs
end

section
/-! PROOFS. The sweep visit keeps the laws, and every age that it leaves at its position is below the open time (R49 to R52). -/

namespace Sys2Proof.Proofs

open Sys2Proof Sys2Proof.Machine Sys2Proof.Safety

variable {m : Mode} {s t : State}

/-! ## Positions (Table 3-4) -/

/-- A position tells its lane, slot and site. -/
theorem position_reads {l : Lane} {slot : Fin 4} {i : Nat} (lt : i < 64) :
    sweepLane (positionOf l slot i) = l ∧ sweepSlot (positionOf l slot i) = slot.val ∧ sweepSite (positionOf l slot i) = i := by
  have := slot.isLt
  unfold sweepLane sweepSlot sweepSite positionOf
  cases l with
  | A =>
    have nat : (BitVec.ofNat 9 (0 + 64 * slot.val + i)).toNat = 64 * slot.val + i := by
      rw [BitVec.toNat_ofNat, Nat.mod_eq_of_lt (by omega)]
      omega
    simp only [nat]
    exact ⟨if_pos (by omega), by omega, by omega⟩
  | B =>
    have nat : (BitVec.ofNat 9 (256 + 64 * slot.val + i)).toNat = 256 + 64 * slot.val + i := by
      rw [BitVec.toNat_ofNat, Nat.mod_eq_of_lt (by omega)]
    simp only [nat]
    exact ⟨if_neg (by omega), by omega, by omega⟩

theorem Laws.site_lt (h : Laws m s) {l : Lane} {st : Strip} (mst : st ∈ (s.lane l).strips) {i : Nat} {x : Site}
    (at_ : st.sites[i]? = some x) : i < 64 := by
  obtain ⟨range, length⟩ := h.product_inRange mst
  obtain ⟨lt, _⟩ := List.getElem?_eq_some_iff.1 at_
  exact (length ▸ lt).trans_le (bounds_of_inRange range).1

/-! ## The visit -/

/-- The mode in which the visit of the present reading is being taken. -/
def Mode.visit (m : Mode) : Mode := { m with visiting := true }

theorem Laws.beginVisit (h : Laws m s) (owed : s.visitOwed = true) : Laws m.visit { s with visitOwed := false } := by
  have since : sinceVisitIn m.visit { s with visitOwed := false } = sinceVisitIn m s := by
    funext pos
    simp [sinceVisitIn, Mode.visit, owed]
  exact { h with
    sites := fun l st mst i x at_ => { h.sites l st mst i x at_ with
      wet := fun w e => by rw [since]; exact (h.sites l st mst i x at_).wet w e } }

/-- The visit has been taken: what is still WETTED at its position is young. -/
theorem Laws.endVisit (h : Laws m.visit s)
    (young : ∀ l, ∀ st ∈ (s.lane l).strips, ∀ i w, st.sites[i]? = some (.wetted w) →
      positionOf l st.slot i = s.sweepPos - 1 → elapsed w s.clock < (s.product st.product).openTicks) : Laws m s :=
  { h with
    sites := fun l st mst i x at_ => { h.sites l st mst i x at_ with
      wet := fun w e => by
        by_cases here : positionOf l st.slot i = s.sweepPos - 1
        · have := young l st mst i w (e ▸ at_) here
          omega
        · have old := (h.sites l st mst i x at_).wet w e
          have since : sinceVisitIn m.visit s (positionOf l st.slot i) = sinceVisitIn m s (positionOf l st.slot i) := by
            rw [sinceVisitIn, sinceVisitIn, if_neg fun c => here c.2, if_neg fun c => here c.2]
          rwa [since] at old } }

/-- What the visited position names: its lane, slot and site. -/
theorem Laws.at_visit (h : Laws m s) {pos : BitVec 9} {l : Lane} {st : Strip} (mst : st ∈ (s.lane l).strips) {i : Nat} {x : Site}
    (at_ : st.sites[i]? = some x) (here : positionOf l st.slot i = pos) :
    sweepLane pos = l ∧ st.slot.val = sweepSlot pos ∧ sweepSite pos = i := by
  obtain ⟨lane, slot, site⟩ := position_reads (l := l) (slot := st.slot) (h.site_lt mst at_)
  subst here
  exact ⟨lane, slot.symm, site⟩

theorem Laws.spoilVisited (h : Laws m.visit s) {st : Strip} (mst : st ∈ (s.lane (sweepLane (s.sweepPos - 1))).strips)
    (slot : st.slot.val = sweepSlot (s.sweepPos - 1)) {w : Reading}
    (at_ : st.sites[sweepSite (s.sweepPos - 1)]? = some (.wetted w)) :
    Laws m (Machine.spoilSite (sweepLane (s.sweepPos - 1)) st (sweepSite (s.sweepPos - 1)) w s) := by
  have changed := h.spoilSite mst at_
  have queue := (h.lanes (sweepLane (s.sweepPos - 1))).queue
  have eq := changeSite_of_mem queue mst at_ (.spoiled w)
  refine Laws.handOnSettled (Laws.notices (only_raiseAt _ _ _) (changed.endVisit fun l y my i v at' here => ?_)) _ _
  have o := only_changeSite (sweepLane (s.sweepPos - 1)) st.arrival (sweepSite (s.sweepPos - 1)) (.spoiled w) s
  rw [o.sweepPos_eq (by simp)] at here
  obtain ⟨rfl, slot', rfl⟩ := changed.at_visit my at' here
  have same : y.arrival = st.arrival := by
    have mine := my
    rw [eq, State.lane_setLane_self] at mine
    obtain ⟨z, mz, rfl⟩ := List.mem_map.1 mine
    rw [stripAfter_slot] at slot'
    rw [stripAfter_arrival, slot_unique queue mz mst (Fin.ext (slot'.trans slot.symm))]
  rw [h.site_changeSite mst at_ _ my same] at at'
  cases at'

theorem Laws.sweepVisit (h : Laws m.visit s) : Laws m (Machine.sweepVisit (s.sweepPos - 1) s) := by
  unfold Machine.sweepVisit
  dsimp only
  split
  · rename_i single
    simp only [Bool.and_eq_true, decide_eq_true_eq, Bool.not_eq_eq_eq_not, Bool.not_true] at single
    refine h.endVisit fun l st mst i w at_ here => ?_
    obtain ⟨lane, _, _⟩ := h.at_visit mst at_ here
    rw [← lane, single.1, h.single single.2] at mst
    cases mst
  · split
    · rename_i none
      refine h.endVisit fun l st mst i w at_ here => ?_
      obtain ⟨rfl, slot, _⟩ := h.at_visit mst at_ here
      exact absurd (List.find?_eq_none.1 none st mst) (by simp [slot])
    · rename_i st found
      have mst := List.mem_of_find?_eq_some found
      have slot : st.slot.val = sweepSlot (s.sweepPos - 1) := by simpa using List.find?_some found
      have only : ∀ l, ∀ y ∈ (s.lane l).strips, ∀ i w, y.sites[i]? = some (.wetted w) → positionOf l y.slot i = s.sweepPos - 1 →
          y = st ∧ i = sweepSite (s.sweepPos - 1) := fun l y my i w at_ here => by
        obtain ⟨rfl, slot', site⟩ := h.at_visit my at_ here
        exact ⟨slot_unique (h.lanes _).queue my mst (Fin.ext (slot'.trans slot.symm)), site.symm⟩
      split
      · rename_i w at_
        split
        · exact h.spoilVisited mst slot at_
        · rename_i early
          refine h.endVisit fun l y my i v at' here => ?_
          obtain ⟨rfl, rfl⟩ := only l y my i v at' here
          rw [at_] at at'
          cases at'
          exact Nat.lt_of_not_le early
      · rename_i other
        refine h.endVisit fun l y my i v at' here => ?_
        obtain ⟨rfl, rfl⟩ := only l y my i v at' here
        exact absurd at' (other v)

theorem Laws.takeVisit (h : Laws m s) : Laws m (Machine.takeVisit s) := by
  unfold Machine.takeVisit
  split
  · rename_i owed
    exact (h.beginVisit owed).sweepVisit
  · exact h

theorem Laws.catchUp (h : Laws m s) : Laws m (Machine.catchUp s) := h.handOverAll.takeVisit

end Sys2Proof.Proofs
end

section
/-! PROOFS. Expiries: each one is taken when it is owed, and nothing that a tick does before the clock moves leaves a timer due
behind it (R45, R60, R67, R101, R112, R152). -/

namespace Sys2Proof.Proofs

open Sys2Proof Sys2Proof.Machine Sys2Proof.Safety

variable {m : Mode} {s t : State}

/-! ## Timers that may be due -/

/-- The timers whose expiry is still owed at a reading. -/
structure Owed where
  frame : Port → Prop
  wait : Port → Prop
  dot : Lane → Prop
  deadline : Lane → Prop
  lease : Ticket → Prop

variable {o : Owed}

/-- Each timer's expiry is owed, or the timer is not due. -/
structure Timely (o : Owed) (s : State) : Prop where
  frames : ∀ p octets bits start, s.link p = .receiving octets bits start →
    o.frame p ∨ elapsed start s.clock < Config.frameIdleTicks
  waits : ∀ e ∈ s.waitList, o.wait e.port ∨ elapsed e.start s.clock < e.length
  dots : ∀ l, ∀ w ∈ (s.gate l).waiter, o.dot l ∨ elapsed w.start s.clock < w.length
  deadlines : ∀ l, ∀ a ∈ (s.gate l).assignment, a.deadlineRuns = true →
    o.deadline l ∨ Config.halfRange ≤ elapsed a.deadline s.clock
  leases : ∀ pr ∈ s.pairings, o.lease pr.ticket ∨ elapsed pr.leaseStart s.clock < pr.leaseLength

theorem timely_congr (clock : t.clock = s.clock) (ports : t.ports = s.ports) (waits : t.waitList = s.waitList)
    (gates : t.gates = s.gates) (pairings : t.pairings = s.pairings) (h : Timely o s) : Timely o t := by
  have link : t.link = s.link := by funext p; simp only [State.link, ports]
  have gate : t.gate = s.gate := by funext l; simp only [State.gate, gates]
  obtain ⟨f, w, d, l, k⟩ := h
  rw [← clock] at f w d l k
  rw [← link] at f
  rw [← waits] at w
  rw [← gate] at d l
  rw [← pairings] at k
  exact ⟨f, w, d, l, k⟩

theorem timely_of_only {parts : List Part} (only : OnlyChanges parts s t)
    (n : ∀ part ∈ [Part.clock, .ports, .waitList, .gates, .pairings], part ∉ parts) (h : Timely o s) : Timely o t :=
  timely_congr (only.clock_eq (n _ (by simp))) (only.ports_eq (n _ (by simp))) (only.waitList_eq (n _ (by simp)))
    (only.gates_eq (n _ (by simp))) (only.pairings_eq (n _ (by simp))) h

/-- A port takes a link state that is no frame being received. -/
theorem Timely.setLink (h : Timely o s) {p : Port} {y : Link} (other : ∀ octets bits start, y ≠ .receiving octets bits start) :
    Timely { o with frame := fun q => o.frame q ∧ q ≠ p } (s.setLink p y) :=
  { h with
    frames := fun q octets bits start link => by
      by_cases e : q = p
      · subst e
        have same : (s.setLink q y).link q = y := by simp [State.link, State.setLink]
        exact absurd (same.symm.trans link) (other octets bits start)
      · have same : (s.setLink p y).link q = s.link q := by simp [State.link, State.setLink, e]
        exact (h.frames q octets bits start (same.symm.trans link)).imp_left fun owed => ⟨owed, e⟩ }

theorem Timely.handOver (h : Timely o s) (p : Port) (r : Response) (k : Option GrantMark) :
    Timely o (Machine.handOver p r k s) := by
  unfold Machine.handOver
  split
  · rename_i kind _
    have taken := h.setLink (p := p) (y := .answering (some kind) r 0 k) (fun _ _ _ e => nomatch e)
    exact { taken with frames := fun q octets bits start link => (taken.frames q octets bits start link).imp_left And.left }
  · exact h

theorem Timely.setGate (h : Timely o s) {l : Lane} {g : GateMonitor}
    (dot : ∀ w ∈ g.waiter, o.dot l ∨ elapsed w.start s.clock < w.length)
    (deadline : ∀ a ∈ g.assignment, a.deadlineRuns = true → o.deadline l ∨ Config.halfRange ≤ elapsed a.deadline s.clock) :
    Timely o (s.setGate l g) :=
  { h with
    dots := fun k w mw => by
      by_cases e : k = l
      · subst e; rw [State.gate_setGate_self] at mw; exact dot w mw
      · rw [State.gate_setGate_of_ne _ _ e] at mw; exact h.dots k w mw
    deadlines := fun k a ma => by
      by_cases e : k = l
      · subst e; rw [State.gate_setGate_self] at ma; exact deadline a ma
      · rw [State.gate_setGate_of_ne _ _ e] at ma; exact h.deadlines k a ma }

theorem Timely.changeSite (h : Timely o s) (l : Lane) (a : BitVec 32) (i : Nat) (x : Site) :
    Timely o (Machine.changeSite l a i x s) := timely_of_only (only_changeSite l a i x s) (by simp) h

/-! ## The hand-on of a site -/

/-- R58: the deadline of a grant lies ahead. -/
theorem deadline_ahead {now : Reading} {ms : Nat} (low : 100 ≤ ms) (high : ms ≤ 10000) :
    Config.halfRange ≤ elapsed (deadlineOf now (ticksOfMs ms)) now := by
  have : Config.halfRange = 2147483648 := rfl
  have ticks : ticksOfMs ms = ms * 10 := rfl
  have nat : (BitVec.ofNat 32 (ticksOfMs ms)).toNat = ms * 10 := by
    rw [BitVec.toNat_ofNat, ticks, Nat.mod_eq_of_lt (by omega)]
  unfold elapsed deadlineOf
  generalize BitVec.ofNat 32 (ticksOfMs ms) = d at nat ⊢
  have back : (now - (now + d)).toNat = 4294967296 - d.toNat := by bv_omega
  omega

theorem Timely.grantDot (h : Timely o s) (l : Lane) (p : Port) (st : Strip) (i : Nat) (range : LaneRangeLaw (s.lane l)) :
    Timely o (Machine.grantDot l p st i s) := by
  have changed := h.changeSite l st.arrival i .dispensing
  have clock : (Machine.changeSite l st.arrival i .dispensing s).clock = s.clock := (only_changeSite _ _ _ _ _).clock_eq (by simp)
  obtain ⟨_, _, low, high, _⟩ := range
  exact (changed.setGate (g := { (Machine.changeSite l st.arrival i .dispensing s).gate l with
      assignment := some (assignmentFor s l st i) }) (changed.dots l) fun a ma _ => .inr (by
    cases ma
    rw [clock]
    exact deadline_ahead low high)).handOver p _ _

theorem Timely.reexamine (h : Timely o s) (l : Lane) (range : LaneRangeLaw (s.lane l)) : Timely o (Machine.reexamine l s) := by
  unfold Machine.reexamine
  split
  · exact h
  · split
    · exact h
    · exact (h.setGate (g := { s.gate l with waiter := none }) (fun _ n => nomatch n) (h.deadlines l)).grantDot _ _ _ _ range

theorem Timely.handOnSettled (h : Timely o s) (l : Lane) (a : BitVec 32) (range : LaneRangeLaw (s.lane l)) :
    Timely o (Machine.handOnSettled l a s) :=
  timely_of_only (only_settlementCheck l a _) (by simp) (h.reexamine l range)

theorem length_updateStrip (a : BitVec 32) (f : Strip → Strip) (strips : List Strip) :
    (updateStrip a f strips).length = strips.length := by
  induction strips with
  | nil => rfl
  | cons st strips ih =>
    unfold updateStrip
    split
    · rfl
    · rw [List.length_cons, List.length_cons, ih]

theorem range_changeSite (l k : Lane) (a : BitVec 32) (i : Nat) (x : Site) (range : LaneRangeLaw (s.lane k)) :
    LaneRangeLaw ((changeSite l a i x s).lane k) := by
  unfold changeSite
  split
  · exact range
  · by_cases e : k = l
    · subst e
      obtain ⟨low, high, least, most, four⟩ := range
      rw [State.lane_setLane_self]
      exact ⟨low, high, least, most, (length_updateStrip _ _ _).trans_le four⟩
    · rw [State.lane_setLane_of_ne _ _ e]
      exact range

theorem Timely.releaseSite (h : Timely o s) (pr : Pairing) (x : Option Site) (range : LaneRangeLaw (s.lane pr.lane)) :
    Timely o (Machine.releaseSite pr x s) := by
  unfold Machine.releaseSite
  split
  · exact h
  · dsimp only
    split
    · exact (h.changeSite _ _ _ _).handOnSettled _ _ (range_changeSite _ _ _ _ _ range)
    · exact h.changeSite _ _ _ _

/-! ## The passes -/

/-- R92: the lease of a grant lies ahead: a product that accepts a die is defined. -/
theorem lease_of_found (products : ProductLaw s) {p : Port} {ch : LaneChoice} {f : Found} (found : select s p ch = .found f) :
    0 < ticksOfMs (s.product f.cand.product).pickLeaseMs := by
  obtain ⟨st, _, _, _, product, _, _, _, grade⟩ := found_spec found
  rw [product]
  cases entry : s.products[st.product] with
  | none => simp [State.product, entry] at grade
  | some pr =>
    rw [product_of_some (c := st.product) entry]
    have := (bounds_of_inRange (products st.product pr entry)).2.2.2.2.1
    unfold ticksOfMs
    omega

theorem Timely.grantPair (h : Timely o s) (p : Port) (f : Found) (k : Ticket)
    (ahead : 0 < ticksOfMs (s.product f.cand.product).pickLeaseMs) : Timely o (Machine.grantPair p f k s) := by
  have claimed : Timely o (claimDie f { s with lastTicket := k }) :=
    timely_of_only (only_claimDie f _) (by simp) (timely_congr (s := s) rfl rfl rfl rfl rfl h)
  have only := (only_claimDie f { s with lastTicket := k }).mono (b := [.banks, .notices, .lanes]) (by simp)
  have sited := only.trans ((only_pairSite f k _).mono (by simp))
  have clock : (pairSite f k (claimDie f { s with lastTicket := k })).clock = s.clock := sited.clock_eq (by simp)
  have pairings : (pairSite f k (claimDie f { s with lastTicket := k })).pairings = s.pairings := sited.pairings_eq (by simp)
  have paired : Timely o (pairSite f k (claimDie f { s with lastTicket := k })) :=
    timely_of_only (only_pairSite f k _) (by simp) claimed
  unfold Machine.grantPair
  refine Timely.handOver ?_ p _ _
  exact { paired with
    waits := fun e me => paired.waits e (List.mem_filter.1 me).1
    leases := fun pr mpr => by
      rcases List.mem_append.1 mpr with old | new
      · exact paired.leases pr old
      · rw [List.mem_singleton.1 new]
        refine .inr ?_
        show elapsed s.clock (pairSite f k (claimDie f { s with lastTicket := k })).clock < _
        rw [clock, elapsed_self]
        exact ahead }

theorem Timely.setObstacle (h : Timely o s) (p : Port) (x : Obstacle) : Timely o (Machine.setObstacle p x s) :=
  { h with
    waits := fun e me => by
      obtain ⟨d, md, rfl⟩ := List.mem_map.1 me
      have law := h.waits d md
      split <;> exact law }

theorem Timely.arbiterPass (h : Timely o s) (products : ProductLaw s) : Timely o (Machine.arbiterPass s) := by
  refine (arbiterPass_keeps (I := fun u => Timely o u ∧ ProductLaw u) (fun e u k => ?_) ⟨h, products⟩).1
  refine ⟨?_, ?_⟩
  · rcases tryEntry_cases e u with ⟨f, t, _, found, _, eq⟩ | ⟨x, eq⟩ | eq <;> rw [eq]
    · exact k.1.grantPair _ f t (lease_of_found k.2 found)
    · exact k.1.setObstacle _ _
    · exact k.1
  · have same : (tryEntry e u).products = u.products := (only_tryEntry e u).products_eq (by simp [passParts])
    rw [ProductLaw, same]
    exact k.2

theorem Timely.arbiterPasses (h : Timely o s) (products : ProductLaw s) (n : Nat) : Timely o (Machine.arbiterPasses n s) :=
  (arbiterPasses_keeps (I := fun u => Timely o u ∧ ProductLaw u)
    (fun u k => ⟨k.1.arbiterPass k.2, by
      rw [ProductLaw, (only_arbiterPass u).products_eq (by simp [passParts])]
      exact k.2⟩) n ⟨h, products⟩).1

/-! ## Each expiry -/

theorem Timely.expireFrame (h : Timely o s) (p : Port) :
    Timely { o with frame := fun q => o.frame q ∧ q ≠ p } (Machine.expireFrame p s) := by
  have early : ∀ u, u = s → (∀ octets bits start, s.link p = .receiving octets bits start →
      elapsed start s.clock < Config.frameIdleTicks) → Timely { o with frame := fun q => o.frame q ∧ q ≠ p } u := by
    rintro u rfl soon
    exact { h with
      frames := fun q octets bits start link => by
        by_cases e : q = p
        · exact .inr (soon octets bits start (e ▸ link))
        · exact (h.frames q octets bits start link).imp_left fun owed => ⟨owed, e⟩ }
  unfold Machine.expireFrame
  split
  · rename_i octets bits start link
    split
    · exact h.setLink fun _ _ _ e => nomatch e
    · rename_i soon
      refine early _ rfl fun _ _ start' link' => ?_
      rw [link] at link'
      cases link'
      simpa [due] using soon
  · rename_i other
    exact early _ rfl fun octets bits start link => absurd link (other octets bits start)

theorem Timely.expirePairWait (h : Timely o s) (laws : Laws m s) (p : Port) :
    Timely { o with wait := fun q => o.wait q ∧ q ≠ p } (Machine.expirePairWait p s) := by
  have early : ∀ u, u = s → (∀ e ∈ s.waitList, e.port = p → elapsed e.start s.clock < e.length) →
      Timely { o with wait := fun q => o.wait q ∧ q ≠ p } u := by
    rintro u rfl soon
    exact { h with
      waits := fun e me => by
        by_cases c : e.port = p
        · exact .inr (soon e me c)
        · exact (h.waits e me).imp_left fun owed => ⟨owed, c⟩ }
  unfold Machine.expirePairWait
  split
  · rename_i none
    exact early _ rfl fun e me port => absurd (List.find?_eq_none.1 none e me) (by simpa using port)
  · rename_i e found
    split
    · unfold Machine.answerEntry
      rw [found]
      refine Timely.handOver ?_ p _ none
      exact { h with
        waits := fun d md => by
          obtain ⟨md, other⟩ := List.mem_filter.1 md
          exact (h.waits d md).imp_left fun owed => ⟨owed, by simpa using other⟩ }
    · rename_i soon
      refine early _ rfl fun d md port => ?_
      have at_ : e.port = p := by simpa using List.find?_some found
      rw [List.inj_on_of_nodup_map laws.distinct md (List.mem_of_find?_eq_some found) (port.trans at_.symm)]
      simpa [due] using soon

theorem Timely.expireDotWait (h : Timely o s) (l : Lane) :
    Timely { o with dot := fun k => o.dot k ∧ k ≠ l } (Machine.expireDotWait l s) := by
  have early : ∀ u, u = s → (∀ w ∈ (s.gate l).waiter, elapsed w.start s.clock < w.length) →
      Timely { o with dot := fun k => o.dot k ∧ k ≠ l } u := by
    rintro u rfl soon
    exact { h with
      dots := fun k w mw => by
        by_cases e : k = l
        · exact .inr (soon w (e ▸ mw))
        · exact (h.dots k w mw).imp_left fun owed => ⟨owed, e⟩ }
  unfold Machine.expireDotWait
  split
  · rename_i none
    exact early _ rfl fun w mw => by rw [none] at mw; cases mw
  · rename_i w held
    split
    · unfold Machine.answerWaiter
      rw [held]
      refine Timely.handOver ?_ w.port _ none
      have let_go := h.setGate (g := { s.gate l with waiter := none }) (fun _ n => nomatch n) (h.deadlines l)
      exact { let_go with
        dots := fun k v mv => by
          by_cases e : k = l
          · subst e; rw [State.gate_setGate_self] at mv; cases mv
          · exact (let_go.dots k v mv).imp_left fun owed => ⟨owed, e⟩ }
    · rename_i soon
      exact early _ rfl fun v mv => by rw [held] at mv; cases mv; simpa [due] using soon

theorem Timely.expireDeadline (h : Timely o s) (l : Lane) :
    Timely { o with deadline := fun k => o.deadline k ∧ k ≠ l } (Machine.expireDeadline l s) := by
  have early : ∀ u, Timely o u → (∀ a ∈ (u.gate l).assignment, a.deadlineRuns = true →
      Config.halfRange ≤ elapsed a.deadline u.clock) → Timely { o with deadline := fun k => o.deadline k ∧ k ≠ l } u :=
    fun u ku soon =>
    { ku with
      deadlines := fun k a ma runs => by
        by_cases e : k = l
        · exact .inr (soon a (e ▸ ma) runs)
        · exact (ku.deadlines k a ma runs).imp_left fun owed => ⟨owed, e⟩ }
  unfold Machine.expireDeadline
  split
  · rename_i none
    exact early s h fun a ma => by rw [none] at ma; cases ma
  · rename_i a assigned
    split
    · split
      · refine early _ (h.setGate (h.dots l) fun b mb runs => ?_) fun b mb runs => ?_
        · cases mb; cases runs
        · rw [State.gate_setGate_self] at mb; cases mb; cases runs
      · refine timely_of_only (only_raiseTo _ _ _) (by simp) ?_
        have changed := h.changeSite l a.arrival a.site .empty
        refine early _ (changed.setGate (changed.dots l) (fun _ n => nomatch n)) fun b mb => ?_
        rw [takeBackSite, dropAssignment, State.gate_setGate_self] at mb
        cases mb
    · rename_i not
      refine early s h fun b mb runs => ?_
      rw [assigned] at mb
      cases mb
      simpa [runs, deadlineReached] using not

theorem Timely.endAndPass (h : Timely o s) (laws : Laws m s) {k : Ticket} {pr : Pairing} (named : s.pairing k = some pr)
    (e : PairEnd) : Timely { o with lease := fun t => o.lease t ∧ t ≠ k } (Machine.endAndPass pr e s) := by
  obtain ⟨ticket, older, newer, split, _, erased⟩ := pairing_split named
  have distinct := laws.tickets
  rw [split] at distinct
  have gone : ∀ q ∈ older ++ newer, q.ticket ≠ k := fun q mq c =>
    (tickets_split distinct).1 (List.mem_append_left _ (List.mem_map.2 ⟨q, mq, c.trans ticket.symm⟩))
  have products : ProductLaw (Machine.endPairing pr e s) := by
    rw [ProductLaw, (only_endPairing pr e s).products_eq (by simp [endParts, passParts])]
    exact laws.products
  refine Timely.arbiterPasses (timely_of_only (only_endPairing_sorted pr e s) (by simp) (Timely.releaseSite ?_ pr e.site
    (laws.lanes pr.lane).ranges)) products _
  exact { h with
    leases := fun q mq => by
      have mq' : q ∈ older ++ newer := erased ▸ mq
      have mem : q ∈ s.pairings := by rw [split]; exact mem_middle.2 (.inr mq')
      exact (h.leases q mem).imp_left fun owed => ⟨owed, gone q mq'⟩ }

theorem Timely.expireLease (h : Timely o s) (laws : Laws m s) (k : Ticket) :
    Timely { o with lease := fun t => o.lease t ∧ t ≠ k } (Machine.expireLease k s) := by
  have early : ∀ u, u = s → (∀ q ∈ s.pairings, q.ticket = k → elapsed q.leaseStart s.clock < q.leaseLength) →
      Timely { o with lease := fun t => o.lease t ∧ t ≠ k } u := by
    rintro u rfl soon
    exact { h with
      leases := fun q mq => by
        by_cases c : q.ticket = k
        · exact .inr (soon q mq c)
        · exact (h.leases q mq).imp_left fun owed => ⟨owed, c⟩ }
  unfold Machine.expireLease
  split
  · rename_i none
    exact early _ rfl fun q mq ticket => absurd (List.find?_eq_none.1 none q mq) (by simpa using ticket)
  · rename_i pr named
    split
    · exact h.endAndPass laws named _
    · rename_i soon
      refine early _ rfl fun q mq ticket => ?_
      have own := (pairing_split named).1
      rw [List.inj_on_of_nodup_map (List.nodup_append.1 laws.tickets).1 mq (mem_of_pairing named) (ticket.trans own.symm)]
      simpa [due] using soon

/-! ## All of them -/

theorem expireFrames (ps : List Port) (laws : Laws m s) (h : Timely o s) :
    Laws m (ps.foldl (fun s p => expireFrame p s) s) ∧
      Timely { o with frame := fun q => o.frame q ∧ q ∉ ps } (ps.foldl (fun s p => expireFrame p s) s) := by
  induction ps generalizing s o with
  | nil => exact ⟨laws, by simpa using h⟩
  | cons p ps ih =>
    obtain ⟨kept, timely⟩ := ih (laws.expireFrame p) (h.expireFrame p)
    exact ⟨kept, by simpa [and_assoc] using timely⟩

theorem expirePairWaits (ps : List Port) (laws : Laws m s) (h : Timely o s) :
    Laws m (ps.foldl (fun s p => expirePairWait p s) s) ∧
      Timely { o with wait := fun q => o.wait q ∧ q ∉ ps } (ps.foldl (fun s p => expirePairWait p s) s) := by
  induction ps generalizing s o with
  | nil => exact ⟨laws, by simpa using h⟩
  | cons p ps ih =>
    obtain ⟨kept, timely⟩ := ih (laws.expirePairWait p) (h.expirePairWait laws p)
    exact ⟨kept, by simpa [and_assoc] using timely⟩

theorem expireLeases (ks : List Ticket) (laws : Laws m s) (h : Timely o s) :
    Laws m (ks.foldl (fun s k => expireLease k s) s) ∧
      Timely { o with lease := fun k => o.lease k ∧ k ∉ ks } (ks.foldl (fun s k => expireLease k s) s) := by
  induction ks generalizing s o with
  | nil => exact ⟨laws, by simpa using h⟩
  | cons k ks ih =>
    obtain ⟨kept, timely⟩ := ih (laws.expireLease k) (h.expireLease laws k)
    exact ⟨kept, by simpa [and_assoc] using timely⟩

/-- The leases that can be due are those of the pairings in flight. -/
theorem Timely.listed (h : Timely o s) : Timely { o with lease := fun k => k ∈ s.pairings.map (fun pr => pr.ticket) } s :=
  { h with leases := fun pr mpr => .inl (List.mem_map.2 ⟨pr, mpr, rfl⟩) }

/-- R45: with every expiry taken that can be due, no timer is due. -/
theorem takeExpiries_settles (laws : Laws m s) : Laws m (takeExpiries s) ∧ NoTimerDue (takeExpiries s) := by
  have start : Timely ⟨fun _ => True, fun _ => True, fun _ => True, fun _ => True, fun _ => True⟩ s :=
    ⟨fun _ _ _ _ _ => .inl trivial, fun _ _ => .inl trivial, fun _ _ _ => .inl trivial, fun _ _ _ _ => .inl trivial,
      fun _ _ => .inl trivial⟩
  obtain ⟨framesKept, frames⟩ := expireFrames allPorts laws start
  obtain ⟨waitsKept, waits⟩ := expirePairWaits allPorts framesKept frames
  have timely := (((waits.expireDotWait .A).expireDotWait .B).expireDeadline .A).expireDeadline .B
  have kept := (((waitsKept.expireDotWait .A).expireDotWait .B).expireDeadline .A).expireDeadline .B
  obtain ⟨all, none⟩ := expireLeases _ kept timely.listed
  refine ⟨all, fun p octets bits start link => ?_, fun e me => ?_, fun l _ w mw => ?_, fun l _ a ma runs => ?_, fun pr mpr => ?_⟩
  · exact (none.frames p octets bits start link).resolve_left fun owed => owed.2 (mem_allPorts p)
  · exact (none.waits e me).resolve_left fun owed => owed.2 (mem_allPorts e.port)
  · exact (none.dots l w mw).resolve_left fun ⟨⟨_, a⟩, b⟩ => by cases l; exacts [a rfl, b rfl]
  · exact (none.deadlines l a ma runs).resolve_left fun ⟨⟨_, a⟩, b⟩ => by cases l; exacts [a rfl, b rfl]
  · exact (none.leases pr mpr).resolve_left fun owed => owed.2 owed.1

end Sys2Proof.Proofs
end

section
/-! PROOFS. Every step keeps all the laws of the device, and every age stays below the manual's bound (R41, R45, R46, R138, R159). -/

namespace Sys2Proof.Proofs

open Sys2Proof Sys2Proof.Machine Sys2Proof.Safety

variable {m : Mode} {s t : State}

/-! ## The clock (R41, R45, R49) -/

/-- A deadline that has not been reached comes one tick nearer. -/
theorem elapsed_to_deadline {now d : Reading} (ahead : Config.halfRange ≤ elapsed d now) {bound : Nat}
    (near : elapsed now d ≤ bound) : elapsed (now + 1) d ≤ bound := by
  have : Config.halfRange = 2147483648 := rfl
  unfold elapsed at *
  bv_omega

/-- R49: at the next reading one tick more has passed since the sweep last visited a position. -/
theorem sinceVisit_succ (settled : s.visitOwed = false) (pos : BitVec 9) (steady : m.visiting = false) :
    sinceVisitIn m s pos + 1 ≤ sinceVisitIn m { s with sweepPos := s.sweepPos + 1, visitOwed := true } pos := by
  simp only [sinceVisitIn, settled, steady, Bool.or_true, Bool.or_false, Bool.false_eq_true, false_and, if_false, true_and]
  split
  · have := (s.sweepPos - 1 - pos).isLt
    omega
  · rename_i ne
    have ne' : pos ≠ s.sweepPos := fun e => ne (by rw [e]; simp)
    bv_omega

/-- R152: a frame idle timer that is not due has not run past its length a tick later. -/
theorem idleInTime_succ {y : Link} {now : Reading}
    (early : ∀ octets bits start, y = .receiving octets bits start → elapsed start now < Config.frameIdleTicks) :
    idleInTime (now + 1) y = true := by
  cases y with
  | receiving octets bits start =>
    have soon := early octets bits start rfl
    have := elapsed_succ_le start now
    simp only [idleInTime, decide_eq_true_eq]
    omega
  | _ => rfl

theorem Laws.advanceClock (h : Laws m s) (steady : m.visiting = false) (settled : s.visitOwed = false) (timely : NoTimerDue s) :
    Laws m (Machine.advanceClock s) := by
  obtain ⟨frames, waits, dots, deadlines, leases⟩ := timely
  have gate : ∀ l, (Machine.advanceClock s).gate l = (s.gate l).sample := fun l => by cases l <;> rfl
  have tick := elapsed_succ_le
  exact { h with
    sweep := by
      have old := h.sweep
      show (s.sweepPos + 1).toNat = (s.clock + 1).toNat % 512
      rw [BitVec.toNat_add, BitVec.toNat_add, old]
      show (s.clock.toNat % 512 + 1) % 512 = (s.clock.toNat + 1) % 4294967296 % 512
      omega
    ports := fun p => { h.ports p with idle := idleInTime_succ (frames p) }
    entries := fun e me => { h.entries e me with
      running := by
        have := waits e me
        have := tick e.start s.clock
        show elapsed e.start (s.clock + 1) ≤ _
        omega }
    gates := fun l => by
      rw [gate]
      have old := h.gates l
      refine ⟨?_, fun w mw => ?_, ?_, ?_, ?_, fun a ma runs => ?_, ?_⟩
      · rw [waiter_sample]; exact old.onlyInRun
      · rw [waiter_sample] at mw
        have := dots l (mem_bothLanes l) w mw
        have := tick w.start s.clock
        refine { old.waiter w mw with running := ?_ }
        show elapsed w.start (s.clock + 1) ≤ _
        omega
      · rw [waiter_sample, assignment_sample]; exact old.apart
      · rw [measurement_sample, assignment_sample]; exact old.bound
      · rw [orphans_sample]; exact old.orphans
      · rw [assignment_sample] at ma
        exact elapsed_to_deadline (deadlines l (mem_bothLanes l) a ma runs) (old.deadline a ma runs)
      · rw [assignment_sample]; exact old.dotted
    sites := fun l st mst i x at_ =>
      { h.sites l st mst i x at_ with
        assigned := by rw [gate, assignment_sample]; exact (h.sites l st mst i x at_).assigned
        wet := fun w e => by
          have old := (h.sites l st mst i x at_).wet w e
          have := tick w s.clock
          have since : sinceVisitIn m (Machine.advanceClock s) = sinceVisitIn m { s with sweepPos := s.sweepPos + 1, visitOwed := true } := rfl
          have := sinceVisit_succ settled (positionOf l st.slot i) steady
          rw [since]
          show elapsed w (s.clock + 1) < (s.product st.product).openTicks + _ + _
          omega }
    pairings := fun pr mpr => { h.pairings pr mpr with
      running := by
        have := leases pr mpr
        have := tick pr.leaseStart s.clock
        show elapsed pr.leaseStart (s.clock + 1) ≤ _
        omega } }

theorem Laws.tick (h : Laws m s) (steady : m.visiting = false) : Laws m (Machine.tick s) := by
  obtain ⟨laws, timely⟩ := takeExpiries_settles h.catchUp
  exact Laws.advanceClock laws steady (visitOwed_settle s) timely

/-! ## The RESET pin (R138, R159) -/

theorem port_tabulate {α : Type} (f : Port → α) (p : Port) : (tabulate f)[p] = f p := by
  fin_cases p <;> rfl

theorem laws_holdReset (s : State) : Laws .normal (holdReset s) := by
  have lane : ∀ l, (holdReset s).lane l = .blank := fun l => by cases l <;> rfl
  have gate : ∀ l, (holdReset s).gate l = .blank (s.gate l).gateActive := fun l => by cases l <;> rfl
  have map : MapInv (holdReset s) := mapInv_of_eq (s := State.reset) rfl rfl mapInv_reset
  have counts := dieCounts_of_map map
  have dice : DiceLaw (holdReset s) := by
    refine ⟨(fun _ n => nomatch n), (fun _ n => nomatch n), (fun _ n => nomatch n), .nil, fun b i flying => ?_⟩
    cases b <;> exact absurd flying blank_not_inFlight
  exact {
    sweep := rfl
    single := fun _ => rfl
    cleared := fun _ l => by rw [lane]; rfl
    roles := by
      show RoleLaw State.reset
      decide
    products := fun c pr mpr => by
      have undefined : (holdReset s).products[c] = none := by fin_cases c <;> rfl
      rw [undefined] at mpr
      cases mpr
    levels := fun p => by
      show State.reset.roles[p].level ≤ 3
      fin_cases p <;> decide
    threshold := by
      show 1 ≤ State.reset.trace.threshold ∧ State.reset.trace.threshold ≤ Config.traceCapacity
      decide
    ringSize := Nat.zero_le _
    ports := fun p => by
      have port : (holdReset s).ports[p] = { selLow := s.ports[p].selLow, link := .idle } := port_tabulate _ p
      rw [port]
      exact ⟨(fun r => nomatch r), fun _ => rfl, rfl⟩
    onlyInRun := fun _ => rfl
    sorted := .nil
    distinct := List.nodup_nil
    entries := (fun _ n => nomatch n)
    gates := fun l => by
      rw [gate]
      exact ⟨fun _ => rfl, (fun _ n => nomatch n), fun _ => rfl, (fun e => nomatch e), Nat.zero_le _, (fun _ n => nomatch n),
        (fun _ n => nomatch n)⟩
    room := ⟨rfl, Nat.zero_le _⟩
    order := (fun _ n => nomatch n)
    states := map.states
    dieCounts := counts
    references := map.references
    dice := pairedDieLaw_of_map map dice
    lanes := fun l => by
      rw [lane]
      exact ⟨by decide, ⟨rfl, (fun _ n => nomatch n)⟩,
        ⟨Nat.zero_le _, List.nodup_nil, (fun _ n => nomatch n), (fun _ n => nomatch n)⟩, Nat.zero_le _⟩
    sites := fun l st mst => by rw [lane] at mst; cases mst
    tickets := List.nodup_nil
    perHead := fun _ => Nat.zero_le _
    setup := fun _ _ => rfl
    pairings := (fun _ n => nomatch n) }

theorem Laws.releaseReset (h : Laws m s) (dual : Bool) : Laws m (Machine.releaseReset dual s) := by
  unfold Machine.releaseReset
  split
  · exact h
  · rename_i asserted
    have reset : s.resetAsserted = true := by simpa using asserted
    have idle := fun p => (h.ports p).held reset
    have noEntry : ∀ e, e ∉ s.waitList := fun e me => by
      have link := (h.entries e me).link
      rw [show s.link e.port = .idle from idle e.port] at link
      cases link
    have noWaiter : ∀ l, ∀ w, w ∉ (s.gate l).waiter := fun l w mw => by
      have link := ((h.gates l).waiter w mw).link
      rw [show s.link w.port = .idle from idle w.port] at link
      cases link
    have noStrip := h.cleared reset
    have gate : ∀ l, (PerLane.mk s.gates.a.sample s.gates.b.sample).get l = (s.gate l).sample := fun l => by cases l <;> rfl
    exact { h with
      single := fun _ => noStrip .B
      cleared := (fun r => nomatch r)
      ports := fun p => by
        have port := port_tabulate (fun p =>
          ({ selLow := s.ports[p].selLow, link := if s.ports[p].selLow then .draining else .idle } : PortState)) p
        refine port.symm ▸ ?_
        cases s.ports[p].selLow
        · exact ⟨fun _ => ⟨fun _ => rfl, fun _ => rfl⟩, (fun r => nomatch r), rfl⟩
        · exact ⟨fun _ => ⟨(fun e => nomatch e), (fun e => nomatch e)⟩, (fun r => nomatch r), rfl⟩
      entries := fun e me => absurd me (noEntry e)
      gates := fun l => by
        have old := h.gates l
        show GateOk _ _ _ _ ((PerLane.mk s.gates.a.sample s.gates.b.sample).get l)
        rw [gate]
        refine ⟨?_, fun w mw => ?_, ?_, ?_, ?_, ?_, ?_⟩
        · rw [waiter_sample]; exact old.onlyInRun
        · rw [waiter_sample] at mw; exact absurd mw (noWaiter l w)
        · rw [waiter_sample, assignment_sample]; exact old.apart
        · rw [measurement_sample, assignment_sample]; exact old.bound
        · rw [orphans_sample]; exact old.orphans
        · rw [assignment_sample]; exact old.deadline
        · rw [assignment_sample]; exact old.dotted
      sites := fun l st (mst : st ∈ (s.lane l).strips) => by
        rw [noStrip l] at mst
        cases mst }

/-! ## Everything that can happen -/

theorem laws_happens (s t : State) (h : Laws .normal s) (e : Happens s t) : Laws .normal t := by
  cases e with
  | nothing => exact h
  | ownWork => exact h.catchUp
  | frame k p body live received => exact h.frameCheck live received k body
  | format p kind _ received => exact h.answerAtPort received _
  | frameInHand k p body live received => exact (h.frameCheck live received k body).keepInHand p
  | formatInHand p kind _ received => exact (h.answerAtPort received _).keepInHand p
  | bitIn p octets bits _ received => exact h.bitIn received octets bits
  | bitOut p k r n mark _ link => exact h.bitOut link
  | selFallPin p _ c => exact h.selFalls c
  | selFallOpens p _ live link => exact h.selFallOpens live link
  | selRisePin p _ reset => exact h.selRises reset
  | selRiseCloses p low live => exact h.selRiseCloses live low
  | frameExpiry p => exact h.expireFrame p
  | leaseExpiry k => exact h.expireLease k
  | deadlineExpiry l => exact h.expireDeadline l
  | pairWaitExpiry p => exact h.expirePairWait p
  | dotWaitExpiry l => exact h.expireDotWait l
  | clockTick => exact h.tick rfl
  | gateRise l => exact h.gateRises l
  | gateFall l width => exact h.gateFalls l width
  | pulseBegin l => exact h.pulseBegins l
  | pulseSaturation l => exact h.pulseSaturates l
  | resetAssert => exact laws_holdReset s
  | resetRelease dual => exact h.releaseReset dual

/-! ## The age bound (R46) -/

theorem sinceVisitIn_le (m : Mode) (s : State) (pos : BitVec 9) : sinceVisitIn m s pos ≤ 512 := by
  unfold sinceVisitIn
  split
  · rfl
  · have := (s.sweepPos - 1 - pos).isLt
    omega

/-- R46: every age is within an open time, the two leases of a pairing and one round of the sweep. -/
theorem Laws.agesBounded (h : Laws .normal s) : AgesBounded s := by
  intro l _ st mst x mx
  have lease : Config.maxLeaseTicks = 600000 := rfl
  obtain ⟨range, _⟩ := h.product_inRange mst
  have open_ : (s.product st.product).openTicks ≤ 36000000 := by
    have := (bounds_of_inRange range).2.1
    unfold Product.openTicks
    omega
  obtain ⟨i, at_⟩ := List.getElem?_of_mem mx
  have law := h.sites l st mst i x at_
  split
  · rename_i w
    have young := law.wet w rfl
    have := sinceVisitIn_le .normal s (positionOf l st.slot i)
    omega
  · rename_i w k
    obtain ⟨pr, mpr, _, rfl, arrival, rfl⟩ := (law.paired k rfl).resolve_left id
    obtain ⟨y, my, ya, _, v, aty, early, _⟩ := (h.pairings pr mpr).sited
    rw [strip_unique (h.lanes pr.lane).queue my mst (ya.trans arrival)] at aty early
    rw [at_] at aty
    cases aty
    have young := (h.pairings pr mpr).age early
    omega
  · trivial

/-- Settles O59: the laws are read part by part and walked through everything that can happen; the ages follow from the open time
of each site's product, from its pairing's leases and from the sweep. -/
theorem everyStepKeepsTheLawsOfTheDevice : Obligations.EveryStepKeepsTheLawsOfTheDevice := by
  unfold Obligations.EveryStepKeepsTheLawsOfTheDevice
  intro s t h e
  have kept := step_keeps (I := fun s => Laws .normal s ∧ NoticeInv s)
    (fun s rest ⟨laws, notices⟩ => ⟨{ laws with }, noticeInv_congr (s := s) rfl rfl rfl rfl notices⟩)
    (fun s t ⟨laws, notices⟩ happens => ⟨laws_happens s t laws happens, noticeInv_happens s t notices happens⟩) s t
    ⟨laws_of_device h, h.notices⟩ e
  exact ⟨device_of_laws kept.1 kept.2, kept.1.agesBounded⟩

end Sys2Proof.Proofs
end

section
/-! PROOFS. PRODUCT and LANE: the lane and the product that a request names, and the checks of both requests in order (R22 to R24,
R162). -/

namespace Sys2Proof.Proofs

open Sys2Proof Sys2Proof.Machine Sys2Proof.Safety

variable {p : Port} {body : List Octet} {s : State}

/-! ## What a body names -/

theorem laneOfCode_eq_some_iff {o : Octet} {l : Lane} : laneOfCode o = some l ↔ o = laneCode l := by
  constructor
  · intro h
    unfold laneOfCode at h
    split at h
    · rename_i zero
      cases h
      exact zero
    · split at h
      · rename_i one
        cases h
        exact one
      · cases h
  · rintro rfl
    cases l <;> rfl

/-- R24: a lane octet is read as the lane that it names on this part. -/
theorem laneOf_eq_some_iff {o : Octet} {l : Lane} : s.laneOf o = some l ↔ NamesLane o s l := by
  constructor
  · intro h
    refine ⟨laneOfCode_eq_some_iff.1 ?_, laneOf_B h⟩
    unfold State.laneOf at h
    split at h
    · rename_i code
      split at h
      · cases h
        exact code
      · cases h
    · exact h
  · rintro ⟨named, dual⟩
    have code := laneOfCode_eq_some_iff.2 named
    cases l with
    | A => simp only [State.laneOf, code]
    | B => simp only [State.laneOf, code, dual rfl, if_true]

theorem laneOf_eq_none {o : Octet} (h : ∀ l ∈ bothLanes, ¬ NamesLane o s l) : s.laneOf o = none :=
  Option.eq_none_iff_forall_ne_some.2 fun l named => h l (mem_bothLanes l) (laneOf_eq_some_iff.1 named)

theorem productCode_of_val {o : Octet} {c : ProductCode} (h : c.val = o.toNat) : productCode o = some c := by
  have lt : o.toNat < 8 := h ▸ c.isLt
  rw [productCode, dif_pos lt]
  exact congrArg some (Fin.ext h.symm)

theorem productCode_of_high {o : Octet} (h : 7 < o.toNat) : productCode o = none := dif_neg (by omega)

/-! ## PRODUCT -/

/-- R22, check 3: a code is queued where a strip of some lane carries it. -/
theorem codeQueued_iff (c : ProductCode) :
    s.codeQueued c = true ↔ ∃ l ∈ bothLanes, ∃ st ∈ (s.lane l).strips, st.product = c := by
  simp [State.codeQueued, bothLanes, State.lane, PerLane.get]

/-- R22, check 2: the ranges of Table 2-1, each bound once. -/
theorem inRange_iff (pr : Product) : pr.inRange = true ↔ 1 ≤ pr.siteCount ∧ pr.siteCount ≤ 64 ∧
    pr.gradeSet ≠ 0 ∧ pr.gradeSet.getLsbD 0 = false ∧ pr.gradeSet.getLsbD 15 = false ∧
    1 ≤ pr.openTime ∧ pr.openTime ≤ 360000 ∧ pr.marginMs ≤ 60000 ∧ pr.marginMs * 10 < pr.openTime * 100 ∧
    1 ≤ pr.dotMin ∧ pr.dotMin ≤ pr.dotMax ∧ pr.dotMax ≤ 65534 ∧ 1 ≤ pr.tolerance ∧ pr.tolerance ≤ 1000 ∧
    100 ≤ pr.pickLeaseMs ∧ pr.pickLeaseMs ≤ 60000 ∧ 100 ≤ pr.bondLeaseMs ∧ pr.bondLeaseMs ≤ 60000 := by
  simp only [Product.inRange, Bool.and_eq_true, decide_eq_true_eq, bne_iff_ne, Bool.not_eq_true', and_assoc]
  constructor
  · rintro ⟨a, b, c, d, e, f, g, h, i, j, _, _, k, l, rest⟩
    exact ⟨a, b, c, d, e, f, g, h, i, j, l, k, rest⟩
  · rintro ⟨a, b, c, d, e, f, g, h, i, j, k, l, rest⟩
    exact ⟨a, b, c, d, e, f, g, h, i, j, k.trans l, j.trans k, l, k, rest⟩

theorem serveProduct_of_bad (s : State) (bad : ¬ ((u8 body 0).toNat ≤ 7 ∧ (productOfBody body).inRange = true)) :
    serveProduct p body s = reply p (resp .range []) s := by
  unfold serveProduct
  by_cases code : (u8 body 0).toNat ≤ 7
  · have out : (productOfBody body).inRange = false := by simpa [code] using bad
    split
    · rfl
    · simp [out]
  · rw [productCode_of_high (by omega)]

theorem serveProduct_of_good {c : ProductCode} (code : c.val = (u8 body 0).toNat) (good : (productOfBody body).inRange = true) :
    serveProduct p body s = if s.codeQueued c = true then reply p (resp .busy []) s else
      reply p (okResp [u8 body 0]) { s with products := s.products.set c.val (some (productOfBody body)) c.isLt } := by
  simp [serveProduct, productCode_of_val code, good]

/-! ## LANE -/

theorem serveLane_of_bad (bad : (∀ l ∈ bothLanes, ¬ NamesLane (u8 body 0) s l) ∨
    ¬ (1 ≤ (u8 body 1).toNat ∧ (u8 body 1).toNat ≤ 16 ∧ 100 ≤ (u16 body 2).toNat ∧ (u16 body 2).toNat ≤ 10000)) :
    serveLane p body s = reply p (resp .range []) s := by
  unfold serveLane
  dsimp only
  rcases bad with unnamed | out
  · rw [laneOf_eq_none unnamed]
  · split
    · rfl
    · refine if_pos ?_
      simpa only [Bool.not_eq_true', ← Bool.not_eq_true, Bool.and_eq_true, decide_eq_true_eq, and_assoc] using out

theorem serveLane_of_good {l : Lane} (named : NamesLane (u8 body 0) s l)
    (good : 1 ≤ (u8 body 1).toNat ∧ (u8 body 1).toNat ≤ 16 ∧ 100 ≤ (u16 body 2).toNat ∧ (u16 body 2).toNat ≤ 10000) :
    serveLane p body s = if (s.lane l).strips ≠ [] then reply p (resp .busy []) s else
      reply p (okResp []) (s.setLane l { s.lane l with wetLimit := (u8 body 1).toNat, dotDeadlineMs := (u16 body 2).toNat }) := by
  simp [serveLane, laneOf_eq_some_iff.2 named, good]

/-- Settles O22: each request by the branch that its checks take, in the state in which the port holds it. -/
theorem productAndLaneSet : Obligations.ProductAndLaneSet := by
  unfold Obligations.ProductAndLaneSet
  intro p body s
  refine ⟨fun taken => ?_, fun taken => ?_⟩
  · intro pr valid
    have checks : valid ↔ (u8 body 0).toNat ≤ 7 ∧ (productOfBody body).inRange = true :=
      and_congr_right fun _ => (inRange_iff pr).symm
    refine ⟨fun bad => ?_, fun good c code => ⟨fun queued => ?_, fun unused => ?_⟩⟩
    · exact ⟨_, exec_of_served taken (serveProduct_of_bad _ fun x => bad (checks.2 x)), answersWith_reply_held _⟩
    · refine ⟨_, exec_of_served taken ((serveProduct_of_good code (checks.1 good).2).trans (if_pos ?_)),
        answersWith_reply_held _⟩
      exact (codeQueued_iff (s := s) c).2 queued
    · refine ⟨_, exec_of_served taken ((serveProduct_of_good code (checks.1 good).2).trans (if_neg fun queued => ?_)),
        answersWith_reply (by simp [OnlyChanges, Part.list, Part.same]) (by simp) _,
        (only_reply p _ _).products_eq (by simp)⟩
      obtain ⟨l, ml, st, mst, e⟩ := (codeQueued_iff (s := s) c).1 queued
      exact unused l ml st mst e
  · intro limit deadline inRange
    refine ⟨fun bad => ?_, fun l _ named good => ?_⟩
    · exact ⟨_, exec_of_served taken (serveLane_of_bad bad), answersWith_reply_held _⟩
    have served := serveLane_of_good (p := p) (s := s.setLink p (.holding .lane)) named good
    refine ⟨fun filled => ?_, fun empty => ?_⟩
    · exact ⟨_, exec_of_served taken (served.trans (if_pos filled)), answersWith_reply_held _⟩
    · exact ⟨_, exec_of_served taken (served.trans (if_neg (not_not.2 empty))),
        answersWith_reply (only_setLane _ l _) (by simp) _, (only_reply p _ _).lanes_eq (by simp)⟩

end Sys2Proof.Proofs
end

section
/-! PROOFS. The re-examination of a held DOT, said once: the site that it is given, where it stays held, and what neither it nor an
arbiter pass changes in the lanes (R25, R31, R57, R58, R60, R92). -/

namespace Sys2Proof.Proofs

open Sys2Proof Sys2Proof.Machine Sys2Proof.Safety

variable {s t u : State}

/-! ## The site to dot (R57) -/

theorem siteToDot_eq_none_iff (strips : List Strip) : siteToDot strips = none ↔ ∀ st ∈ strips, Site.empty ∉ st.sites := by
  induction strips with
  | nil => simp [siteToDot]
  | cons st strips ih =>
    rw [siteToDot, List.forall_mem_cons, ← ih]
    cases found : st.sites.findIdx? (fun x => x == .empty) with
    | none =>
      rw [List.findIdx?_eq_none_iff] at found
      exact ⟨fun rest => ⟨fun m => by simpa using found _ m, rest⟩, fun h => h.2⟩
    | some i =>
      obtain ⟨lt, is, _⟩ := List.findIdx?_eq_some_iff_getElem.1 found
      refine ⟨(fun h => nomatch h), fun h => absurd (List.getElem_mem lt) ?_⟩
      rw [eq_of_beq is]
      exact h.1

/-- R57: the first EMPTY site of the first strip that has one. -/
theorem siteToDot_of_first {older newer : List Strip} {st : Strip} {i : Nat} (dotted : ∀ x ∈ older, Site.empty ∉ x.sites)
    (at_ : st.sites[i]? = some .empty) (first : ∀ j < i, st.sites[j]? ≠ some .empty) :
    siteToDot (older ++ st :: newer) = some (st, i) := by
  induction older with
  | nil =>
    obtain ⟨lt, is⟩ := List.getElem?_eq_some_iff.1 at_
    have found : st.sites.findIdx? (fun x => x == .empty) = some i :=
      List.findIdx?_eq_some_iff_getElem.2 ⟨lt, by simp [is], fun j lj e => first j lj (by
        rw [List.getElem?_eq_getElem (lj.trans lt), eq_of_beq e])⟩
    simp only [List.nil_append, siteToDot, found]
  | cons x older ih =>
    have none : x.sites.findIdx? (fun y => y == .empty) = none :=
      List.findIdx?_eq_none_iff.2 fun y my => by
        simpa using fun e : y = .empty => dotted x List.mem_cons_self (e ▸ my)
    simp only [List.cons_append, siteToDot, none]
    exact ih fun y my => dotted y (List.mem_cons_of_mem _ my)

theorem examine_eq_none_iff (s : State) (l : Lane) : examine s l = none ↔
    (s.lane l).wetLimit ≤ (s.lane l).wetAhead ∨ ∀ st ∈ (s.lane l).strips, Site.empty ∉ st.sites := by
  rw [← siteToDot_eq_none_iff, examine]
  split
  · rename_i room
    exact ⟨.inr, fun h => h.resolve_left (Nat.not_le.2 room)⟩
  · rename_i full
    exact ⟨fun _ => .inl (Nat.not_lt.1 full), fun _ => rfl⟩

/-! ## The re-examination (R58, R60) -/

/-- Where nothing is held, or the lane cannot be served, a re-examination does nothing. -/
theorem reexamine_of_kept {l : Lane} (h : (s.gate l).waiter = none ∨ examine s l = none) : reexamine l s = s := by
  unfold reexamine
  split
  · rfl
  · rename_i w held
    rw [h.resolve_left (by rw [held]; exact fun e => nomatch e)]

theorem reexamine_of_found {l : Lane} {w : DotWaiter} {st : Strip} {i : Nat} (held : (s.gate l).waiter = some w)
    (found : examine s l = some (st, i)) :
    reexamine l s = grantDot l w.port st i (s.setGate l { s.gate l with waiter := none }) := by
  simp only [reexamine, held, found]

/-- A DOT that is held stays so, or is granted the site to dot. -/
theorem reexamine_cases (l : Lane) (s : State) : reexamine l s = s ∨ ∃ w st i, (s.gate l).waiter = some w ∧
    examine s l = some (st, i) ∧ reexamine l s = grantDot l w.port st i (s.setGate l { s.gate l with waiter := none }) := by
  cases held : (s.gate l).waiter with
  | none => exact .inl (reexamine_of_kept (.inl held))
  | some w =>
    cases found : examine s l with
    | none => exact .inl (reexamine_of_kept (.inr found))
    | some e => exact .inr ⟨w, e.1, e.2, rfl, rfl, reexamine_of_found held found⟩

theorem lanes_grantDot (l : Lane) (p : Port) (st : Strip) (i : Nat) (g : GateMonitor) (s : State) :
    (grantDot l p st i (s.setGate l g)).lanes = (changeSite l st.arrival i .dispensing s).lanes := by
  rw [grantDot, (only_handOver p _ _ _).lanes_eq (by simp), State.setGate_lanes, changeSite_setGate, State.setGate_lanes]

theorem gates_grantDot (l : Lane) (p : Port) (st : Strip) (i : Nat) (s : State) :
    (grantDot l p st i s).gates = s.gates.set l { s.gate l with assignment := some (assignmentFor s l st i) } := by
  rw [grantDot, (only_handOver p _ _ _).gates_eq (by simp), gate_changeSite]
  simp only [State.setGate, (only_changeSite _ _ _ _ _).gates_eq (by simp)]

/-- R58: the port that holds its DOT is answered with the grant and its mark. -/
theorem answeredAt_grantDot {p : Port} (link : s.link p = .holding .dot) (l : Lane) (st : Strip) (i : Nat) :
    AnsweredAt p .dot (okResp (dotGrantBody s l st i)) (some ((assignmentFor s l st i).mark l)) s (grantDot l p st i s) := by
  have ports := (only_changeSite l st.arrival i .dispensing s).ports_eq (by simp)
  rw [grantDot, handOver_of_holding (k := .dot) (by simpa only [State.link, State.setGate_ports, ports] using link)]
  simp [AnsweredAt, ports]

/-! ## What stands in the lanes -/

/-- What a strip keeps while its sites are dotted and paired. -/
def header (st : Strip) : BitVec 32 × Tag × Fin 4 × Nat := (st.arrival, st.id, st.slot, st.unsettled)

/-- No strip has come, gone or settled: each lane's strips keep their headers, and its arrival counter stands. -/
structure QueueStands (s t : State) : Prop where
  headers : ∀ l, (t.lane l).strips.map header = (s.lane l).strips.map header
  counter : ∀ l, (t.lane l).arrivalCounter = (s.lane l).arrivalCounter

/-- The counts of wet sites and the sites that are being dotted stand. -/
structure DotsStand (s t : State) : Prop where
  wet : ∀ l, (t.lane l).wetAhead = (s.lane l).wetAhead
  dots : ∀ l a i, s.site l a i = some .dispensing → t.site l a i = some .dispensing

theorem lane_eq_of_lanes (h : t.lanes = s.lanes) (l : Lane) : t.lane l = s.lane l := by simp only [State.lane, h]

theorem site_eq_of_lanes (h : t.lanes = s.lanes) (l : Lane) (a : BitVec 32) (i : Nat) : t.site l a i = s.site l a i := by
  simp only [State.site, State.strip, State.lane, h]

theorem QueueStands.of_lanes (h : t.lanes = s.lanes) : QueueStands s t :=
  ⟨fun l => by rw [lane_eq_of_lanes h], fun l => by rw [lane_eq_of_lanes h]⟩

theorem QueueStands.trans (h : QueueStands s t) (k : QueueStands t u) : QueueStands s u :=
  ⟨fun l => (k.headers l).trans (h.headers l), fun l => (k.counter l).trans (h.counter l)⟩

theorem DotsStand.of_lanes (h : t.lanes = s.lanes) : DotsStand s t :=
  ⟨fun l => by rw [lane_eq_of_lanes h], fun l a i at_ => by rw [site_eq_of_lanes h, at_]⟩

theorem DotsStand.trans (h : DotsStand s t) (k : DotsStand t u) : DotsStand s u :=
  ⟨fun l => (k.wet l).trans (h.wet l), fun l a i at_ => k.dots l a i (h.dots l a i at_)⟩

/-- Whether the oldest strip of a lane is settled is told by its header. -/
theorem oldestSettled_eq (s : State) (l : Lane) :
    s.oldestSettled l = (((s.lane l).strips.map header).head?.map (fun h => h.2.2.2 == 0)).getD false := by
  unfold State.oldestSettled
  cases (s.lane l).strips <;> rfl

theorem QueueStands.oldestSettled (h : QueueStands s t) (l : Lane) : t.oldestSettled l = s.oldestSettled l := by
  rw [oldestSettled_eq, oldestSettled_eq, h.headers]

/-- What each header of two equal lists of headers says alike. -/
theorem map_of_headers {α : Type} {xs ys : List Strip} (h : xs.map header = ys.map header)
    (f : BitVec 32 × Tag × Fin 4 × Nat → α) : xs.map (fun st => f (header st)) = ys.map (fun st => f (header st)) := by
  have eq := congrArg (List.map f) h
  rwa [List.map_map, List.map_map] at eq

theorem map_updateStrip {α : Type} {a : BitVec 32} {f : Strip → Strip} {g : Strip → α} (same : ∀ st, g (f st) = g st)
    (strips : List Strip) : (updateStrip a f strips).map g = strips.map g := by
  induction strips with
  | nil => rfl
  | cons st strips ih =>
    simp only [updateStrip]
    split
    · rw [List.map_cons, List.map_cons, same]
    · rw [List.map_cons, List.map_cons, ih]

/-- R31: a site change that settles nothing and unsettles nothing leaves every header. -/
theorem queueStands_changeSite {l : Lane} {a : BitVec 32} {i : Nat} {old new : Site} (at_ : s.site l a i = some old)
    (same : old.settled = new.settled) : QueueStands s (changeSite l a i new s) := by
  have kept : ∀ st : Strip, header (st.withSite i old new) = header st := fun st => by
    rw [header, Strip.withSite, same, recount_self]; rfl
  rw [changeSite_of_some at_]
  refine ⟨fun k => ?_, fun k => ?_⟩ <;> by_cases e : k = l
  · subst e
    rw [State.lane_setLane_self]
    exact map_updateStrip kept _
  · rw [State.lane_setLane_of_ne s _ e]
  · subst e
    rw [State.lane_setLane_self]
  · rw [State.lane_setLane_of_ne s _ e]

/-- A site change leaves every site that does not read as the changed one did. -/
theorem site_changeSite_of_ne {k l : Lane} {a b : BitVec 32} {i j : Nat} {old x : Site} (changed : s.site k b j = some old)
    (at_ : s.site l a i = some x) (other : x ≠ old) (new : Site) : (changeSite k b j new s).site l a i = some x := by
  rw [changeSite_of_some changed]
  by_cases e : l = k
  · subst e
    simp only [State.site, State.strip, State.lane_setLane_self] at at_ changed ⊢
    rw [find_updateStrip (f := fun st => st.withSite j old new) (fun _ => rfl)]
    split
    · rename_i same
      subst same
      obtain ⟨st, found, get⟩ := Option.bind_eq_some_iff.1 at_
      have apart : j ≠ i := by
        rintro rfl
        rw [at_] at changed
        exact other (Option.some.inj changed)
      simpa [found, Strip.withSite, List.getElem?_set_ne apart] using get
    · exact at_
  · simp only [State.site, State.strip, State.lane_setLane_of_ne s _ e]
    exact at_

/-- R58: a re-examination settles no strip. -/
theorem queueStands_reexamine {ps : Vector (Option Product) 8} {l : Lane} (queue : QueueOk ps (s.lane l)) :
    QueueStands s (reexamine l s) := by
  rcases reexamine_cases l s with eq | ⟨w, st, i, _, found, eq⟩ <;> rw [eq]
  · exact .of_lanes rfl
  · obtain ⟨_, mst, at_⟩ := examine_spec found
    have dotted := queueStands_changeSite (new := .dispensing) ((site_of_mem queue mst i).trans at_) rfl
    exact dotted.trans (.of_lanes (lanes_grantDot _ _ _ _ _ _))

/-! ## The passes (R92, R108) -/

theorem pairSite_stands (f : Found) (k : Ticket) (s : State) : QueueStands s (pairSite f k s) ∧ DotsStand s (pairSite f k s) := by
  unfold pairSite
  split
  · rename_i w wet
    refine ⟨queueStands_changeSite wet rfl, fun l => ?_, fun l a i dot => site_changeSite_of_ne wet dot (fun e => nomatch e) _⟩
    rw [changeSite_of_some wet]
    by_cases e : l = f.cand.lane
    · subst e
      rw [State.lane_setLane_self]
      exact recount_self _ _
    · rw [State.lane_setLane_of_ne s _ e]
  · exact ⟨.of_lanes rfl, .of_lanes rfl⟩

/-- A try of an entry changes the lanes by the pairing of a site alone. -/
theorem tryEntry_stands (e : WaitEntry) (s : State) : QueueStands s (tryEntry e s) ∧ DotsStand s (tryEntry e s) := by
  rcases tryEntry_cases e s with ⟨f, k, _, _, _, eq⟩ | ⟨o, eq⟩ | eq <;> rw [eq]
  · obtain ⟨queue, dots⟩ := pairSite_stands f k s
    have lanes := lanes_grantPair e.port f k s
    exact ⟨queue.trans (.of_lanes lanes), dots.trans (.of_lanes lanes)⟩
  · exact ⟨.of_lanes rfl, .of_lanes rfl⟩
  · exact ⟨.of_lanes rfl, .of_lanes rfl⟩

theorem arbiterPasses_stand (n : Nat) (s : State) : QueueStands s (arbiterPasses n s) ∧ DotsStand s (arbiterPasses n s) := by
  refine arbiterPasses_keeps (I := fun u => QueueStands s u ∧ DotsStand s u) (fun u h => ?_) n ⟨.of_lanes rfl, .of_lanes rfl⟩
  refine arbiterPass_keeps (I := fun u => QueueStands s u ∧ DotsStand s u) (fun e v k => ?_) h
  obtain ⟨queue, dots⟩ := tryEntry_stands e v
  exact ⟨k.1.trans queue, k.2.trans dots⟩

/-! ## A held DOT is served or stays held (R57 to R60) -/

/-- All that a re-examination of the lane reads but the strips and the wet-ahead count is as it was. -/
structure DotKept (l : Lane) (s u : State) : Prop where
  clock : u.clock = s.clock
  products : u.products = s.products
  limit : (u.lane l).wetLimit = (s.lane l).wetLimit
  deadline : (u.lane l).dotDeadlineMs = (s.lane l).dotDeadlineMs
  held : ∀ w ∈ (s.gate l).waiter, u.gates = s.gates ∧ u.ports[w.port] = s.ports[w.port]

theorem dotServed_reexamine {ps : Vector (Option Product) 8} {l : Lane} (kept : DotKept l s u)
    (queue : QueueOk ps (u.lane l)) (waiters : DotWaiterLaw s) :
    DotServed l (u.lane l).strips (u.lane l).wetAhead s (reexamine l u) := by
  intro w waits
  obtain ⟨gates, port⟩ := kept.held w waits
  have link : u.link w.port = .holding .dot :=
    (congrArg PortState.link port).trans (waiters l (mem_bothLanes l) w waits).2
  have gate : u.gate l = s.gate l := by simp only [State.gate, gates]
  have held : (u.gate l).waiter = some w := gate ▸ waits
  refine ⟨fun none => ?_, fun room older newer st i split dotted at_ first => ?_⟩
  · rw [reexamine_of_kept (.inr ((examine_eq_none_iff u l).2 (kept.limit ▸ none)))]
    exact ⟨gates, rfl, port⟩
  · have found : examine u l = some (st, i) := by
      rw [examine, if_pos (kept.limit ▸ room), split]
      exact siteToDot_of_first dotted at_ first
    obtain ⟨_, mst, _⟩ := examine_spec found
    have empty := (site_of_mem queue mst i).trans at_
    have lanes := lanes_grantDot l w.port st i { u.gate l with waiter := none } u
    have body : dotGrantBody (u.setGate l { u.gate l with waiter := none }) l st i = dotGrantBody s l st i := by
      simp only [dotGrantBody, State.product, State.setGate_products, kept.products]
    have assignment : assignmentFor (u.setGate l { u.gate l with waiter := none }) l st i = assignmentFor s l st i := by
      simp only [assignmentFor, State.setGate_clock, State.lane_setGate, kept.clock, kept.deadline]
    have deadline : (assignmentFor s l st i).deadline = s.clock + BitVec.ofNat 32 (10 * (s.lane l).dotDeadlineMs) := by
      rw [Nat.mul_comm]; rfl
    have answered := answeredAt_grantDot (s := u.setGate l { u.gate l with waiter := none }) link l st i
    rw [body, assignment] at answered
    have granted := gates_grantDot l w.port st i (u.setGate l { u.gate l with waiter := none })
    rw [assignment] at granted
    simp only [AnsweredAt, State.setGate_ports, port] at answered
    simp only [← deadline]
    rw [reexamine_of_found held found]
    refine ⟨answered, ?_, ?_, ?_⟩
    · rw [granted, State.gate_setGate_self, gate]
      simp only [State.setGate, gates, PerLane.set_set]
      rfl
    · rw [site_eq_of_lanes lanes]
      exact site_changeSite_self empty _
    · rw [lane_eq_of_lanes lanes, changeSite_of_some empty, State.lane_setLane_self]
      rfl

/-- What has been served stays so while gates, dots and the waiting port stand. -/
theorem dotServed_later {l : Lane} {strips : List Strip} {wet : Nat} (h : DotServed l strips wet s u) (stand : DotsStand u t)
    (gates : t.gates = u.gates) (ports : ∀ w ∈ (s.gate l).waiter, t.ports[w.port] = u.ports[w.port]) :
    DotServed l strips wet s t := by
  intro w waits
  obtain ⟨kept, granted⟩ := h w waits
  refine ⟨fun none => ?_, fun room older newer st i split dotted at_ first => ?_⟩
  · obtain ⟨g, n, p⟩ := kept none
    exact ⟨gates.trans g, (stand.wet l).trans n, (ports w waits).trans p⟩
  · obtain ⟨answered, g, dot, n⟩ := granted room older newer st i split dotted at_ first
    exact ⟨(ports w waits).trans answered, gates.trans g, stand.dots l _ _ dot, (stand.wet l).trans n⟩

end Sys2Proof.Proofs
end

section
/-! PROOFS. STRIP_IN: the checks in order, the strip that enters, and what follows its entry (R26, R27, R31, R33, R60). -/

namespace Sys2Proof.Proofs

open Sys2Proof Sys2Proof.Machine Sys2Proof.Safety

variable {p : Port} {body : List Octet} {s u v : State}

/-! ## Held DOTs and the ports that a request moves -/

theorem mem_dotPorts {q : Port} : q ∈ dotPorts s ↔ ∃ l, ∃ w ∈ (s.gate l).waiter, w.port = q := by
  simp only [dotPorts, List.mem_append, Option.mem_toList, Option.map_eq_some_iff]
  constructor
  · rintro (h | h)
    exacts [⟨.A, h⟩, ⟨.B, h⟩]
  · rintro ⟨l, h⟩
    cases l
    exacts [.inl h, .inr h]

/-- A port that receives a frame has no DOT held for it (R59). -/
theorem not_mem_dotPorts_of_taken {k : Kind} (law : LinkInv s) (taken : Taken k p body s) : p ∉ dotPorts s := by
  intro m
  obtain ⟨l, w, mw, rfl⟩ := mem_dotPorts.1 m
  obtain ⟨octets, bits, start, link⟩ := receiving_of_receives taken.1.2
  have holds := (law.dotWaiters l (mem_bothLanes l) w mw).2
  rw [link] at holds
  cases holds

/-- A request that is answered after its work has moved some ports, none of them its own. -/
theorem answered_after_moves {k : Kind} {moved : List Port} {r : Response} (free : p ∉ moved)
    (ports : PortsKept moved (s.setLink p (.holding k)) v) :
    AnsweredAt p k r none s (reply p r v) ∧ PortsKept (p :: moved) s (reply p r v) :=
  ⟨answeredAt_reply (ports p free) r,
    kept_trans (kept_mono (kept_setLink p (.holding k) s) (by simp))
      (kept_trans (kept_mono ports fun _ m => List.mem_cons_of_mem _ m) (kept_mono (kept_handOver p r none v) (by simp)))⟩

/-- The laws while a port holds the request that it has just taken. -/
theorem laws_of_taken {k : Kind} (law : DeviceInv s) (taken : Taken k p body s) :
    Laws .normal (s.setLink p (.holding k)) := by
  have laws := laws_of_device law
  have free := laws.free_of_receiving (receiving_of_receives taken.1.2)
  obtain ⟨_, _, _, link⟩ := receiving_of_receives taken.1.2
  exact laws.setLink free (by rw [link]; exact fun e => nomatch e) (fun e => nomatch e) rfl

/-- A port that waits with a DOT is not the one that holds the request in service. -/
theorem port_of_waiter_setLink {k : Kind} {l : Lane} (free : p ∉ dotPorts s) {w : DotWaiter} (mw : w ∈ (s.gate l).waiter) :
    (s.setLink p (.holding k)).ports[w.port] = s.ports[w.port] :=
  State.ports_setLink_of_ne s _ fun e => free (e ▸ mem_dotPorts.2 ⟨l, w, mw, rfl⟩)

/-! ## The strip that enters (R26) -/

/-- Of slots in order the first that passes is the one that is found. -/
theorem find_slot {free : Fin 4 → Bool} {k : Fin 4} (at_ : free k = true) (lower : ∀ j < k, free j = false) :
    ([0, 1, 2, 3] : List (Fin 4)).find? free = some k := by
  fin_cases k <;> simp_all [Fin.forall_fin_succ]

/-- R26: the lowest slot in which no strip of the lane lies. -/
theorem freeSlot_of_lowest {strips : List Strip} {slot : Fin 4} (free : ∀ st ∈ strips, st.slot ≠ slot)
    (lowest : ∀ j : Fin 4, j < slot → ∃ st ∈ strips, st.slot = j) : freeSlot strips = some slot := by
  refine find_slot (by simpa using free) fun j lt => ?_
  obtain ⟨st, mst, e⟩ := lowest j lt
  exact List.all_eq_false.2 ⟨st, mst, by simp [e]⟩

/-- The sites that a bad-site list leaves EMPTY. -/
def freeSites (count : Nat) (bad : List Octet) : List Nat :=
  (List.range count).filter (fun i => !decide (∃ o ∈ bad, o.toNat = i))

theorem newSites_eq (count : Nat) (bad : List Octet) : newSites count bad =
    (List.range count).map (fun i => if decide (∃ o ∈ bad, o.toNat = i) then Site.skipped else Site.empty) := by
  refine List.map_congr_left fun i _ => ?_
  simp only [List.any_eq_true, beq_iff_eq, decide_eq_true_eq]

theorem countSites_map {α : Type} (f : Site → Bool) (g : α → Site) (xs : List α) :
    countSites f (xs.map g) = (xs.filter (fun x => f (g x))).length := by
  rw [countSites, List.filter_map, List.length_map]; rfl

/-- R31: the unsettled sites of a new strip are its EMPTY ones. -/
theorem unsettled_newSites (count : Nat) (bad : List Octet) :
    countSites (fun x => !x.settled) (newSites count bad) = (freeSites count bad).length := by
  rw [newSites_eq, countSites_map, freeSites]
  refine congrArg List.length (List.filter_congr fun i _ => ?_)
  by_cases h : ∃ o ∈ bad, o.toNat = i
  · rw [decide_eq_true h]; rfl
  · rw [decide_eq_false h]; rfl

theorem skipped_newSites (count : Nat) (bad : List Octet) :
    countSites (fun x => x == .skipped) (newSites count bad) = count - (freeSites count bad).length := by
  have split := List.length_eq_length_filter_add (l := List.range count) (fun i => decide (∃ o ∈ bad, o.toNat = i))
  rw [List.length_range] at split
  have skipped : countSites (fun x => x == .skipped) (newSites count bad) =
      ((List.range count).filter (fun i => decide (∃ o ∈ bad, o.toNat = i))).length := by
    rw [newSites_eq, countSites_map]
    refine congrArg List.length (List.filter_congr fun i _ => ?_)
    by_cases h : ∃ o ∈ bad, o.toNat = i
    · rw [decide_eq_true h]; rfl
    · rw [decide_eq_false h]; rfl
  rw [skipped, freeSites]
  omega

theorem empty_mem_newSites (count : Nat) (bad : List Octet) : Site.empty ∈ newSites count bad ↔ freeSites count bad ≠ [] := by
  rw [newSites_eq, freeSites, Ne, List.filter_eq_nil_iff, List.mem_map]
  simp only [not_forall]
  refine exists_congr fun i => ?_
  by_cases h : ∃ o ∈ bad, o.toNat = i <;> simp [h]

/-! ## The checks -/

/-- A strip has entered, and its settlement has been checked (R26, R33). -/
def afterEntry (l : Lane) (st : Strip) (s : State) : State := settlementCheck l st.arrival (enterStrip l st s)

theorem serveStripIn_of_unnamed (unnamed : ∀ l ∈ bothLanes, ¬ NamesLane (u8 body 0) s l) :
    serveStripIn p body s = reply p (resp .range []) s := by simp only [serveStripIn, laneOf_eq_none unnamed]

theorem serveStripIn_of_full {l : Lane} (named : NamesLane (u8 body 0) s l) (full : (s.lane l).strips.length = 4) :
    serveStripIn p body s = reply p (resp .full []) s := by
  simp [serveStripIn, laneOf_eq_some_iff.2 named, full, Config.maxStrips]

theorem serveStripIn_of_bad {l : Lane} (named : NamesLane (u8 body 0) s l) (room : (s.lane l).strips.length < 4)
    (bad : (∀ c : ProductCode, c.val = (u8 body 5).toNat → s.products[c] = none) ∨ u32 body 1 = 0) :
    serveStripIn p body s = reply p (resp .range []) s := by
  simp only [serveStripIn, laneOf_eq_some_iff.2 named]
  rw [if_neg (show ¬ Config.maxStrips ≤ _ from Nat.not_le.2 room)]
  split
  · rename_i c slot code _
    have val : c.val = (u8 body 5).toNat := by
      unfold productCode at code
      split at code
      · exact (congrArg Fin.val (Option.some.inj code)).symm
      · cases code
    refine if_pos ?_
    rcases bad with undefined | zero
    · simp [undefined c val]
    · simp [zero]
  · rfl

theorem serveStripIn_of_good {l : Lane} {c : ProductCode} {slot : Fin 4} {pr : Product} (named : NamesLane (u8 body 0) s l)
    (room : (s.lane l).strips.length < 4) (code : c.val = (u8 body 5).toNat) (tag : u32 body 1 ≠ 0)
    (defined : pr ∈ s.products[c]) (free : freeSlot (s.lane l).strips = some slot) {st : Strip}
    (new : newStrip s l (u32 body 1) c slot (badSitesOfBody body) = st) :
    serveStripIn p body s =
      reply p (okResp (be32 st.arrival ++ [oct slot.val, oct (countSites (fun x => x == .skipped) st.sites)]))
        (reexamine l (afterEntry l st s)) := by
  simp only [afterEntry, serveStripIn, laneOf_eq_some_iff.2 named, productCode_of_val code, free, new]
  rw [if_neg (show ¬ Config.maxStrips ≤ _ from Nat.not_le.2 room), if_neg (by simpa [Option.mem_def.1 defined] using tag)]

/-! ## What follows the entry -/

theorem lane_enterStrip (l : Lane) (st : Strip) (s : State) : (enterStrip l st s).lane l =
    { s.lane l with strips := (s.lane l).strips ++ [st], arrivalCounter := (s.lane l).arrivalCounter + 1 } :=
  State.lane_setLane_self _ _ _

/-- R33: only in an empty lane is the strip that enters the oldest, so that its settlement is announced. -/
theorem settlementCheck_enterStrip {l : Lane} {st : Strip} (others : ∀ x ∈ (s.lane l).strips, x.arrival ≠ st.arrival) :
    settlementCheck l st.arrival (enterStrip l st s) =
      if (s.lane l).strips = [] ∧ st.unsettled = 0 then raiseStripSettled (enterStrip l st s) else enterStrip l st s := by
  have strips : ((enterStrip l st s).lane l).strips = (s.lane l).strips ++ [st] := by rw [lane_enterStrip]
  cases old : (s.lane l).strips with
  | nil =>
    rw [old] at strips
    simp [settlementCheck, strips, Strip.settled]
  | cons x xs =>
    rw [old] at strips others
    simp [settlementCheck, strips, others x List.mem_cons_self]

/-- The port that takes a STRIP_IN or a STRIP_OUT is the one port in the role INDEXER (R134). -/
theorem role_eq_indexer_iff {q : Port} (roles : RoleLaw s) (role : s.role p = .indexer) : s.role q = .indexer ↔ q = p :=
  ⟨fun h => port_unique roles.2.2.2.1 h role, fun h => h ▸ role⟩

theorem afterRaise_congr_at {q : Port} (role : u.role q = s.role q) (notice : u.notice q = s.notice q) (x : Notice) :
    afterRaise x q u = afterRaise x q s := by
  simp only [afterRaise, role, notice]

/-- R34: STRIP_SETTLED reaches the INDEXER port alone. -/
theorem notice_raiseStripSettled (roles : RoleLaw s) (q : Port) : (raiseStripSettled s).notice q =
    if s.role q = .indexer then afterRaise (.stripSettled (s.oldestSettled .A) (s.oldestSettled .B)) q s else s.notice q :=
  notice_raiseTo roles.2.2.2.1 _ q

theorem only_notices_afterEntry (l : Lane) (st : Strip) (s : State) :
    OnlyChanges [.notices] (enterStrip l st s) (afterEntry l st s) := only_settlementCheck l st.arrival _

theorem notice_afterEntry {l : Lane} {st : Strip} (roles : RoleLaw s) (role : s.role p = .indexer)
    (others : ∀ x ∈ (s.lane l).strips, x.arrival ≠ st.arrival) (q : Port) : (afterEntry l st s).notice q =
      if q = p ∧ (s.lane l).strips = [] ∧ st.unsettled = 0 then
        afterRaise (.stripSettled ((afterEntry l st s).oldestSettled .A) ((afterEntry l st s).oldestSettled .B)) q s
      else s.notice q := by
  have settled : QueueStands (enterStrip l st s) (afterEntry l st s) :=
    .of_lanes ((only_notices_afterEntry l st s).lanes_eq (by simp))
  rw [settled.oldestSettled, settled.oldestSettled, afterEntry, settlementCheck_enterStrip others]
  by_cases first : (s.lane l).strips = [] ∧ st.unsettled = 0
  · have raised := notice_raiseStripSettled (s := enterStrip l st s) roles q
    have indexer : (enterStrip l st s).role q = .indexer ↔ q = p := role_eq_indexer_iff (s := s) roles role
    rw [if_pos first, raised]
    simp only [indexer, and_iff_left first]
    rfl
  · rw [if_neg first, if_neg fun x => first x.2]
    rfl

/-- Table 11-4: only the INDEXER port sends STRIP_IN and STRIP_OUT. -/
theorem indexer_of_taken {k : Kind} (strips : k = .stripIn ∨ k = .stripOut) (taken : Taken k p body s) :
    s.role p = .indexer := by
  rcases strips with rfl | rfl <;> simpa [kindPermits] using taken.2.2

/-- The entry leaves of the re-examined lane's DOT all but the strips as it was. -/
theorem dotKept_afterEntry {k : Kind} (l : Lane) (st : Strip) (free : p ∉ dotPorts s) :
    DotKept l s (afterEntry l st (s.setLink p (.holding k))) := by
  have only := only_notices_afterEntry l st (s.setLink p (.holding k))
  have lane := (lane_eq_of_lanes (only.lanes_eq (by simp)) l).trans (lane_enterStrip l st _)
  refine ⟨only.clock_eq (by simp), only.products_eq (by simp), by rw [lane]; rfl, by rw [lane]; rfl, fun w mw => ?_⟩
  exact ⟨only.gates_eq (by simp), by rw [only.ports_eq (by simp)]; exact port_of_waiter_setLink free mw⟩

theorem queueStands_reply (p : Port) (r : Response) (s : State) : QueueStands s (reply p r s) ∧ DotsStand s (reply p r s) :=
  have lanes := (only_reply p r s).lanes_eq (by simp)
  ⟨.of_lanes lanes, .of_lanes lanes⟩

/-- What an accepted STRIP_IN leaves, but for its answer: the strip at the newest end, the settlement of a strip that is oldest at
once, and the lane's held DOT re-examined. -/
structure Entered (p : Port) (l : Lane) (st : Strip) (s t : State) : Prop where
  ports : PortsKept (p :: dotPorts s) s t
  queue : QueueStands (enterStrip l st s) t
  notices : ∀ q : Port, t.notice q =
    if q = p ∧ (s.lane l).strips = [] ∧ st.unsettled = 0 then
      afterRaise (.stripSettled (t.oldestSettled .A) (t.oldestSettled .B)) q s else s.notice q
  kept : (s.gate l).waiter = none ∨ examine (enterStrip l st s) l = none →
    t.gates = s.gates ∧ t.lanes = (enterStrip l st s).lanes
  served : DotServed l ((s.lane l).strips ++ [st]) (s.lane l).wetAhead s t

theorem entered_of_taken {l : Lane} {st : Strip} (law : DeviceInv s) (taken : Taken .stripIn p body s)
    (laws : Laws .normal (enterStrip l st (s.setLink p (.holding .stripIn)))) (r : Response) :
    AnsweredAt p .stripIn r none s (reply p r (reexamine l (afterEntry l st (s.setLink p (.holding .stripIn))))) ∧
      Entered p l st s (reply p r (reexamine l (afterEntry l st (s.setLink p (.holding .stripIn))))) := by
  have apart := not_mem_dotPorts_of_taken law.link taken
  have dots := dotKept_afterEntry (k := .stripIn) l st apart
  have only := only_notices_afterEntry l st (s.setLink p (.holding .stripIn))
  have others : ∀ x ∈ (s.lane l).strips, x.arrival ≠ st.arrival := by
    have distinct := arrivals_nodup (laws.lanes l).queue
    rw [lane_enterStrip, List.map_append, List.nodup_append] at distinct
    exact fun x mx => distinct.2.2 _ (List.mem_map.2 ⟨x, mx, rfl⟩) _ (List.mem_singleton.2 rfl)
  have indexer : s.role p = .indexer := indexer_of_taken (.inl rfl) taken
  have noticed := notice_afterEntry (s := s.setLink p (.holding .stripIn)) law.roles indexer others
  generalize afterEntry l st (s.setLink p (.holding .stripIn)) = u at dots only noticed ⊢
  have lanes := only.lanes_eq (by simp)
  have lane := (lane_eq_of_lanes lanes l).trans (lane_enterStrip l st _)
  have gates : u.gates = s.gates := only.gates_eq (by simp)
  have gate : u.gate l = s.gate l := by simp only [State.gate, gates]
  have queue : QueueOk s.products (u.lane l) := by rw [lane_eq_of_lanes lanes]; exact (laws.lanes l).queue
  have moved : PortsKept (dotPorts s) (s.setLink p (.holding .stripIn)) (reexamine l u) := by
    refine kept_trans (kept_of_ports_eq (only.ports_eq (by simp)) _) (kept_mono (kept_reexamine l u) fun q m => ?_)
    rw [gate] at m
    exact mem_dotPorts.2 ⟨l, by simpa using m⟩
  obtain ⟨answered, ports⟩ := answered_after_moves (r := r) apart moved
  obtain ⟨queued, dotted⟩ := queueStands_reply p r (reexamine l u)
  have stands := (queueStands_reexamine queue).trans queued
  refine ⟨answered, ports, (QueueStands.of_lanes (s := enterStrip l st s) lanes).trans stands, fun q => ?_, fun none => ?_, ?_⟩
  · rw [stands.oldestSettled, stands.oldestSettled]
    refine Eq.trans ?_ (noticed q)
    exact (notice_congr (reply_notices _ _ _) q).trans (notice_congr ((only_reexamine l u).notices_eq (by simp)) q)
  · have same : reexamine l u = u := by
      refine reexamine_of_kept (none.imp (fun h => gate ▸ h) fun h => ?_)
      rw [examine_eq_none_iff] at h ⊢
      rwa [lane_eq_of_lanes lanes]
    rw [same]
    exact ⟨((only_reply p r u).gates_eq (by simp)).trans gates, ((only_reply p r u).lanes_eq (by simp)).trans lanes⟩
  · have served := dotServed_reexamine dots queue law.link.dotWaiters
    rw [lane] at served
    refine dotServed_later served dotted ((only_reply p r _).gates_eq (by simp)) fun w mw => ?_
    exact kept_handOver p r none _ w.port fun m =>
      apart (mem_dotPorts.2 ⟨l, w, mw, List.mem_singleton.1 m⟩)

/-- Settles O38: the branches of the checks; an accepted strip by what the settlement check and the re-examination leave. -/
theorem stripEnters : Obligations.StripEnters := by
  unfold Obligations.StripEnters
  intro p body s law taken
  refine ⟨fun unnamed => ?_, fun l _ named => ⟨fun full => ?_, fun room bad => ?_, ?_⟩⟩
  · exact ⟨_, exec_of_served taken (serveStripIn_of_unnamed unnamed), answersWith_reply_held _⟩
  · exact ⟨_, exec_of_served taken (serveStripIn_of_full (s := s.setLink p (.holding .stripIn)) named full),
      answersWith_reply_held _⟩
  · exact ⟨_, exec_of_served taken (serveStripIn_of_bad (s := s.setLink p (.holding .stripIn)) named room bad),
      answersWith_reply_held _⟩
  intro c slot room code tag pr defined free lowest listed sites bare strip
  have found := freeSlot_of_lowest free lowest
  have siteList : newSites pr.siteCount (body.drop 7) = strip.sites := newSites_eq _ _
  have new : newStrip (s.setLink p (.holding .stripIn)) l (u32 body 1) c slot (badSitesOfBody body) = strip := by
    have product : (s.setLink p (.holding .stripIn)).product c = pr := product_of_some defined
    simp only [newStrip, product, unsettled_newSites]
    exact congrArg (fun x => { strip with sites := x }) siteList
  have skipped : countSites (fun x => x == .skipped) strip.sites = pr.siteCount - bare.length :=
    siteList ▸ skipped_newSites _ _
  have served := serveStripIn_of_good (p := p) (s := s.setLink p (.holding .stripIn)) named room code tag defined found new
  have laws : Laws .normal (enterStrip l strip (s.setLink p (.holding .stripIn))) :=
    new ▸ (laws_of_taken law taken).enterStrip taken.1.1 named.2 room found (Option.isSome_iff_exists.2 ⟨pr, defined⟩)
  obtain ⟨answered, entered⟩ := entered_of_taken law taken laws
    (okResp (be32 strip.arrival ++ [oct slot.val, oct (pr.siteCount - bare.length)]))
  have lane := lane_enterStrip l strip s
  rw [skipped] at served
  refine ⟨_, exec_of_served taken served, ?_, answered, entered.ports, ?_, ?_, fun q => ?_, fun none => ?_, entered.served⟩
  · rw [← show _ = _ from served]
    exact ((only_setLink s p _).mono (by simp)).trans
      ((only_serveStripIn p body (s.setLink p (.holding .stripIn))).mono (by simp))
  · refine (map_of_headers (entered.queue.headers l) fun h => h.1).trans ?_
    rw [lane, List.map_append]
    rfl
  · rw [entered.queue.counter, lane]
  · rw [entered.notices q]
    simp only [show strip.unsettled = 0 ↔ bare = [] from List.length_eq_zero_iff]
  · refine entered.kept (none.imp_right fun h => (examine_eq_none_iff _ l).2 ?_)
    rw [lane]
    refine h.imp_right fun ⟨bareNil, old⟩ st mst => ?_
    rcases List.mem_append.1 mst with mst | mst
    · exact old st mst
    · rw [List.mem_singleton.1 mst, ← siteList, empty_mem_newSites, not_not]
      exact bareNil

end Sys2Proof.Proofs
end

section
/-! PROOFS. What a departing strip leaves of the wait list and of the notices: a list that is blocked stays so while sites only stop
being WETTED, and no pass and no end of a pairing tells a dispenser or the indexer anything (R16, R94, R102, R108, R110, R141). -/

namespace Sys2Proof.Proofs

open Sys2Proof Sys2Proof.Machine Sys2Proof.Safety

variable {s t u : State}

/-! ## A blocked list (R110) -/

theorem pairings_walk_le (es : List WaitEntry) (s : State) : s.pairings.length ≤ (walk es s).pairings.length := by
  refine walk_keeps (I := fun u => s.pairings.length ≤ u.pairings.length) (fun e u le => ?_) es s le_rfl
  rcases tryEntry_cases e u with ⟨f, k, _, _, _, eq⟩ | ⟨o, eq⟩ | eq <;> rw [eq]
  · rw [pairings_grantPair, List.length_append]
    omega
  · exact le
  · exact le

/-- A walk that grants nothing has met no entry that could be granted. -/
theorem not_grantable_of_walk (es : List WaitEntry) (s : State) (h : (walk es s).pairings = s.pairings) :
    ∀ e ∈ es, ¬ Grantable s e.port e.choice := by
  induction es generalizing s with
  | nil => exact fun _ m => nomatch m
  | cons x es ih =>
    have first : ¬ Grantable s x.port x.choice := fun g => by
      obtain ⟨f, k, _, _, eq⟩ := tryEntry_of_grantable g
      have le := pairings_walk_le es (tryEntry x s)
      have more : (tryEntry x s).pairings.length = s.pairings.length + 1 := by
        rw [eq, pairings_grantPair, List.length_append]; rfl
      have all : (walk es (tryEntry x s)).pairings = s.pairings := h
      rw [all] at le
      omega
    have only : OnlyChanges [.waitList] s (tryEntry x s) := by
      rcases tryEntry_of_not_grantable first with ⟨o, eq⟩ | eq <;> rw [eq]
      · exact only_setObstacle x.port o s
      · exact .refl _ s
    refine List.forall_mem_cons.2 ⟨first, fun e m g => ?_⟩
    refine ih (tryEntry x s) (h.trans (only.pairings_eq (by simp)).symm) e m ?_
    exact (grantable_of_only only (by simp) e.port e.choice).2 g

theorem stuck_of_blocked (h : Blocked s) : Stuck s := not_grantable_of_walk s.waitList s h

/-! ## Fewer WETTED sites -/

/-- Every strip was there before with its number, id and product, and every WETTED site of it was WETTED with the same time. -/
def FewerWet (s t : State) : Prop :=
  ∀ l, ∀ st ∈ (t.lane l).strips, ∃ y ∈ (s.lane l).strips, y.arrival = st.arrival ∧ y.id = st.id ∧ y.product = st.product ∧
    ∀ (i : Nat) (w : Reading), st.sites[i]? = some (Site.wetted w) → y.sites[i]? = some (Site.wetted w)

theorem FewerWet.of_lanes (h : t.lanes = s.lanes) : FewerWet s t := fun l st m =>
  ⟨st, lane_eq_of_lanes h l ▸ m, rfl, rfl, rfl, fun _ _ at_ => at_⟩

theorem FewerWet.trans (h : FewerWet s t) (k : FewerWet t u) : FewerWet s u := by
  intro l st m
  obtain ⟨y, my, arrival, id, product, wet⟩ := k l st m
  obtain ⟨z, mz, arrival', id', product', wet'⟩ := h l y my
  exact ⟨z, mz, arrival'.trans arrival, id'.trans id, product'.trans product, fun i w at_ => wet' i w (wet i w at_)⟩

/-- A site that becomes DISPENSING makes no site WETTED. -/
theorem fewerWet_dispensing (l : Lane) (a : BitVec 32) (i : Nat) (s : State) : FewerWet s (changeSite l a i .dispensing s) := by
  intro k st m
  cases at_ : s.site l a i with
  | none =>
    simp only [changeSite, at_] at m
    exact ⟨st, m, rfl, rfl, rfl, fun _ _ x => x⟩
  | some old =>
    rw [changeSite_of_some at_] at m
    by_cases e : k = l
    · subst e
      rw [State.lane_setLane_self] at m
      rcases mem_updateStrip m with m | ⟨y, my, _, rfl⟩
      · exact ⟨st, m, rfl, rfl, rfl, fun _ _ x => x⟩
      · refine ⟨y, my, rfl, rfl, rfl, fun j w x => ?_⟩
        simp only [Strip.withSite, List.getElem?_set] at x
        split at x
        · split at x <;> simp at x
        · exact x
    · rw [State.lane_setLane_of_ne s _ e] at m
      exact ⟨st, m, rfl, rfl, rfl, fun _ _ x => x⟩

theorem fewerWet_reexamine (l : Lane) (s : State) : FewerWet s (reexamine l s) := by
  rcases reexamine_cases l s with eq | ⟨w, st, i, _, _, eq⟩ <;> rw [eq]
  · exact .of_lanes rfl
  · exact (fewerWet_dispensing l st.arrival i s).trans (.of_lanes (lanes_grantDot _ _ _ _ _ _))

theorem candidates_of_fewerWet (fewer : FewerWet s t) (clock : t.clock = s.clock) (products : t.products = s.products)
    (reach : t.reach = s.reach) {p : Port} {ch : LaneChoice} {c : Candidate} (h : c ∈ candidates t p ch) :
    c ∈ candidates s p ch := by
  rw [mem_candidates] at h ⊢
  obtain ⟨l, allowed, st, m, cand⟩ := h
  obtain ⟨y, my, arrival, id, product, wet⟩ := fewer l st m
  refine ⟨l, by simpa only [laneAllowed, reach] using allowed, y, my, ?_⟩
  rw [mem_stripCandidates] at cand ⊢
  obtain ⟨w, at_, eligible, eq⟩ := cand
  rw [arrival, id, product]
  exact ⟨w, wet _ w at_, by simpa only [State.product, products, clock] using eligible, by rw [← clock]; exact eq⟩

/-- R110: a list of which no entry can be granted stays so while sites only stop being WETTED. -/
theorem stuck_of_fewerWet {parts : List Part} (o : OnlyChanges parts s t)
    (n : ∀ part ∈ [Part.clock, .products, .banks, .reach, .trace, .pairings, .ring, .waitList], part ∉ parts)
    (fewer : FewerWet s t) (h : Stuck s) : Stuck t := by
  have banks := o.banks_eq (n _ (by simp))
  have products := o.products_eq (n _ (by simp))
  have reach := o.reach_eq (n _ (by simp))
  have pairings := o.pairings_eq (n _ (by simp))
  have ring := o.ring_eq (n _ (by simp))
  have clock := o.clock_eq (n _ (by simp))
  rintro e m ⟨room, found, ticket⟩
  rw [o.waitList_eq (n _ (by simp))] at m
  refine h e m ⟨by rw [← o.trace_eq (n _ (by simp))]; exact room, ?_, ?_⟩
  · rw [select_found_iff] at found ⊢
    obtain ⟨bk, active, c, mc, served⟩ := found
    have fewerCands := candidates_of_fewerWet fewer clock products reach mc
    refine ⟨bk, by rw [← activeBank_of_banks banks]; exact active, c, fewerCands, ?_⟩
    simpa only [State.bank, State.product, banks, products, reach] using served
  · rw [nextTicket_isSome_iff] at ticket ⊢
    simpa only [State.ticketHeld, pairings, ring] using ticket

/-! ## Ports that the ends of pairings and the passes tell nothing -/

/-- No source of what an end of a pairing and a pass raise belongs to the port. -/
def Untold (s : State) (q : Port) : Prop :=
  q ≠ 0 ∧ ∀ x ∈ [Source.waferClear, .waferExhausted, .pairingEnded], (s.role q).rankOf x = none

/-- R134, Table 10-1: the INDEXER port and the dispensers' ports are such ports. -/
theorem untold_of_role {q : Port} (roles : RoleLaw s) (h : s.role q = .indexer ∨ ∃ l, s.role q = .dispenser l) : Untold s q := by
  refine ⟨fun e => ?_, ?_⟩
  · subst e
    rw [roles.1] at h
    rcases h with h | ⟨l, h⟩ <;> cases h
  · rcases h with h | ⟨l, h⟩ <;> rw [h]
    · decide
    · cases l <;> decide

/-- The port's notice state and every role stand. -/
def NoticeStands (q : Port) (s t : State) : Prop := t.notice q = s.notice q ∧ t.roles = s.roles

theorem NoticeStands.trans {q : Port} (h : NoticeStands q s t) (k : NoticeStands q t u) : NoticeStands q s u :=
  ⟨k.1.trans h.1, k.2.trans h.2⟩

theorem noticeStands_of_only {parts : List Part} (o : OnlyChanges parts s t) (notices : Part.notices ∉ parts)
    (roles : Part.roles ∉ parts) (q : Port) : NoticeStands q s t :=
  ⟨notice_congr (o.notices_eq notices) q, o.roles_eq roles⟩

theorem Untold.of_roles {q : Port} (h : Untold s q) (roles : t.roles = s.roles) : Untold t q := by
  simpa only [Untold, State.role, roles] using h

theorem noticeStands_raiseAt {q : Port} (p : Port) {x : Notice} (h : (s.role q).rankOf x.source = none) :
    NoticeStands q s (raiseAt p x s) := by
  refine ⟨?_, (only_raiseAt p x s).roles_eq (by simp)⟩
  rw [notice_raiseAt]
  split
  · rename_i e
    subst e
    simp only [afterRaise, h]
  · rfl

theorem noticeStands_raiseTo {q : Port} (r : Role) {x : Notice} (h : (s.role q).rankOf x.source = none) :
    NoticeStands q s (raiseTo r x s) := by
  unfold raiseTo
  split
  · exact ⟨rfl, rfl⟩
  · exact noticeStands_raiseAt _ h

theorem Untold.changeDie {q : Port} (h : Untold s q) (b : BankId) (i : Nat) (r : DieRecord) :
    NoticeStands q s (changeDie b i r s) := by
  unfold Machine.changeDie
  dsimp only
  split
  · exact noticeStands_raiseTo (s := s.setBank b _) .wafer (h.2 _ (by simp [Notice.source]))
  · exact ⟨rfl, rfl⟩

theorem Untold.tryEntry {q : Port} (h : Untold s q) (e : WaitEntry) : NoticeStands q s (tryEntry e s) := by
  rcases tryEntry_cases e s with ⟨f, k, _, _, _, eq⟩ | ⟨o, eq⟩ | eq <;> rw [eq]
  · have claimed : NoticeStands q s (claimDie f { s with lastTicket := k }) :=
      Untold.changeDie (s := { s with lastTicket := k }) h f.bank f.die _
    have paired := noticeStands_of_only (only_pairSite f k (claimDie f { s with lastTicket := k })) (by simp) (by simp) q
    exact (claimed.trans paired).trans (noticeStands_of_only (only_handOver _ _ _ _) (by simp) (by simp) q)
  · exact ⟨rfl, rfl⟩
  · exact ⟨rfl, rfl⟩

theorem Untold.arbiterPasses {q : Port} (h : Untold s q) (n : Nat) : NoticeStands q s (arbiterPasses n s) :=
  arbiterPasses_keeps (I := NoticeStands q s) (fun _ k => arbiterPass_keeps (I := NoticeStands q s)
    (fun e _ k => k.trans ((h.of_roles k.2).tryEntry e)) k) n ⟨rfl, rfl⟩

/-- R125: TRACE_LEVEL is S0's alone. -/
theorem noticeStands_reevalTraceLevel {q : Port} (h : q ≠ 0) (s : State) : NoticeStands q s (reevalTraceLevel s) := by
  refine ⟨?_, (only_reevalTraceLevel s).roles_eq (by simp)⟩
  unfold reevalTraceLevel
  split
  · rfl
  · exact State.notice_setNotice_of_ne s _ h

theorem Untold.closeTrace {q : Port} (h : Untold s q) (pr : Pairing) (k : Option TraceKind) :
    NoticeStands q s (closeTrace pr k s) := by
  unfold Machine.closeTrace
  split
  · exact noticeStands_reevalTraceLevel h.1 _
  · exact ⟨rfl, rfl⟩

theorem Untold.retireIfClear {q : Port} (h : Untold s q) (b : BankId) : NoticeStands q s (retireIfClear b s) := by
  unfold Machine.retireIfClear
  split
  · exact noticeStands_raiseTo (s := s) .wafer (h.2 _ (by simp [Notice.source]))
  · exact ⟨rfl, rfl⟩

/-- R94: the end of a pairing whose site is left alone tells such a port nothing. -/
theorem Untold.endPairing {q : Port} (h : Untold s q) (pr : Pairing) {e : PairEnd} (stays : e.site = none) :
    NoticeStands q s (endPairing pr e s) := by
  have die : NoticeStands q s (releaseDie pr e.die s) := h.changeDie pr.bank _ e.die
  have closed : NoticeStands q s (endedBeforeRetire pr e s) := by
    unfold endedBeforeRetire
    rw [stays]
    exact die.trans ((h.of_roles die.2).closeTrace pr e.record)
  have retired := closed.trans ((h.of_roles closed.2).retireIfClear pr.bank)
  rw [endPairing_eq]
  split
  · exact retired.trans (noticeStands_raiseAt _ ((h.of_roles retired.2).2 _ (by simp [Notice.source])))
  · exact retired

/-! ## The revocations (R36, R102) -/

/-- What the revocations of a departing strip may change. -/
def revokedParts : List Part := [.banks, .trace, .pairings, .ring, .notices]

theorem only_endPairing_none (pr : Pairing) {e : PairEnd} (stays : e.site = none) (s : State) :
    OnlyChanges revokedParts s (endPairing pr e s) := by
  have sorted := only_endPairing_sorted pr e s
  rw [stays] at sorted
  refine OnlyChanges.trans ?_ (sorted.mono (by simp [revokedParts]))
  simp [releaseSite, OnlyChanges, revokedParts, Part.list, Part.same]

theorem only_revocations (sites : List Site) (s : State) : OnlyChanges revokedParts s (revokeSites sites s).2 :=
  revokeSites_keeps (I := OnlyChanges revokedParts s)
    (fun u _ pr _ k => k.trans (only_endPairing_none pr (site_revocationEnd pr u) u)) sites (.refl _ s)

theorem Untold.revokeSites {q : Port} (h : Untold s q) (sites : List Site) : NoticeStands q s (revokeSites sites s).2 :=
  revokeSites_keeps (I := NoticeStands q s)
    (fun u _ pr _ k => k.trans ((h.of_roles k.2).endPairing pr (site_revocationEnd pr u))) sites ⟨rfl, rfl⟩

/-- Each revocation asks for a pass, so revocations that ask for none change nothing. -/
theorem foldl_revokeSite_cases (sites : List Site) (acc : Nat × State) :
    sites.foldl (fun acc x => revokeSite x acc) acc = acc ∨ acc.1 < (sites.foldl (fun acc x => revokeSite x acc) acc).1 := by
  have one : ∀ (x : Site) (acc : Nat × State), revokeSite x acc = acc ∨ acc.1 < (revokeSite x acc).1 := by
    intro x acc
    unfold revokeSite
    split
    · split
      · exact .inr (by simp only [endSignals]; omega)
      · exact .inl rfl
    · exact .inl rfl
  induction sites generalizing acc with
  | nil => exact .inl rfl
  | cons x sites ih =>
    rw [List.foldl_cons]
    rcases one x acc with same | more
    · rw [same]; exact ih acc
    · rcases ih (revokeSite x acc) with same | rest
      · rw [same]; exact .inr more
      · exact .inr (more.trans rest)

theorem revokeSites_of_no_pass {sites : List Site} (none : (revokeSites sites s).1 = 0) : (revokeSites sites s).2 = s := by
  rcases foldl_revokeSite_cases sites (0, s) with same | more
  · exact congrArg Prod.snd same
  · exact absurd none (Nat.ne_of_gt more)

end Sys2Proof.Proofs
end

section
/-! PROOFS. STRIP_OUT: the checks in order, the summary, and what the departure of the oldest strip leaves (R33, R35 to R37, R60,
R102). -/

namespace Sys2Proof.Proofs

open Sys2Proof Sys2Proof.Machine Sys2Proof.Safety

variable {p : Port} {body : List Octet} {s u : State} {l : Lane} {st : Strip} {rest : List Strip}

/-! ## The summary (R36, R37) -/

/-- How many sites of a list have a code (Table 12-3). -/
def codeCount (sites : List Site) (n : Nat) : Nat := (sites.filter (fun x => x.code.toNat == n)).length

theorem countSites_of_code {f : Site → Bool} {n : Nat} (h : ∀ x, f x = (x.code.toNat == n)) (sites : List Site) :
    countSites f sites = codeCount sites n := by
  rw [countSites, codeCount, funext h]

/-- R36: the departing sites that count as spoiled are the SPOILED, DISPENSING, WETTED and PAIRED ones. -/
theorem countSites_of_codes {f : Site → Bool} {a b c d : Nat} (apart : [a, b, c, d].Nodup)
    (h : ∀ x, f x = [a, b, c, d].contains x.code.toNat) (sites : List Site) :
    countSites f sites = codeCount sites a + codeCount sites b + codeCount sites c + codeCount sites d := by
  have one : ∀ n : Nat, (if [a, b, c, d].contains n then 1 else 0) = (if n == a then 1 else 0) + (if n == b then 1 else 0) +
      (if n == c then 1 else 0) + (if n == d then 1 else 0) := by
    intro n
    simp only [List.nodup_cons, List.mem_cons, not_or] at apart
    grind
  induction sites with
  | nil => rfl
  | cons x sites ih =>
    have step := one x.code.toNat
    rw [← h x] at step
    simp only [countSites, codeCount, ← List.countP_eq_length_filter, List.countP_cons] at ih ⊢
    omega

theorem summaryBody_eq (st : Strip) : summaryBody st = be32 st.id ++ be32 st.arrival ++
    [oct (codeCount st.sites 4), oct (codeCount st.sites 5), oct (codeCount st.sites 6),
      oct (codeCount st.sites 7) + oct (codeCount st.sites 1) + oct (codeCount st.sites 2) + oct (codeCount st.sites 3),
      oct (codeCount st.sites 8), oct (codeCount st.sites 9), oct (codeCount st.sites 10), oct (codeCount st.sites 0)] := by
  have add : ∀ a b, oct a + oct b = oct (a + b) := fun a b => (BitVec.ofNat_add a b).symm
  rw [summaryBody, countSites_of_code (n := 4), countSites_of_code (n := 5), countSites_of_code (n := 6),
    countSites_of_codes (a := 7) (b := 1) (c := 2) (d := 3) (by decide), countSites_of_code (n := 8),
    countSites_of_code (n := 9), countSites_of_code (n := 10), countSites_of_code (n := 0), add, add, add]
  all_goals exact fun x => by cases x <;> rfl

/-! ## The checks -/

theorem serveStripOut_of_unnamed (unnamed : ∀ l ∈ bothLanes, ¬ NamesLane (u8 body 0) s l) :
    serveStripOut p body s = reply p (resp .range []) s := by simp only [serveStripOut, laneOf_eq_none unnamed]

theorem serveStripOut_of_empty (named : NamesLane (u8 body 0) s l) (empty : (s.lane l).strips = []) :
    serveStripOut p body s = reply p (resp .noneHere []) s := by
  simp only [serveStripOut, laneOf_eq_some_iff.2 named, empty]

theorem serveStripOut_of_strip (named : NamesLane (u8 body 0) s l) (strips : (s.lane l).strips = st :: rest) :
    serveStripOut p body s = reply p (okResp (summaryBody st)) (departStrip l st s) := by
  simp only [serveStripOut, laneOf_eq_some_iff.2 named, strips]

/-! ## The strip is gone (R35, R36) -/

/-- The oldest strip is gone with its assignment, its pairings revoked before; nothing has been handed on. -/
def departed (l : Lane) (st : Strip) (s : State) : State := removeOldest l (endDepartingDot l st s)

theorem removeOldest_of_cons (strips : (s.lane l).strips = st :: rest) : removeOldest l s = s.setLane l
    { s.lane l with strips := rest, wetAhead := (s.lane l).wetAhead - countSites Site.countsWet st.sites } := by
  simp only [removeOldest, strips]

/-- R25: the strips behind the oldest one are a queue of their own. -/
theorem queueOk_tail {ps : Vector (Option Product) 8} {t : LaneTable} (h : QueueOk ps t) (strips : t.strips = st :: rest)
    (wet : Nat) : QueueOk ps { t with strips := rest, wetAhead := wet } := by
  obtain ⟨four, slots, sizes, arrivals⟩ := h
  have order := Numbered.drop (number := fun y : Strip => y.arrival) arrivals 1
  rw [strips] at four slots sizes order
  exact ⟨(Nat.le_succ _).trans four, (List.nodup_cons.1 slots).2, fun y my => sizes y (List.mem_cons_of_mem _ my), order⟩

theorem endDepartingDot_of_elsewhere (h : ∀ a ∈ (s.gate l).assignment, a.arrival ≠ st.arrival) :
    endDepartingDot l st s = s := by
  unfold endDepartingDot
  split
  · rfl
  · rename_i a assigned
    exact if_neg (h a assigned)

theorem endDepartingDot_of_here {a : Assignment} (assigned : (s.gate l).assignment = some a) (here : a.arrival = st.arrival) :
    endDepartingDot l st s = raiseTo (.dispenser l) (.dotEnded a.stripId a.site .stripGone) (dropAssignment l s) := by
  simp only [endDepartingDot, assigned, here, if_true]

theorem lanes_endDepartingDot (l : Lane) (st : Strip) (s : State) : (endDepartingDot l st s).lanes = s.lanes :=
  (only_endDepartingDot l st s).lanes_eq (by simp)

theorem lane_departed (strips : (s.lane l).strips = st :: rest) : (departed l st s).lane l =
    { s.lane l with strips := rest, wetAhead := (s.lane l).wetAhead - countSites Site.countsWet st.sites } := by
  have lane := lane_eq_of_lanes (lanes_endDepartingDot l st s) l
  rw [departed, removeOldest_of_cons (by rw [lane]; exact strips), State.lane_setLane_self, lane]

theorem only_departed (l : Lane) (st : Strip) (s : State) : OnlyChanges [.lanes, .gates, .notices] s (departed l st s) :=
  ((only_endDepartingDot l st s).mono (by simp)).trans ((only_removeOldest l _).mono (by simp))

/-- R35: no strip and no WETTED site comes with a departure. -/
theorem fewerWet_departed (strips : (s.lane l).strips = st :: rest) : FewerWet s (departed l st s) := by
  have lane := lane_eq_of_lanes (lanes_endDepartingDot l st s)
  intro k y my
  refine ⟨y, ?_, rfl, rfl, rfl, fun _ _ at_ => at_⟩
  by_cases e : k = l
  · subst e
    rw [lane_departed strips] at my
    rw [strips]
    exact List.mem_cons_of_mem _ my
  · rw [departed, removeOldest_of_cons (by rw [lane]; exact strips), State.lane_setLane_of_ne _ _ e, lane] at my
    exact my

/-- R36: an assignment elsewhere stands, and nothing is raised. -/
theorem departed_of_elsewhere (h : ∀ a ∈ (s.gate l).assignment, a.arrival ≠ st.arrival) :
    OnlyChanges [.lanes] s (departed l st s) := by
  rw [departed, endDepartingDot_of_elsewhere h]
  exact only_removeOldest l s

/-- R36: the assignment on the departing strip ends, and DOT_ENDED is raised to the lane's dispenser. -/
theorem departed_of_here (roles : RoleLaw s) {a : Assignment} (assigned : (s.gate l).assignment = some a)
    (here : a.arrival = st.arrival) :
    (departed l st s).gates =
        s.gates.set l { s.gate l with assignment := none, measurement := (s.gate l).measurement.unbind } ∧
      ∀ q : Port, (departed l st s).notice q =
        if s.role q = .dispenser l then afterRaise (.dotEnded a.stripId a.site .stripGone) q s else s.notice q := by
  have gone := only_removeOldest l (endDepartingDot l st s)
  rw [departed]
  refine ⟨?_, fun q => ?_⟩
  · rw [gone.gates_eq (by simp), endDepartingDot_of_here assigned here]
    exact (only_raiseTo _ _ _).gates_eq (by simp)
  · rw [notice_congr (gone.notices_eq (by simp)), endDepartingDot_of_here assigned here]
    exact notice_raiseTo (s := dropAssignment l s) (roleCount_dispenser roles l) _ q

/-- DOT_ENDED is no source of the INDEXER port. -/
theorem notice_departed_indexer (roles : RoleLaw s) {q : Port} (indexer : s.role q = .indexer) :
    (departed l st s).notice q = s.notice q := by
  by_cases h : ∀ a ∈ (s.gate l).assignment, a.arrival ≠ st.arrival
  · exact notice_congr ((departed_of_elsewhere h).notices_eq (by simp)) q
  · push Not at h
    obtain ⟨a, assigned, here⟩ := h
    rw [(departed_of_here roles assigned here).2, if_neg (by rw [indexer]; exact fun e => nomatch e)]

end Sys2Proof.Proofs
end

section
/-! PROOFS. STRIP_OUT as a whole: the departure of the oldest strip, the hand-ons that follow it in order, and the answer (R33, R35
to R37, R60, R102, R108, R110). -/

namespace Sys2Proof.Proofs

open Sys2Proof Sys2Proof.Machine Sys2Proof.Safety

variable {p : Port} {body : List Octet} {s d : State} {l : Lane} {st : Strip} {rest : List Strip}

/-! ## The departure -/

/-- What a departure and its revocations may change before anything is handed on. -/
def goneParts : List Part := .lanes :: .gates :: revokedParts

/-- The oldest strip of a lane has gone, with its pairings and its assignment, while the port of the request holds it. -/
structure Gone (p : Port) (l : Lane) (st : Strip) (rest : List Strip) (s d : State) : Prop where
  only : OnlyChanges goneParts (s.setLink p (.holding .stripOut)) d
  lane : d.lane l =
    { s.lane l with strips := rest, wetAhead := (s.lane l).wetAhead - countSites Site.countsWet st.sites }
  indexer : d.notice p = s.notice p
  elsewhere : (∀ a ∈ (s.gate l).assignment, a.arrival ≠ st.arrival) → d.gates = s.gates
  here : ∀ a ∈ (s.gate l).assignment, a.arrival = st.arrival →
    d.gates = s.gates.set l { s.gate l with assignment := none, measurement := (s.gate l).measurement.unbind } ∧
      ∀ q : Port, s.role q = .dispenser l → d.notice q = afterRaise (.dotEnded a.stripId a.site .stripGone) q s

theorem gone_of_taken (roles : RoleLaw s) (indexer : s.role p = .indexer) (strips : (s.lane l).strips = st :: rest) :
    Gone p l st rest s (departed l st (revokeSites st.sites (s.setLink p (.holding .stripOut))).2) := by
  have revoked := only_revocations st.sites (s.setLink p (.holding .stripOut))
  have untold : ∀ q, s.role q = .indexer ∨ (∃ l, s.role q = .dispenser l) →
      (revokeSites st.sites (s.setLink p (.holding .stripOut))).2.notice q = s.notice q := fun q h =>
    (Untold.revokeSites (s := s.setLink p (.holding .stripOut)) (untold_of_role roles h) st.sites).1
  generalize (revokeSites st.sites (s.setLink p (.holding .stripOut))).2 = r at revoked untold ⊢
  have gates : r.gates = s.gates := revoked.gates_eq (by simp [revokedParts])
  have gate : r.gate l = s.gate l := by simp only [State.gate, gates]
  have lane : r.lane l = s.lane l := lane_eq_of_lanes (revoked.lanes_eq (by simp [revokedParts])) l
  have role : ∀ q, r.role q = s.role q := fun q => by
    simp only [State.role, revoked.roles_eq (by simp [revokedParts])]; rfl
  have roles' : RoleLaw r := by simpa only [RoleLaw, roleCount, role] using roles
  refine ⟨?_, ?_, ?_, fun none => ?_, fun a assigned here => ?_⟩
  · exact (revoked.mono fun _ m => List.mem_cons_of_mem _ (List.mem_cons_of_mem _ m)).trans
      ((only_departed l st r).mono (by simp [revokedParts]))
  · rw [lane_departed (lane ▸ strips), lane]
  · rw [notice_departed_indexer roles' (by rw [role]; exact indexer), untold p (.inl indexer)]
  · exact ((departed_of_elsewhere (gate ▸ none)).gates_eq (by simp)).trans gates
  · obtain ⟨g, notices⟩ := departed_of_here roles' (gate ▸ assigned) here
    refine ⟨by rw [g, gates, gate], fun q dispenser => ?_⟩
    rw [notices, role, if_pos dispenser]
    exact afterRaise_congr_at (role q) (untold q (.inr ⟨l, dispenser⟩)) _

/-- A lane that holds a DOT has no assignment, so that its gate stands (R55). -/
theorem Gone.gates_of_waiter (h : Gone p l st rest s d) (law : AssignmentLaw s) {w : DotWaiter}
    (waits : w ∈ (s.gate l).waiter) : d.gates = s.gates := by
  refine h.elsewhere fun a assigned => ?_
  have none := law l (mem_bothLanes l) (Option.isSome_iff_exists.2 ⟨a, assigned⟩)
  rw [none] at waits
  cases waits

/-- The departure leaves the lane's dot waiter. -/
theorem Gone.waiter (h : Gone p l st rest s d) : (d.gate l).waiter = (s.gate l).waiter := by
  by_cases e : ∀ a ∈ (s.gate l).assignment, a.arrival ≠ st.arrival
  · simp only [State.gate, h.elsewhere e]
  · push Not at e
    obtain ⟨a, assigned, here⟩ := e
    simp only [State.gate, (h.here a assigned here).1, PerLane.get_set_self]

theorem Gone.dotKept (h : Gone p l st rest s d) (law : AssignmentLaw s) (apart : p ∉ dotPorts s) : DotKept l s d := by
  refine ⟨h.only.clock_eq (by simp [goneParts, revokedParts]), h.only.products_eq (by simp [goneParts, revokedParts]),
    by rw [h.lane], by rw [h.lane], fun w mw => ⟨h.gates_of_waiter law mw, ?_⟩⟩
  rw [h.only.ports_eq (by simp [goneParts, revokedParts])]
  exact port_of_waiter_setLink apart mw

/-! ## The hand-ons -/

theorem oldestSettled_iff (s : State) (l : Lane) :
    s.oldestSettled l = true ↔ (s.lane l).strips.head?.map (fun x => x.unsettled) = some 0 := by
  unfold State.oldestSettled
  cases (s.lane l).strips <;> simp [Strip.settled]

/-- R33, R34: the check on the oldest strip tells the INDEXER port alone. -/
theorem notice_settlementCheckOldest (roles : RoleLaw s) (l : Lane) (q : Port) : (settlementCheckOldest l s).notice q =
    if s.oldestSettled l = true ∧ s.role q = .indexer then
      afterRaise (.stripSettled (s.oldestSettled .A) (s.oldestSettled .B)) q s else s.notice q := by
  unfold settlementCheckOldest
  by_cases settled : s.oldestSettled l = true
  · simp only [settled, if_true, notice_raiseStripSettled roles, true_and]
  · simp [settled]

/-- The lane is re-examined, its oldest strip checked, and the passes made (R30, R33, R36, R60, R108). -/
def handedOn (n : Nat) (l : Lane) (d : State) : State := arbiterPasses n (settlementCheckOldest l (reexamine l d))

theorem departStrip_eq (l : Lane) (st : Strip) (s : State) : departStrip l st s =
    handedOn (revokeSites st.sites s).1 l (departed l st (revokeSites st.sites s).2) := rfl

theorem only_told (l : Lane) (d : State) :
    OnlyChanges [.lanes, .gates, .ports, .notices] d (settlementCheckOldest l (reexamine l d)) :=
  ((only_reexamine l d).mono (by simp)).trans ((only_settlementCheckOldest l _).mono (by simp))

theorem gates_handedOn (n : Nat) (l : Lane) (d : State) : (handedOn n l d).gates = (reexamine l d).gates :=
  ((only_arbiterPasses n _).gates_eq (by simp [passParts])).trans ((only_settlementCheckOldest l _).gates_eq (by simp))

/-- After the re-examination no strip comes, goes or settles, and no dot is given or taken. -/
theorem stand_handedOn (n : Nat) (l : Lane) (d : State) :
    QueueStands (reexamine l d) (handedOn n l d) ∧ DotsStand (reexamine l d) (handedOn n l d) := by
  have lanes := (only_settlementCheckOldest l (reexamine l d)).lanes_eq (by simp)
  obtain ⟨queue, dots⟩ := arbiterPasses_stand n (settlementCheckOldest l (reexamine l d))
  exact ⟨(QueueStands.of_lanes lanes).trans queue, (DotsStand.of_lanes lanes).trans dots⟩

/-- R33, R141: of the hand-ons the settlement of the new oldest strip alone reaches the INDEXER port, and none a dispenser. -/
theorem notice_handedOn {ps : Vector (Option Product) 8} (roles : RoleLaw d) (queue : QueueOk ps (d.lane l)) (n : Nat)
    {q : Port} (h : d.role q = .indexer ∨ ∃ k, d.role q = .dispenser k) : (handedOn n l d).notice q =
      if d.oldestSettled l = true ∧ d.role q = .indexer then
        afterRaise (.stripSettled (d.oldestSettled .A) (d.oldestSettled .B)) q d else d.notice q := by
  have only := only_reexamine l d
  have noticed := notice_congr (only.notices_eq (by simp)) q
  have role : ∀ x, (reexamine l d).role x = d.role x := fun x => by simp only [State.role, only.roles_eq (by simp)]
  have told := notice_settlementCheckOldest (s := reexamine l d) (by simpa only [RoleLaw, roleCount, role] using roles) l q
  have stands := queueStands_reexamine queue
  rw [stands.oldestSettled, stands.oldestSettled, stands.oldestSettled, role, noticed,
    afterRaise_congr_at (role q) noticed] at told
  have untold : Untold (settlementCheckOldest l (reexamine l d)) q :=
    (untold_of_role roles h).of_roles ((only_told l d).roles_eq (by simp))
  exact (untold.arbiterPasses n).1.trans told

/-- After the re-examination no port moves but those whose PAIR waits. -/
theorem kept_after_reexamine (n : Nat) (l : Lane) (d : State) : PortsKept (waitPorts d) (reexamine l d) (handedOn n l d) := by
  refine kept_trans (kept_of_ports_eq ((only_settlementCheckOldest l (reexamine l d)).ports_eq (by simp)) _)
    (kept_arbiterPasses n _ fun q m => ?_)
  simpa only [waitPorts, (only_told l d).waitList_eq (by simp)] using m

/-- A re-examination and what comes after it move no port but that of the lane's dot waiter and those whose PAIR waits. -/
theorem kept_handedOn (n : Nat) (l : Lane) (d : State) {moved : List Port} (waits : ∀ q ∈ waitPorts d, q ∈ moved)
    (dots : ∀ w ∈ (d.gate l).waiter, w.port ∈ moved) : PortsKept moved d (handedOn n l d) := by
  refine kept_trans (kept_mono (kept_reexamine l d) fun q m => ?_) (kept_mono (kept_after_reexamine n l d) waits)
  obtain ⟨w, mw, rfl⟩ := Option.map_eq_some_iff.1 (Option.mem_toList.1 m)
  exact dots w mw

/-- A port with a DOT held for it has no PAIR on the wait list (R59, R106). -/
theorem not_mem_waitPorts_of_waiter (law : LinkInv s) {w : DotWaiter} (mw : w ∈ (s.gate l).waiter) : w.port ∉ waitPorts s := by
  intro m
  obtain ⟨e, me, port⟩ := List.mem_map.1 m
  have pair := (law.waitList.2.2 e me).2
  rw [port, (law.dotWaiters l (mem_bothLanes l) w mw).2] at pair
  cases pair

/-- R110: with a pass the list is blocked by the pass, and without one nothing has come that an entry could be granted. -/
theorem stuck_handedOn (n : Nat) (l : Lane) (d : State) (quiet : n = 0 → Stuck d) : Stuck (handedOn n l d) := by
  cases n with
  | zero =>
    exact stuck_of_fewerWet (only_told l d) (by simp)
      ((fewerWet_reexamine l d).trans (.of_lanes ((only_settlementCheckOldest l _).lanes_eq (by simp)))) (quiet rfl)
  | succ n => exact stuck_arbiterPasses n _

/-! ## STRIP_OUT -/

/-- What an accepted STRIP_OUT leaves, but for its answer: the lane without its oldest strip, the settlement of the new oldest one,
the held DOT re-examined, and the assignment that went with the strip. -/
structure StripLeft (p : Port) (l : Lane) (st : Strip) (rest : List Strip) (s t : State) : Prop where
  ports : PortsKept (p :: waitPorts s ++ dotPorts s) s t
  headers : (t.lane l).strips.map header = rest.map header
  counter : (t.lane l).arrivalCounter = (s.lane l).arrivalCounter
  told : t.notice p =
    if rest.head?.map (fun x => x.unsettled) = some 0 then
      afterRaise (.stripSettled (t.oldestSettled .A) (t.oldestSettled .B)) p s else s.notice p
  served : DotServed l rest ((s.lane l).wetAhead - countSites Site.countsWet st.sites) s t
  unheld : (s.gate l).waiter = none →
    (t.lane l).wetAhead = (s.lane l).wetAhead - countSites Site.countsWet st.sites ∧
    ((∀ a ∈ (s.gate l).assignment, a.arrival ≠ st.arrival) → t.gates = s.gates) ∧
    ∀ a ∈ (s.gate l).assignment, a.arrival = st.arrival →
      t.gates = s.gates.set l { s.gate l with assignment := none, measurement := (s.gate l).measurement.unbind } ∧
      ∀ q : Port, s.role q = .dispenser l → t.notice q = afterRaise (.dotEnded a.stripId a.site .stripGone) q s

theorem stripLeft_of_gone (law : DeviceInv s) (taken : Taken .stripOut p body s) (strips : (s.lane l).strips = st :: rest)
    (gone : Gone p l st rest s d) (n : Nat) (r : Response) :
    AnsweredAt p .stripOut r none s (reply p r (handedOn n l d)) ∧ StripLeft p l st rest s (reply p r (handedOn n l d)) := by
  have indexer := indexer_of_taken (.inr rfl) taken
  have noWait := not_mem_waitPorts_of_taken law.link taken
  have noDot := not_mem_dotPorts_of_taken law.link taken
  have dots := gone.dotKept law.assignments noDot
  have role : ∀ q, d.role q = s.role q := fun q => by
    simp only [State.role, gone.only.roles_eq (by simp [goneParts, revokedParts])]; rfl
  have roles : RoleLaw d := by simpa only [RoleLaw, roleCount, role] using law.roles
  have queue : QueueOk s.products (d.lane l) :=
    gone.lane ▸ queueOk_tail ((laws_of_device law).lanes l).queue strips _
  have waits : waitPorts d = waitPorts s := by
    simp only [waitPorts, gone.only.waitList_eq (by simp [goneParts, revokedParts]), State.setLink_waitList]
  have moved : PortsKept (waitPorts s ++ dotPorts s) (s.setLink p (.holding .stripOut)) (handedOn n l d) := by
    refine kept_trans (kept_of_ports_eq (gone.only.ports_eq (by simp [goneParts, revokedParts])) _)
      (kept_handedOn n l d (fun q m => List.mem_append_left _ (waits ▸ m)) fun w mw => List.mem_append_right _ ?_)
    exact mem_dotPorts.2 ⟨l, w, gone.waiter ▸ mw, rfl⟩
  obtain ⟨answered, ports⟩ := answered_after_moves (r := r) (by simp [noWait, noDot]) moved
  obtain ⟨queued, dotted⟩ := queueStands_reply p r (handedOn n l d)
  obtain ⟨stands, wets⟩ := stand_handedOn n l d
  have settled : QueueStands d (reply p r (handedOn n l d)) := ((queueStands_reexamine queue).trans stands).trans queued
  have gates : (reply p r (handedOn n l d)).gates = (reexamine l d).gates :=
    ((only_reply p r _).gates_eq (by simp)).trans (gates_handedOn n l d)
  have notice : ∀ q, (d.role q = .indexer ∨ ∃ k, d.role q = .dispenser k) → (reply p r (handedOn n l d)).notice q = _ :=
    fun q h => (notice_congr (reply_notices _ _ _) q).trans (notice_handedOn roles queue n h)
  refine ⟨answered, ports, ?_, ?_, ?_, ?_, fun unheld => ?_⟩
  · rw [settled.headers, gone.lane]
  · rw [settled.counter, gone.lane]
  · have told := notice p (.inl ((role p).trans indexer))
    rw [settled.oldestSettled, settled.oldestSettled, told, role, afterRaise_congr_at (role p) gone.indexer, gone.indexer]
    simp only [indexer, and_true, oldestSettled_iff, gone.lane]
  · have served := dotServed_reexamine dots queue law.link.dotWaiters
    rw [gone.lane] at served
    refine dotServed_later served (wets.trans dotted) gates fun w mw => ?_
    have apart : w.port ∉ [p] := fun m => noDot (mem_dotPorts.2 ⟨l, w, mw, List.mem_singleton.1 m⟩)
    refine (kept_handOver p r none _ w.port apart).trans (kept_after_reexamine n l d w.port ?_)
    rw [waits]
    exact not_mem_waitPorts_of_waiter law.link mw
  · have same : reexamine l d = d := reexamine_of_kept (.inl (gone.waiter.trans unheld))
    rw [same] at gates wets
    refine ⟨?_, fun elsewhere => gates.trans (gone.elsewhere elsewhere), fun a assigned here => ?_⟩
    · rw [dotted.wet, wets.wet, gone.lane]
    · obtain ⟨ended, raised⟩ := gone.here a assigned here
      refine ⟨gates.trans ended, fun q dispenser => ?_⟩
      rw [notice q (.inr ⟨l, (role q).trans dispenser⟩), if_neg, raised q dispenser]
      rw [role, dispenser]
      exact fun x => nomatch x.2

/-- Settles O39: the branches of the checks; a departure by what goes with the strip and by the hand-ons after it. -/
theorem stripLeaves : Obligations.StripLeaves := by
  unfold Obligations.StripLeaves
  intro p body s law blocked taken
  refine ⟨fun unnamed => ?_, fun l _ named => ⟨fun empty => ?_, fun st rest strips => ?_⟩⟩
  · exact ⟨_, exec_of_served taken (serveStripOut_of_unnamed unnamed), answersWith_reply_held _⟩
  · exact ⟨_, exec_of_served taken (serveStripOut_of_empty (s := s.setLink p (.holding .stripOut)) named empty),
      answersWith_reply_held _⟩
  intro count
  have indexer := indexer_of_taken (.inr rfl) taken
  have served := serveStripOut_of_strip (p := p) (s := s.setLink p (.holding .stripOut)) named strips
  have only := ((only_setLink s p (.holding .stripOut)).mono (by simp [endParts, passParts])).trans
    (only_serveStripOut p body (s.setLink p (.holding .stripOut)))
  rw [summaryBody_eq, departStrip_eq] at served
  rw [served] at only
  have gone := gone_of_taken law.roles indexer strips
  have stuck := stuck_handedOn (revokeSites st.sites (s.setLink p (.holding .stripOut))).1 l
      (departed l st (revokeSites st.sites (s.setLink p (.holding .stripOut))).2) fun none => by
    rw [revokeSites_of_no_pass none]
    exact stuck_of_fewerWet (only_departed l st _) (by simp) (fewerWet_departed strips)
      (stuck_of_only (only_setLink s p _) (by simp) (stuck_of_blocked blocked))
  obtain ⟨answered, left⟩ := stripLeft_of_gone law taken strips gone
    (revokeSites st.sites (s.setLink p (.holding .stripOut))).1 (okResp _)
  refine ⟨_, exec_of_served taken served, only, blocked_of_stuck (stuck_of_only (only_reply p _ _) (by simp) stuck), answered,
    left.ports, map_of_headers left.headers fun h => (h.1, h.2.1, h.2.2.1), left.counter, left.told, left.served, left.unheld⟩

end Sys2Proof.Proofs
end

section
/-! PROOFS. The hand-on of a site that settles, said once: the strip and the counts that it leaves, the held DOT that it re-examines,
and the settlement that it announces (R29 to R31, R33, R34, R60). -/

namespace Sys2Proof.Proofs

open Sys2Proof Sys2Proof.Machine Sys2Proof.Safety

variable {s t u : State} {l : Lane} {st : Strip} {i : Nat} {old new : Site}

/-! ## The settlement check (R33, R34) -/

/-- The arrival number and the unsettled count of the oldest strip of a lane. -/
def oldestCount (s : State) (l : Lane) : Option (BitVec 32 × Nat) :=
  (s.lane l).strips.head?.map (fun x => (x.arrival, x.unsettled))

theorem QueueStands.oldestCount (h : QueueStands s t) (l : Lane) : Proofs.oldestCount t l = Proofs.oldestCount s l := by
  have eq := congrArg List.head? (map_of_headers (h.headers l) fun x => (x.1, x.2.2.2))
  rwa [List.head?_map, List.head?_map] at eq

/-- R33: the check announces a settlement where the strip is the oldest of its lane and has no unsettled site. -/
theorem settlementCheck_eq (l : Lane) (a : BitVec 32) (s : State) :
    settlementCheck l a s = if oldestCount s l = some (a, 0) then raiseStripSettled s else s := by
  unfold settlementCheck oldestCount
  cases (s.lane l).strips with
  | nil => rfl
  | cons x xs => simp [Strip.settled]

/-- R33, R34: a hand-on tells the INDEXER port of a settlement, and no port anything else. -/
theorem notice_handOnSettled (roles : RoleLaw s) {ps : Vector (Option Product) 8} (queue : QueueOk ps (s.lane l))
    (a : BitVec 32) (q : Port) : (handOnSettled l a s).notice q =
      if s.role q = .indexer ∧ oldestCount s l = some (a, 0) then
        afterRaise (.stripSettled (s.oldestSettled .A) (s.oldestSettled .B)) q s else s.notice q := by
  have only := only_reexamine l s
  have noticed := notice_congr (only.notices_eq (by simp)) q
  have role : ∀ x, (reexamine l s).role x = s.role x := fun x => by simp only [State.role, only.roles_eq (by simp)]
  have stands := queueStands_reexamine queue
  rw [handOnSettled, settlementCheck_eq, stands.oldestCount]
  by_cases settled : oldestCount s l = some (a, 0)
  · rw [if_pos settled, notice_raiseStripSettled (by simpa only [RoleLaw, roleCount, role] using roles), role,
      stands.oldestSettled, stands.oldestSettled, afterRaise_congr_at (role q) noticed, noticed]
    simp only [settled, and_true]
  · rw [if_neg settled, if_neg fun c => settled c.2, noticed]

/-- A hand-on leaves of the lanes, the gates and the ports what its re-examination does. -/
theorem sameWork_handOnSettled (l : Lane) (a : BitVec 32) (s : State) : SameWork (reexamine l s) (handOnSettled l a s) :=
  sameWork_of_only (only_settlementCheck l a _) (by simp)

/-- A site that is not EMPTY is left by a re-examination (R57). -/
theorem site_reexamine {ps : Vector (Option Product) 8} {k : Lane} (queue : QueueOk ps (s.lane k)) {a : BitVec 32} {x : Site}
    (at_ : s.site l a i = some x) (other : x ≠ .empty) : (reexamine k s).site l a i = some x := by
  rcases reexamine_cases k s with eq | ⟨w, st, j, _, found, eq⟩ <;> rw [eq]
  · exact at_
  · obtain ⟨_, mst, empty⟩ := examine_spec found
    rw [site_eq_of_lanes (lanes_grantDot _ _ _ _ _ _)]
    exact site_changeSite_of_ne ((site_of_mem queue mst j).trans empty) at_ other _

/-! ## A site that settles -/

/-- What counts as wet is neither settled nor EMPTY (Table 2-5). -/
theorem wet_spec {x : Site} (h : x.countsWet = true) : x.settled = false ∧ x ≠ .empty := by
  cases x with
  | dispensing | wetted | paired => exact ⟨rfl, fun e => nomatch e⟩
  | _ => cases h

/-- What is settled is neither wet nor EMPTY (Table 2-5). -/
theorem settled_spec {x : Site} (h : x.settled = true) : x.countsWet = false ∧ x ≠ .empty := by
  cases x with
  | empty | dispensing | wetted | paired => cases h
  | _ => exact ⟨rfl, fun e => nomatch e⟩

/-- A wet site of a strip of the lane is about to change into a settled state. -/
structure Settling (s : State) (l : Lane) (st : Strip) (i : Nat) (old new : Site) : Prop where
  lane : LaneOk s.products (s.lane l)
  mem : st ∈ (s.lane l).strips
  at_ : st.sites[i]? = some old
  wet : old.countsWet = true
  settled : new.settled = true

/-- The lane as it stands when the site has settled. -/
theorem Settling.lane_changeSite (h : Settling s l st i old new) :
    (changeSite l st.arrival i new s).lane l = laneAfter st.arrival i old new (s.lane l) := by
  rw [changeSite_of_mem h.lane.queue h.mem h.at_, State.lane_setLane_self]

theorem Settling.laneOk (h : Settling s l st i old new) :
    LaneOk s.products ((changeSite l st.arrival i new s).lane l) := by
  rw [h.lane_changeSite]
  exact laneOk_laneAfter h.lane h.mem h.at_ fun wet => absurd wet (by simp [(settled_spec h.settled).1])

/-- R29, R31: the strip and its lane each count one site less. -/
theorem Settling.laneAfter_eq (h : Settling s l st i old new) : laneAfter st.arrival i old new (s.lane l) =
    { s.lane l with
      strips := (s.lane l).strips.map (fun x => if x.arrival = st.arrival then
        { x with sites := x.sites.set i new, unsettled := x.unsettled - 1 } else x)
      wetAhead := (s.lane l).wetAhead - 1 } := by
  have eq : stripAfter st.arrival i old new = fun x => if x.arrival = st.arrival then
      { x with sites := x.sites.set i new, unsettled := x.unsettled - 1 } else x := by
    funext x
    simp [stripAfter, Strip.withSite, recount, (wet_spec h.wet).1, h.settled]
  simp [laneAfter, eq, recount, h.wet, (settled_spec h.settled).1]

/-- R31, R33: the oldest strip has become settled by this site exactly where it is the site's strip and had no other unsettled. -/
theorem Settling.oldestCount_iff (h : Settling s l st i old new) :
    oldestCount (changeSite l st.arrival i new s) l = some (st.arrival, 0) ↔ oldestCount s l = some (st.arrival, 1) := by
  unfold oldestCount
  rw [h.lane_changeSite, h.laneAfter_eq]
  cases strips : (s.lane l).strips with
  | nil => simp
  | cons x xs =>
    simp only [List.map_cons, List.head?_cons, Option.map_some, Option.some.injEq, Prod.mk.injEq]
    by_cases e : x.arrival = st.arrival
    · have same := strip_unique h.lane.queue (by rw [strips]; exact List.mem_cons_self) h.mem e
      subst same
      have count := h.lane.counts.2 x h.mem
      have pos := countSites_pos (f := fun y => !y.settled) h.at_ (by simp [(wet_spec h.wet).1])
      simp only [if_true, true_and]
      omega
    · simp [e]

/-- The EMPTY sites of the lane's strips are those they were. -/
theorem Settling.empty_iff (h : Settling s l st i old new) {x : Strip} (mx : x ∈ (s.lane l).strips) (j : Nat) :
    (stripAfter st.arrival i old new x).sites[j]? = some .empty ↔ x.sites[j]? = some .empty := by
  by_cases c : x.arrival = st.arrival ∧ j = i
  · obtain ⟨arrival, rfl⟩ := c
    have same := strip_unique h.lane.queue mx h.mem arrival
    subst same
    rw [getElem?_stripAfter_self h.at_, h.at_]
    simp [(wet_spec h.wet).2, (settled_spec h.settled).2]
  · rw [getElem?_stripAfter_of_ne c]

/-! ## The held DOT (R60) -/

/-- What is served of a DOT is told by the EMPTY sites and the names of the strips. -/
theorem dotServed_of_map {strips : List Strip} {wet : Nat} {f : Strip → Strip}
    (names : ∀ x, (f x).slot = x.slot ∧ (f x).arrival = x.arrival ∧ (f x).id = x.id ∧ (f x).product = x.product)
    (empties : ∀ x ∈ strips, ∀ j : Nat, (f x).sites[j]? = some .empty ↔ x.sites[j]? = some .empty)
    (h : DotServed l (strips.map f) wet s t) : DotServed l strips wet s t := by
  have none : ∀ x ∈ strips, Site.empty ∉ x.sites → Site.empty ∉ (f x).sites := fun x mx no yes => by
    obtain ⟨j, at_⟩ := List.getElem?_of_mem yes
    exact no (List.mem_of_getElem? ((empties x mx j).1 at_))
  intro w held
  obtain ⟨kept, granted⟩ := h w held
  refine ⟨fun c => kept (c.imp_right fun no y my => ?_), fun room older newer x j split dotted at_ first => ?_⟩
  · obtain ⟨x, mx, rfl⟩ := List.mem_map.1 my
    exact none x mx (no x mx)
  · have mem : ∀ y ∈ older, y ∈ strips := fun y my => split ▸ List.mem_append_left _ my
    have mx : x ∈ strips := by rw [split]; simp
    obtain ⟨slot, arrival, id, product⟩ := names x
    have served := granted room (older.map f) (newer.map f) (f x) j (by rw [split, List.map_append, List.map_cons])
      (fun y my => by obtain ⟨z, mz, rfl⟩ := List.mem_map.1 my; exact none z (mem z mz) (dotted z mz))
      ((empties x mx j).2 at_) fun k lt => fun e => first k lt ((empties x mx k).1 e)
    rwa [slot, arrival, id, product] at served

/-- All that a hand-on reads is as the change of the site has left it. -/
theorem Settling.dotKept (h : Settling s l st i old new) (work : SameWork (changeSite l st.arrival i new s) u) :
    DotKept l s u := by
  have only := only_changeSite l st.arrival i new s
  have lane := (lane_eq_of_lanes work.lanes l).trans h.lane_changeSite
  refine ⟨work.clock.trans (only.clock_eq (by simp)), work.products.trans (only.products_eq (by simp)), by rw [lane]; rfl,
    by rw [lane]; rfl, fun w _ => ⟨work.gates.trans (only.gates_eq (by simp)), ?_⟩⟩
  rw [work.ports, only.ports_eq (by simp)]

theorem gates_of_changed {a : BitVec 32} (work : SameWork (changeSite l a i new s) u) : u.gates = s.gates :=
  work.gates.trans ((only_changeSite l a i new s).gates_eq (by simp))

theorem Settling.queue (h : Settling s l st i old new) (work : SameWork (changeSite l st.arrival i new s) u) :
    QueueOk s.products (u.lane l) := by
  rw [lane_eq_of_lanes work.lanes]
  exact h.laneOk.queue

/-- With no DOT held, a hand-on leaves the lanes, the gates and the ports alone. -/
theorem sameWork_of_unheld {a : BitVec 32} (work : SameWork (changeSite l a i new s) u) (none : (s.gate l).waiter = none) :
    SameWork u (handOnSettled l a u) := by
  have same : reexamine l u = u := reexamine_of_kept (.inl (by rw [State.gate, gates_of_changed work]; exact none))
  have moved := sameWork_handOnSettled l a u
  rwa [same] at moved

/-- R30, R60: the held DOT has been re-examined with the site settled. -/
theorem Settling.dotReexamined (h : Settling s l st i old new) (waiters : DotWaiterLaw s)
    (work : SameWork (changeSite l st.arrival i new s) u) : DotReexamined l s (handOnSettled l st.arrival u) := by
  have lane := ((lane_eq_of_lanes work.lanes l).trans h.lane_changeSite)
  have wet : (u.lane l).wetAhead = (s.lane l).wetAhead - 1 := by rw [lane, h.laneAfter_eq]
  refine ⟨fun none => ?_, ?_⟩
  · have quiet := sameWork_of_unheld work none
    exact ⟨quiet.gates.trans (gates_of_changed work), by rw [lane_eq_of_lanes quiet.lanes, wet]⟩
  · have served := dotServed_reexamine (h.dotKept work) (h.queue work) waiters
    rw [wet, lane] at served
    have moved := sameWork_handOnSettled l st.arrival u
    exact dotServed_later (dotServed_of_map (fun x => by simp) (fun x mx j => h.empty_iff mx j) served) (.of_lanes moved.lanes) moved.gates
      fun w _ => by rw [moved.ports]

/-- R33, R34: the settlement has been announced to the INDEXER port, where it was one. -/
theorem Settling.announced (h : Settling s l st i old new) (roles : RoleLaw s)
    (work : SameWork (changeSite l st.arrival i new s) u) (same : u.roles = s.roles)
    (notices : ∀ q, s.role q = .indexer → u.notice q = s.notice q) :
    SettlementAnnounced l st.arrival s (handOnSettled l st.arrival u) := by
  have role : ∀ q, u.role q = s.role q := fun q => by simp only [State.role, same]
  have stands := (queueStands_reexamine (h.queue work)).trans
    (.of_lanes (sameWork_handOnSettled l st.arrival u).lanes)
  intro q indexer
  rw [notice_handOnSettled (by simpa only [RoleLaw, roleCount, role] using roles) (h.queue work), role,
    stands.oldestSettled, stands.oldestSettled, afterRaise_congr_at (role q) (notices q indexer), notices q indexer,
    (QueueStands.of_lanes work.lanes).oldestCount]
  simp only [h.oldestCount_iff, indexer, true_and]
  rfl

/-- R28: the site reads as it has settled. -/
theorem Settling.site_handOnSettled (h : Settling s l st i old new) (work : SameWork (changeSite l st.arrival i new s) u) :
    (handOnSettled l st.arrival u).site l st.arrival i = some new := by
  rw [site_eq_of_lanes (sameWork_handOnSettled l st.arrival u).lanes]
  refine site_reexamine (h.queue work) ?_ (settled_spec h.settled).2
  rw [site_eq_of_lanes work.lanes]
  exact site_changeSite_self ((site_of_mem h.lane.queue h.mem i).trans h.at_) new

/-- No port moves but that of a held DOT. -/
theorem kept_of_changed {a : BitVec 32} (work : SameWork (changeSite l a i new s) u) :
    PortsKept (dotPorts s) s (handOnSettled l a u) := by
  have changed : u.ports = s.ports := work.ports.trans ((only_changeSite l a i new s).ports_eq (by simp))
  refine kept_trans (kept_of_ports_eq changed _) (kept_trans (kept_mono (kept_reexamine l u) fun q m => ?_)
    (kept_of_ports_eq (sameWork_handOnSettled l a u).ports _))
  rw [State.gate, gates_of_changed work] at m
  exact mem_dotPorts.2 ⟨l, by simpa [State.gate] using m⟩

end Sys2Proof.Proofs
end

section
/-! PROOFS. Responses in hand: once they are handed over, neither the visit nor an expiry decides one that is not handed over at once,
so that none is in hand when a reading ends (R154). -/

namespace Sys2Proof.Proofs

open Sys2Proof Sys2Proof.Machine Sys2Proof.Safety

variable {s t : State}

/-! ## The hand-over of all -/

theorem inHandAt_setLink (p q : Port) (x : Link) (s : State) :
    inHandAt q (s.setLink p x) = if q = p then inHandAt p (s.setLink p x) else inHandAt q s := by
  by_cases e : q = p
  · rw [if_pos e, e]
  · rw [if_neg e, inHandAt, State.link_setLink_of_ne _ _ e, inHandAt]

/-- A port that has handed its response over has none in hand, and no other port gains one. -/
theorem inHandAt_handOverDecided {p q : Port} (h : inHandAt q (handOverDecided p s) = true) :
    inHandAt q s = true ∧ q ≠ p := by
  unfold handOverDecided at h
  split at h
  · rw [inHandAt_setLink] at h
    split at h
    · simp [inHandAt] at h
    · rename_i ne
      exact ⟨h, ne⟩
  · rename_i other
    refine ⟨h, ?_⟩
    rintro rfl
    unfold inHandAt at h
    split at h
    · rename_i link
      exact other _ _ _ link
    · cases h

theorem inHandAt_foldl {q : Port} (ps : List Port)
    (h : inHandAt q (ps.foldl (fun s p => handOverDecided p s) s) = true) : inHandAt q s = true ∧ q ∉ ps := by
  induction ps generalizing s with
  | nil => exact ⟨h, List.not_mem_nil⟩
  | cons p ps ih =>
    obtain ⟨first, rest⟩ := ih h
    obtain ⟨before, ne⟩ := inHandAt_handOverDecided first
    exact ⟨before, fun m => (List.mem_cons.1 m).elim ne rest⟩

theorem noneInHand_handOverAll (s : State) : NoneInHand (handOverAll s) := fun q =>
  Bool.eq_false_iff.2 fun h => (inHandAt_foldl allPorts h).2 (mem_allPorts q)

/-! ## What leaves no response in hand -/

theorem noneInHand_of_only {parts : List Part} (o : OnlyChanges parts s t) (n : Part.ports ∉ parts) (h : NoneInHand s) :
    NoneInHand t := fun q => by
  have link : t.link q = s.link q := by simp only [State.link, o.ports_eq n]
  rw [inHandAt, link]
  exact h q

theorem noneInHand_setLink {p : Port} {x : Link} (h : NoneInHand s) (other : ∀ k r mark, x ≠ .decided k r mark) :
    NoneInHand (s.setLink p x) := fun q => by
  rw [inHandAt_setLink]
  split
  · rw [inHandAt, State.link_setLink_self]
    split
    · exact absurd rfl (other _ _ _)
    · rfl
  · exact h q

theorem noneInHand_handOver (h : NoneInHand s) (p : Port) (r : Response) (mark : Option GrantMark) :
    NoneInHand (handOver p r mark s) := by
  unfold handOver
  split
  · exact noneInHand_setLink h fun _ _ _ e => nomatch e
  · exact h

theorem noneInHand_reexamine (h : NoneInHand s) (l : Lane) : NoneInHand (reexamine l s) := by
  rcases reexamine_cases l s with eq | ⟨w, st, i, _, _, eq⟩ <;> rw [eq]
  · exact h
  · have changed := noneInHand_of_only (only_changeSite l st.arrival i .dispensing _) (by simp)
      (noneInHand_of_only (only_setGate s l { s.gate l with waiter := none }) (by simp) h)
    exact noneInHand_handOver (noneInHand_of_only (only_setGate _ l _) (by simp) changed) _ _ _

theorem noneInHand_handOnSettled (h : NoneInHand s) (l : Lane) (a : BitVec 32) : NoneInHand (handOnSettled l a s) :=
  noneInHand_of_only (only_settlementCheck l a _) (by simp) (noneInHand_reexamine h l)

/-! ## The visit -/

theorem noneInHand_spoilSite (h : NoneInHand s) (l : Lane) (st : Strip) (i : Nat) (w : Reading) :
    NoneInHand (spoilSite l st i w s) :=
  noneInHand_handOnSettled (noneInHand_of_only (only_raiseAt _ _ _) (by simp)
    (noneInHand_of_only (only_changeSite _ _ _ _ s) (by simp) h)) l st.arrival

theorem noneInHand_sweepVisit (h : NoneInHand s) (pos : BitVec 9) : NoneInHand (sweepVisit pos s) := by
  unfold sweepVisit
  dsimp only
  split
  · exact h
  · split
    · exact h
    · split
      · split
        · exact noneInHand_spoilSite h _ _ _ _
        · exact h
      · exact h

theorem noneInHand_takeVisit (h : NoneInHand s) : NoneInHand (takeVisit s) := by
  unfold takeVisit
  split
  · exact noneInHand_sweepVisit (s := { s with visitOwed := false }) h _
  · exact h

theorem noneInHand_catchUp (s : State) : NoneInHand (catchUp s) := noneInHand_takeVisit (noneInHand_handOverAll s)

/-! ## The expiries -/

theorem noneInHand_expireFrame (h : NoneInHand s) (p : Port) : NoneInHand (expireFrame p s) := by
  unfold expireFrame
  split
  · split
    · exact noneInHand_setLink h fun _ _ _ e => nomatch e
    · exact h
  · exact h

theorem noneInHand_expirePairWait (h : NoneInHand s) (p : Port) : NoneInHand (expirePairWait p s) := by
  unfold expirePairWait answerEntry
  split
  · exact h
  · split
    · split
      · exact h
      · exact noneInHand_handOver (s := removeEntry p s) h p _ none
    · exact h

theorem noneInHand_expireDotWait (h : NoneInHand s) (l : Lane) : NoneInHand (expireDotWait l s) := by
  unfold expireDotWait answerWaiter
  split
  · exact h
  · split
    · split
      · exact h
      · exact noneInHand_handOver (noneInHand_of_only (only_setGate s l _) (by simp) h) _ _ none
    · exact h

theorem noneInHand_expireDeadline (h : NoneInHand s) (l : Lane) : NoneInHand (expireDeadline l s) :=
  noneInHand_of_only (only_expireDeadline l s) (by simp) h

theorem noneInHand_grantPair (h : NoneInHand s) (p : Port) (f : Found) (k : Ticket) : NoneInHand (grantPair p f k s) := by
  have claimed : NoneInHand (claimDie f { s with lastTicket := k }) :=
    noneInHand_of_only (only_claimDie f { s with lastTicket := k }) (by simp) h
  have paired := noneInHand_of_only (only_pairSite f k _) (by simp) claimed
  unfold grantPair
  refine noneInHand_handOver ?_ p _ _
  exact paired

theorem noneInHand_tryEntry (h : NoneInHand s) (e : WaitEntry) : NoneInHand (tryEntry e s) := by
  rcases tryEntry_cases e s with ⟨f, k, _, _, _, eq⟩ | ⟨o, eq⟩ | eq <;> rw [eq]
  · exact noneInHand_grantPair h e.port f k
  · exact h
  · exact h

theorem noneInHand_arbiterPasses (h : NoneInHand s) (n : Nat) : NoneInHand (arbiterPasses n s) :=
  arbiterPasses_keeps (I := NoneInHand)
    (fun _ k => arbiterPass_keeps (I := NoneInHand) (fun e _ k => noneInHand_tryEntry k e) k) n h

theorem noneInHand_releaseSite (h : NoneInHand s) (pr : Pairing) (x : Option Site) : NoneInHand (releaseSite pr x s) := by
  cases x with
  | none => exact h
  | some x =>
    have changed := noneInHand_of_only (only_changeSite pr.lane pr.arrival pr.site x s) (by simp) h
    simp only [releaseSite]
    split
    · exact noneInHand_handOnSettled changed _ _
    · exact changed

theorem noneInHand_expireLease (h : NoneInHand s) (k : Ticket) : NoneInHand (expireLease k s) := by
  unfold expireLease
  split
  · exact h
  · split
    · refine noneInHand_arbiterPasses (noneInHand_of_only (only_endPairing_sorted _ _ s) (by simp)
        (noneInHand_releaseSite ?_ _ _)) _
      exact h
    · exact h

theorem noneInHand_takeExpiries (h : NoneInHand s) : NoneInHand (takeExpiries s) := by
  have frames := foldl_keeps (I := NoneInHand) (f := fun s p => expireFrame p s)
    (fun _ p k => noneInHand_expireFrame k p) allPorts h
  have waits := foldl_keeps (I := NoneInHand) (f := fun s p => expirePairWait p s)
    (fun _ p k => noneInHand_expirePairWait k p) allPorts frames
  have dots := noneInHand_expireDotWait (noneInHand_expireDotWait waits .A) .B
  have deadlines := noneInHand_expireDeadline (noneInHand_expireDeadline dots .A) .B
  exact foldl_keeps (I := NoneInHand) (f := fun s k => expireLease k s) (fun _ k i => noneInHand_expireLease i k) _ deadlines

/-- R154: when a reading ends, no response is in hand. -/
theorem noneInHand_settle (s : State) : NoneInHand (settle s) := noneInHand_takeExpiries (noneInHand_catchUp s)

end Sys2Proof.Proofs
end

section
/-! PROOFS. The clock tick: what a step on an empty queue does, the commands of the expiries that are due, and the visit with its age
boundary (R30, R33, R41, R45, R49 to R52, R154). -/

namespace Sys2Proof.Proofs

open Sys2Proof Sys2Proof.Machine Sys2Proof.Safety

variable {m : Mode} {s t : State} {l : Lane} {st : Strip} {i : Nat} {w : Reading}

/-! ## What reads nothing of the queue -/

/-- The state with another queue of commands. -/
def withQueue (q : List Instr) (s : State) : State := { s with pending := q }

/-- The operation neither reads nor changes the queue of commands. -/
abbrev QueueFree (f : State → State) : Prop := ∀ q s, f (withQueue q s) = withQueue q (f s)

theorem queueFree_foldl {α : Type} {f : State → α → State} (h : ∀ x, QueueFree (fun s => f s x)) (xs : List α) :
    QueueFree (fun s => xs.foldl f s) := by
  intro q s
  induction xs generalizing s with
  | nil => rfl
  | cons x xs ih => exact (congrArg (fun u => xs.foldl f u) (h x q s)).trans (ih (f s x))

theorem queueFree_handOver (p : Port) (r : Response) (mark : Option GrantMark) : QueueFree (handOver p r mark) := by
  intro q s
  have link : (withQueue q s).link p = s.link p := rfl
  unfold handOver
  rw [link]
  split <;> rfl

theorem queueFree_handOverDecided (p : Port) : QueueFree (handOverDecided p) := by
  intro q s
  have link : (withQueue q s).link p = s.link p := rfl
  unfold handOverDecided
  rw [link]
  split <;> rfl

theorem queueFree_changeSite (l : Lane) (a : BitVec 32) (i : Nat) (x : Site) : QueueFree (changeSite l a i x) := by
  intro q s
  have site : (withQueue q s).site l a i = s.site l a i := rfl
  unfold changeSite
  rw [site]
  split <;> rfl

theorem queueFree_raiseAt (p : Port) (x : Notice) : QueueFree (raiseAt p x) := by
  intro q s
  have role : (withQueue q s).role p = s.role p := rfl
  unfold raiseAt
  rw [role]
  split <;> rfl

theorem queueFree_raiseTo (r : Role) (x : Notice) : QueueFree (raiseTo r x) := by
  intro q s
  have holder : (withQueue q s).holder r = s.holder r := rfl
  unfold raiseTo
  rw [holder]
  split
  · rfl
  · exact queueFree_raiseAt _ x q s

theorem queueFree_grantDot (l : Lane) (p : Port) (st : Strip) (i : Nat) : QueueFree (grantDot l p st i) := by
  intro q s
  have body : dotGrantBody (withQueue q s) l st i = dotGrantBody s l st i := rfl
  have assignment : assignmentFor (withQueue q s) l st i = assignmentFor s l st i := rfl
  have setGate : ∀ g u, (withQueue q u).setGate l g = withQueue q (u.setGate l g) := fun _ _ => rfl
  simp only [grantDot, body, assignment, queueFree_changeSite, setGate, queueFree_handOver]
  rfl

theorem queueFree_reexamine (l : Lane) : QueueFree (reexamine l) := by
  intro q s
  have gate : (withQueue q s).gate l = s.gate l := rfl
  have found : examine (withQueue q s) l = examine s l := rfl
  have setGate : ∀ g, (withQueue q s).setGate l g = withQueue q (s.setGate l g) := fun _ => rfl
  simp only [reexamine, gate, found, setGate, queueFree_grantDot]
  split
  · rfl
  · split <;> rfl

theorem queueFree_settlementCheck (l : Lane) (a : BitVec 32) : QueueFree (settlementCheck l a) := by
  intro q s
  have oldest : oldestCount (withQueue q s) l = oldestCount s l := rfl
  rw [settlementCheck_eq, settlementCheck_eq, oldest]
  split
  · exact queueFree_raiseTo _ _ q s
  · rfl

theorem queueFree_spoilSite (l : Lane) (st : Strip) (i : Nat) (w : Reading) : QueueFree (spoilSite l st i w) := by
  intro q s
  unfold spoilSite handOnSettled
  rw [queueFree_changeSite, queueFree_raiseAt, queueFree_reexamine, queueFree_settlementCheck]

theorem queueFree_sweepVisit (pos : BitVec 9) : QueueFree (sweepVisit pos) := by
  intro q s
  have lane : (withQueue q s).lane (sweepLane pos) = s.lane (sweepLane pos) := rfl
  have product : ∀ c, (withQueue q s).product c = s.product c := fun _ => rfl
  have clock : (withQueue q s).clock = s.clock := rfl
  have dual : (withQueue q s).dualLane = s.dualLane := rfl
  simp only [sweepVisit, lane, product, clock, dual, queueFree_spoilSite]
  split
  · rfl
  · split
    · rfl
    · split
      · split <;> rfl
      · rfl

theorem queueFree_takeVisit : QueueFree takeVisit := by
  intro q s
  have owed : (withQueue q s).visitOwed = s.visitOwed := rfl
  unfold takeVisit
  rw [owed]
  split
  · exact queueFree_sweepVisit _ q { s with visitOwed := false }
  · rfl

theorem queueFree_catchUp : QueueFree catchUp := by
  intro q s
  have handed := queueFree_foldl (f := fun s p => handOverDecided p s) queueFree_handOverDecided allPorts q s
  exact (congrArg takeVisit handed).trans (queueFree_takeVisit q _)

/-! ## The commands of the expiries (log entry 16) -/

/-- On a part that is not held in reset the commands run one after the other as the operation. -/
def Runs (cs : List Instr) (f : State → State) : Prop :=
  ∀ s, s.resetAsserted = false → execAll cs s = .next (f s) ∧ (f s).resetAsserted = false

theorem execAll_append {xs ys : List Instr} (h : execAll xs s = .next t) : execAll (xs ++ ys) s = execAll ys t := by
  induction xs generalizing s with
  | nil =>
    injection h with same
    rw [List.nil_append, same]
  | cons c xs ih =>
    simp only [List.cons_append, execAll] at h ⊢
    split at h
    · exact ih h
    · cases h
    · cases h

theorem Runs.append {xs ys : List Instr} {f g : State → State} (h : Runs xs f) (k : Runs ys g) :
    Runs (xs ++ ys) (fun s => g (f s)) := by
  intro s live
  obtain ⟨first, still⟩ := h s live
  rw [execAll_append first]
  exact k (f s) still

/-- One command that an event is, of those that leave the RESET pin alone. -/
theorem Runs.one {parts : List Part} {c : Instr} {f : State → State} (h : ∀ s, exec c s = whenLive f s)
    (only : ∀ s, OnlyChanges parts s (f s)) (pin : Part.reset ∉ parts) : Runs [c] f := by
  intro s live
  have next : exec c s = .next (f s) := by rw [h, whenLive, live]; rfl
  exact ⟨by rw [execAll, next]; rfl, ((only s).resetAsserted_eq pin).trans live⟩

theorem Runs.map {α : Type} {c : α → Instr} {f : State → α → State} (h : ∀ x, Runs [c x] (fun s => f s x)) (xs : List α) :
    Runs (xs.map c) (fun s => xs.foldl f s) := by
  induction xs with
  | nil => exact fun s live => ⟨rfl, live⟩
  | cons x xs ih => exact (h x).append ih

/-- The expiries but those of the leases, in the order of a tick. -/
def expireWaits (s : State) : State :=
  let s := allPorts.foldl (fun s p => expireFrame p s) s
  let s := allPorts.foldl (fun s p => expirePairWait p s) s
  expireDeadline .B (expireDeadline .A (expireDotWait .B (expireDotWait .A s)))

theorem takeExpiries_eq (s : State) : takeExpiries s =
    ((expireWaits s).pairings.map (fun pr => pr.ticket)).foldl (fun s k => expireLease k s) (expireWaits s) := rfl

theorem pairings_expireWaits (s : State) : (expireWaits s).pairings = s.pairings := by
  have frames := (OnlyChanges.foldl (f := fun s p => expireFrame p s) (fun u p => only_expireFrame p u) allPorts s).pairings_eq
    (by simp)
  have waits := fun u => (OnlyChanges.foldl (f := fun s p => expirePairWait p s) (fun u p => only_expirePairWait p u) allPorts
    u).pairings_eq (by simp)
  have dots := fun l u => (only_expireDotWait l u).pairings_eq (by simp)
  have deadlines := fun l u => (only_expireDeadline l u).pairings_eq (by simp)
  rw [expireWaits, deadlines, deadlines, dots, dots, waits, frames]

/-- Log entry 16: the commands of what can be due do what a tick does before its clock moves. -/
theorem execAll_dueCommands (live : s.resetAsserted = false) : execAll (dueCommands s) s = .next (takeExpiries s) := by
  have frames := Runs.map (f := fun s p => expireFrame p s)
    (fun p => Runs.one (c := .frameIdleExpiry p) (fun _ => rfl) (only_expireFrame p) (by simp)) allPorts
  have waits := Runs.map (f := fun s p => expirePairWait p s)
    (fun p => Runs.one (c := .pairWaitExpiry p) (fun _ => rfl) (only_expirePairWait p) (by simp)) allPorts
  have dot := fun l => Runs.one (c := .dotWaitExpiry l) (fun _ => rfl) (only_expireDotWait l) (by simp)
  have deadline := fun l => Runs.one (c := .dotDeadlineExpiry l) (fun _ => rfl) (only_expireDeadline l) (by simp)
  have leases := Runs.map (f := fun s k => expireLease k s)
    (fun k => Runs.one (c := .leaseExpiry k) (fun _ => rfl) (only_expireLease k) (by simp [endParts, passParts]))
    (s.pairings.map (fun pr => pr.ticket))
  have four := (dot .A).append ((dot .B).append ((deadline .A).append (deadline .B)))
  have all := (((frames.append waits).append four).append leases) s live
  rw [List.map_map] at all
  rw [takeExpiries_eq, pairings_expireWaits]
  exact all.1

/-! ## The tick -/

theorem exec_clockTick (live : s.resetAsserted = false) : exec .clockTick s = .next (tick s) := by
  show whenLive tick s = _
  rw [whenLive, live]
  rfl

/-- R45: a reading that is finished has nothing in hand, no visit owed and no timer due. -/
theorem settled_settle (law : DeviceInv s) : NoneInHand (settle s) ∧ NoTimerDue (settle s) :=
  ⟨noneInHand_settle s, (takeExpiries_settles (laws_of_device law).catchUp).2⟩

/-- R45: a tick of a finished reading is the tick that finishes it. -/
theorem tick_settle (law : DeviceInv s) : tick (settle s) = tick s := by
  obtain ⟨held, timely⟩ := settled_settle law
  rw [tick, settle_of_nothing_due (visitOwed_settle s) held timely, tick]

theorem resetAsserted_settle (s : State) : (settle s).resetAsserted = s.resetAsserted :=
  (only_settle s).resetAsserted_eq (by simp [settleParts, endParts, passParts])

/-- On an empty queue the part hands over and visits. -/
theorem step_of_empty (live : s.resetAsserted = false) (empty : s.pending = []) : step s = .next (catchUp s) := by
  have idles : idle s = catchUp s := if_neg (by rw [live]; exact fun e => nomatch e)
  rw [← idles]
  unfold step
  rw [empty]

theorem dueCommands_withQueue (q : List Instr) (s : State) : dueCommands (withQueue q s) = dueCommands s := rfl

/-- Log entry 16: what the part does of its own, and then the commands of what is due, finish the reading. -/
theorem execAll_dueCommands_catchUp (live : s.resetAsserted = false) :
    execAll (dueCommands (catchUp (withQueue [] s))) (withQueue s.pending (catchUp (withQueue [] s))) = .next (settle s) := by
  have caught : withQueue s.pending (catchUp (withQueue [] s)) = catchUp s := (queueFree_catchUp s.pending _).symm
  have due : dueCommands (catchUp (withQueue [] s)) = dueCommands (catchUp s) :=
    (congrArg dueCommands (queueFree_catchUp [] s)).trans (dueCommands_withQueue [] _)
  rw [caught, due]
  exact execAll_dueCommands (((only_catchUp s).resetAsserted_eq (by simp [visitParts])).trans live)

theorem sample_eq (g : GateMonitor) : g.sample = { g with ready := g.ready || !g.gateActive } := by
  unfold GateMonitor.sample
  split
  · rename_i active
    rw [active, Bool.not_true, Bool.or_false, ← active]
  · rename_i inactive
    rw [Bool.not_eq_true] at inactive
    rw [inactive, Bool.not_false, Bool.or_true]

/-! ## The visit (R50 to R52) -/

/-- R50: a site whose age has not reached the open time is left, and so is any site that is not WETTED. -/
theorem sweepVisit_of_young {pos : BitVec 9} (young : ∀ st ∈ (s.lane (sweepLane pos)).strips, st.slot.val = sweepSlot pos →
    ∀ w, st.sites[sweepSite pos]? = some (.wetted w) → elapsed w s.clock < (s.product st.product).openTicks) :
    sweepVisit pos s = s := by
  unfold sweepVisit
  dsimp only
  split
  · rfl
  · split
    · rfl
    · rename_i st found
      split
      · rename_i w at_
        have early := young st (List.mem_of_find?_eq_some found) (by simpa using List.find?_some found) w at_
        rw [if_neg (Nat.not_le.2 early)]
      · rfl

/-- R51: a WETTED site whose age has reached the open time is spoiled. -/
theorem sweepVisit_of_old {ps : Vector (Option Product) 8} {pos : BitVec 9} (single : s.dualLane = false → (s.lane .B).strips = [])
    (queue : QueueOk ps (s.lane (sweepLane pos))) (mem : st ∈ (s.lane (sweepLane pos)).strips) (slot : st.slot.val = sweepSlot pos)
    (at_ : st.sites[sweepSite pos]? = some (.wetted w)) (old : (s.product st.product).openTicks ≤ elapsed w s.clock) :
    sweepVisit pos s = spoilSite (sweepLane pos) st (sweepSite pos) w s := by
  have dual : ¬ (sweepLane pos = .B ∧ s.dualLane = false) := by
    rintro ⟨lane, strap⟩
    rw [lane, single strap] at mem
    cases mem
  have found : (s.lane (sweepLane pos)).strips.find? (fun x => x.slot.val == sweepSlot pos) = some st := by
    cases first : (s.lane (sweepLane pos)).strips.find? (fun x => x.slot.val == sweepSlot pos) with
    | none => exact absurd (List.find?_eq_none.1 first st mem) (by simp [slot])
    | some x =>
      have here : x.slot.val = sweepSlot pos := by simpa using List.find?_some first
      rw [slot_unique queue (List.mem_of_find?_eq_some first) mem (Fin.ext (here.trans slot.symm))]
  simp only [sweepVisit, found, at_]
  rw [if_neg (by simpa using dual), if_pos old]

/-- What a spoiled site leaves: the site, the notices of S0 and of the INDEXER port, and the held DOT re-examined. -/
structure Spoiled (l : Lane) (st : Strip) (i : Nat) (w : Reading) (s t : State) : Prop where
  site : t.site l st.arrival i = some (.spoiled w)
  ports : PortsKept (dotPorts s) s t
  told : t.notice 0 = afterRaise (.siteSpoiled l st.id i 1) 0 s
  dot : DotReexamined l s t
  announced : SettlementAnnounced l st.arrival s t
  untold : ∀ q : Port, q ≠ 0 → s.role q ≠ .indexer → t.notice q = s.notice q
  unheld : (s.gate l).waiter = none → t.lanes = s.lanes.set l (laneAfter st.arrival i (.wetted w) (.spoiled w) (s.lane l))

/-- R51, R52: the site, the notice to S0, and the hand-on. -/
theorem spoiled_spoilSite (laws : Laws m s) (mem : st ∈ (s.lane l).strips) (at_ : st.sites[i]? = some (.wetted w)) :
    Spoiled l st i w s (spoilSite l st i w s) := by
  have settling : Settling s l st i (.wetted w) (.spoiled w) := ⟨laws.lanes l, mem, at_, rfl, rfl⟩
  have changed := only_changeSite l st.arrival i (.spoiled w) s
  have raised := only_raiseAt 0 (.siteSpoiled l st.id i 1) (changeSite l st.arrival i (.spoiled w) s)
  have work := sameWork_of_only raised (by simp)
  have roles := (raised.roles_eq (by simp)).trans (changed.roles_eq (by simp))
  have notice : ∀ q, (raiseAt 0 (.siteSpoiled l st.id i 1) (changeSite l st.arrival i (.spoiled w) s)).notice q =
      if q = 0 then afterRaise (.siteSpoiled l st.id i 1) 0 s else s.notice q := fun q => by
    rw [notice_raiseAt, afterRaise_congr (changed.roles_eq (by simp)) (changed.notices_eq (by simp)),
      notice_congr (changed.notices_eq (by simp))]
  unfold spoilSite
  generalize raiseAt 0 (.siteSpoiled l st.id i 1) (changeSite l st.arrival i (.spoiled w) s) = u at work roles notice
  have role : ∀ q, u.role q = s.role q := fun q => by simp only [State.role, roles]
  have supervisor : s.role 0 = .supervisor := laws.roles.1
  have quiet : ∀ q, s.role q ≠ .indexer → (handOnSettled l st.arrival u).notice q = u.notice q := fun q other => by
    rw [notice_handOnSettled (by simpa only [RoleLaw, roleCount, role] using laws.roles) (settling.queue work), role,
      if_neg fun c => other c.1]
  refine ⟨settling.site_handOnSettled work, kept_of_changed work, ?_, ?_, ?_, fun q ne other => ?_, fun none => ?_⟩
  · rw [quiet 0 (by rw [supervisor]; exact fun e => nomatch e), notice, if_pos rfl]
  · exact settling.dotReexamined (fun l _ w mw => ⟨((laws.gates l).waiter w mw).role, ((laws.gates l).waiter w mw).link⟩) work
  · refine settling.announced laws.roles work roles fun q indexer => ?_
    rw [notice, if_neg]
    rintro rfl
    rw [supervisor] at indexer
    cases indexer
  · rw [quiet q other, notice, if_neg ne]
  · rw [(sameWork_of_unheld work none).lanes, work.lanes, changeSite_of_mem settling.lane.queue mem at_]
    rfl

/-- R49: on an empty queue a part with nothing in hand takes the visit that it owes. -/
theorem step_of_visit_owed (live : s.resetAsserted = false) (owed : s.visitOwed = true) (held : NoneInHand s)
    (empty : s.pending = []) : step s = .next (sweepVisit (s.sweepPos - 1) { s with visitOwed := false }) := by
  rw [step_of_empty live empty, catchUp, handOverAll_of_none held, takeVisit, if_pos owed]

/-- Settles O41: the reading is finished as its steps and commands finish it; the tick of a finished reading moves the clock alone;
and the visit is that of a young or of an old site. -/
theorem clockTickVisitsOneSite : Obligations.ClockTickVisitsOneSite := by
  unfold Obligations.ClockTickVisitsOneSite
  intro s law live
  refine ⟨?_, fun settled held timely => ?_, fun owed held empty => ?_⟩
  · obtain ⟨held, timely⟩ := settled_settle law
    refine ⟨_, step_of_empty live rfl, _, execAll_dueCommands_catchUp live, clock_settle s, visitOwed_settle s, held, timely, ?_⟩
    rw [exec_clockTick live, exec_clockTick ((resetAsserted_settle s).trans live), tick_settle law]
  · refine ⟨_, exec_clockTick live, ?_⟩
    rw [tick, settle_of_nothing_due settled held timely]
    refine ⟨only_advanceClock s, rfl, rfl, rfl, ?_⟩
    exact congrArg₂ PerLane.mk (sample_eq _) (sample_eq _)
  · have laws := (laws_of_device law).beginVisit owed
    have visit := only_sweepVisit (s.sweepPos - 1) { s with visitOwed := false }
    have taken : OnlyChanges [.visit] s { s with visitOwed := false } := by simp [OnlyChanges, Part.list, Part.same]
    refine ⟨_, step_of_visit_owed live owed held empty, visit.visitOwed_eq (by simp),
      (taken.mono (by simp)).trans (visit.mono (by simp)), fun young => ?_, fun st mem slot w at_ old => ?_⟩
    · rw [sweepVisit_of_young (s := { s with visitOwed := false }) young]
      exact taken
    · have queue := (laws.lanes (sweepLane (s.sweepPos - 1))).queue
      rw [sweepVisit_of_old (s := { s with visitOwed := false }) laws.single queue mem slot at_ old]
      have spoiled := spoiled_spoilSite laws mem at_
      refine ⟨spoiled.site, spoiled.ports, spoiled.told, spoiled.dot, spoiled.announced, spoiled.untold, fun none => ?_⟩
      have settling : Settling s _ st _ (.wetted w) (.spoiled w) := ⟨laws.lanes _, mem, at_, rfl, rfl⟩
      exact (spoiled.unheld none).trans (congrArg _ settling.laneAfter_eq)

end Sys2Proof.Proofs
end

section
/-! PROOFS. The DISPENSING site of an assignment taken back: the withdrawal of a DOT grant that is closed early, DOT_ABORT, and the
dot deadline (R55, R62, R64, R67, R68, R156, R157). -/

namespace Sys2Proof.Proofs

open Sys2Proof Sys2Proof.Machine Sys2Proof.Safety

variable {p : Port} {body : List Octet} {s : State} {l : Lane} {a : Assignment}

/-! ## The site taken back -/

/-- The table of a lane with the site of an assignment EMPTY again. -/
def takenBack (a : Assignment) (t : LaneTable) : LaneTable :=
  { t with
    strips := t.strips.map
      (fun st => if st.arrival = a.arrival then { st with sites := st.sites.set a.site .empty } else st)
    wetAhead := t.wetAhead - 1 }

/-- R31: a site that was and is unsettled leaves the unsettled count of its strip. -/
theorem withSite_of_unsettled {old new : Site} (was : old.settled = false) (is : new.settled = false) (st : Strip) (i : Nat) :
    st.withSite i old new = { st with sites := st.sites.set i new } := by
  rw [Strip.withSite, was, is, recount_self]

/-- R29: a site that returns from DISPENSING to EMPTY leaves the wet-ahead count. -/
theorem laneAfter_dispensing_empty (a : Assignment) (t : LaneTable) :
    laneAfter a.arrival a.site .dispensing .empty t = takenBack a t := by
  have eq : stripAfter a.arrival a.site .dispensing .empty = fun st =>
      if st.arrival = a.arrival then { st with sites := st.sites.set a.site .empty } else st := by
    funext st
    rw [stripAfter, withSite_of_unsettled rfl rfl]
  rw [laneAfter, eq]
  rfl

/-- R62, R67, R68: what a site taken back leaves. -/
theorem takeBackSite_eq {ps : Vector (Option Product) 8} (queue : QueueOk ps (s.lane l)) (dotted : Dotted (s.lane l) a) :
    takeBackSite l a s = (s.setLane l (takenBack a (s.lane l))).setGate l
      { s.gate l with assignment := none, measurement := (s.gate l).measurement.unbind } := by
  obtain ⟨st, mst, arrival, _, _, at_⟩ := dotted
  have changed := changeSite_of_mem queue mst at_ .empty
  rw [arrival, laneAfter_dispensing_empty] at changed
  rw [takeBackSite, changed]
  rfl

theorem lanes_takeBackSite {ps : Vector (Option Product) 8} (queue : QueueOk ps (s.lane l)) (dotted : Dotted (s.lane l) a) :
    (takeBackSite l a s).lanes = s.lanes.set l (takenBack a (s.lane l)) := by
  rw [takeBackSite_eq queue dotted]
  rfl

theorem gates_takeBackSite (l : Lane) (a : Assignment) (s : State) : (takeBackSite l a s).gates =
    s.gates.set l { s.gate l with assignment := none, measurement := (s.gate l).measurement.unbind } := by
  rw [takeBackSite, dropAssignment, gate_changeSite]
  simp only [State.setGate, (only_changeSite _ _ _ _ _).gates_eq (by simp)]

/-- R64: a measurement with no bound pulse is left by the end of an assignment. -/
theorem unbind_of_unbound {x : Measurement} (h : x.isBound = false) : x.unbind = x := by
  cases x with
  | inProgress w b => exact congrArg (Measurement.inProgress w) h.symm
  | _ => rfl

/-! ## The rise of SEL on a grant that was not read to its end (R156, R157) -/

/-- Table 11-3: SEL is low at a port that is at work. -/
theorem selLow_of_busy (law : LinkLaw s) (live : s.resetAsserted = false) (busy : s.link p ≠ .idle) :
    s.ports[p].selLow = true :=
  Bool.not_eq_false _ ▸ fun high => busy (((law p).1 live).1 high)

/-- R156, R157: a rise of SEL closes the port and withdraws a grant that was not read to its end, or not yet handed over. -/
theorem exec_selRise_of_grant {k : Option Kind} {r : Response} {n : Nat} {mark : GrantMark} (law : LinkLaw s)
    (live : s.resetAsserted = false)
    (cut : (s.link p = .answering k r n (some mark) ∧ n < 8 * (3 + r.body.length)) ∨ s.link p = .decided k r (some mark)) :
    exec (.selRise p) s = .next (withdraw (some mark) (s.setPort p { selLow := false, link := .idle })) := by
  have low : s.ports[p].selLow = true := by
    refine selLow_of_busy law live ?_
    rcases cut with ⟨link, _⟩ | link <;> rw [link] <;> exact fun e => nomatch e
  have link : (s.setPort p { s.ports[p] with selLow := false }).link p = s.link p := by simp [State.link]
  have closes : closeLink p (s.setPort p { s.ports[p] with selLow := false }) =
      withdraw (some mark) (s.setPort p { selLow := false, link := .idle }) := by
    unfold closeLink
    rw [link, setLink_setPort]
    rcases cut with ⟨link, unread⟩ | link <;> rw [link]
    exact if_neg (Nat.not_le.2 unread)
  show execSelRise p s = _
  rw [execSelRise, low, ← closes]
  simp [live]

/-! ## The withdrawal of a DOT grant (R62) -/

theorem mark_eq_iff {slot : Fin 4} {arrival : BitVec 32} {id : Tag} {site : Nat} {deadline : Reading} :
    a.mark l = .dot l slot arrival id site deadline ↔
      a.slot = slot ∧ a.arrival = arrival ∧ a.stripId = id ∧ a.site = site ∧ a.deadline = deadline := by
  simp [Assignment.mark]

/-- R62: the assignment that the mark names is taken back. -/
theorem withdrawDot_of_named (assigned : (s.gate l).assignment = some a) : withdrawDot (a.mark l) s = takeBackSite l a s := by
  have marked : withdrawDot (a.mark l) s = match (s.gate l).assignment with
      | none => s
      | some b => if b.mark l = a.mark l then takeBackSite l b s else s := rfl
  rw [marked, assigned]
  exact if_pos rfl

/-- R62: any other assignment stands. -/
theorem withdrawDot_of_other {slot : Fin 4} {arrival : BitVec 32} {id : Tag} {site : Nat} {deadline : Reading}
    (other : ∀ a ∈ (s.gate l).assignment, a.mark l ≠ .dot l slot arrival id site deadline) :
    withdrawDot (.dot l slot arrival id site deadline) s = s := by
  unfold withdrawDot
  dsimp only
  split
  · rfl
  · rename_i a assigned
    exact if_neg (other a assigned)

/-- Settles O13: the rise of SEL closes the port; the withdrawal takes the site back where the mark still names its assignment. -/
theorem dotGrantWithdrawn : Obligations.DotGrantWithdrawn := by
  unfold Obligations.DotGrantWithdrawn
  intro p k r n l slot arrival id site deadline s law live cut
  have risen := exec_selRise_of_grant law.link.links live cut
  have closed := only_setPort s p { selLow := false, link := .idle }
  have kept : PortsKept [p] s (s.setPort p { selLow := false, link := .idle }) := fun q other =>
    State.ports_setPort_of_ne s _ (by simpa using other)
  have port := State.ports_setPort_self s p { selLow := false, link := .idle }
  refine ⟨fun ⟨a, assigned, named⟩ => ?_, fun other => ?_⟩
  · have laws := laws_of_device law
    have mark := mark_eq_iff (l := l).2 named
    have withdrawn : withdraw (some (.dot l slot arrival id site deadline)) (s.setPort p { selLow := false, link := .idle }) =
        takeBackSite l a (s.setPort p { selLow := false, link := .idle }) := by
      rw [← mark]
      exact withdrawDot_of_named assigned
    have only := only_takeBackSite l a (s.setPort p { selLow := false, link := .idle })
    have ports := only.ports_eq (by simp)
    obtain ⟨_, rfl, _, rfl, _⟩ := named
    refine ⟨_, risen.trans (congrArg _ withdrawn), (closed.mono (by simp)).trans (only.mono (by simp)),
      kept_trans kept (kept_of_ports_eq ports _), by rw [ports]; exact port, ?_, gates_takeBackSite l a _⟩
    exact lanes_takeBackSite (s := s.setPort p _) (laws.lanes l).queue ((laws.gates l).dotted a assigned)
  · have stands : withdraw (some (.dot l slot arrival id site deadline)) (s.setPort p { selLow := false, link := .idle }) =
        s.setPort p { selLow := false, link := .idle } :=
      withdrawDot_of_other fun a assigned mark => other a assigned (mark_eq_iff.1 mark)
    exact ⟨_, risen.trans (congrArg _ stands), closed, kept, port⟩

/-! ## DOT_ABORT (R68) -/

theorem serveDotAbort_of_none (role : s.role p = .dispenser l) (free : (s.gate l).assignment = none) :
    serveDotAbort p body s = reply p (resp .noneHere []) s := by
  simp only [serveDotAbort, role, Role.lane, free]

theorem serveDotAbort_of_bound (role : s.role p = .dispenser l) (assigned : (s.gate l).assignment = some a)
    (bound : (s.gate l).measurement.isBound = true) : serveDotAbort p body s = reply p (resp .busy a.body) s := by
  simp only [serveDotAbort, role, Role.lane, assigned, bound, if_true]

theorem serveDotAbort_of_unbound (role : s.role p = .dispenser l) (assigned : (s.gate l).assignment = some a)
    (unbound : (s.gate l).measurement.isBound = false) :
    serveDotAbort p body s = reply p (okResp a.body) (takeBackSite l a s) := by
  simp [serveDotAbort, role, Role.lane, assigned, unbound]

theorem isBound_iff {x : Measurement} : x.isBound = true ↔ ∃ w, x = .inProgress w true := by
  cases x <;> simp [Measurement.isBound]

/-! ## The dot deadline (R67) -/

theorem exec_dotDeadlineExpiry (live : s.resetAsserted = false) :
    exec (.dotDeadlineExpiry l) s = .next (expireDeadline l s) := by
  show whenLive (expireDeadline l) s = _
  rw [whenLive, live]
  rfl

/-- R67: with no assignment no deadline comes. -/
theorem expireDeadline_of_none (free : (s.gate l).assignment = none) : expireDeadline l s = s := by
  simp only [expireDeadline, free]

/-- Log entry 8: a deadline has come while it runs and the time since it is below half the clock's range. -/
theorem expireDeadline_of_assigned (assigned : (s.gate l).assignment = some a) : expireDeadline l s =
    if a.deadlineRuns = true ∧ elapsed a.deadline s.clock < 2 ^ 31 then
      (if (s.gate l).measurement.isBound then
         s.setGate l { s.gate l with assignment := some { a with deadlineRuns := false } }
       else raiseTo (.dispenser l) (.dotEnded a.stripId a.site .timeout) (takeBackSite l a s))
    else s := by
  simp only [expireDeadline, assigned, deadlineReached, Bool.and_eq_true, decide_eq_true_eq]
  rfl

/-- Settles O37: DOT_ABORT by the branch that its checks take, and the deadline by whether it has come and finds a bound pulse. -/
theorem siteTakenBack : Obligations.SiteTakenBack := by
  unfold Obligations.SiteTakenBack
  intro p body l s law
  have laws := laws_of_device law
  refine ⟨fun taken role => ⟨fun free => ?_, fun a assigned => ⟨fun bound => ?_, fun unbound => ?_⟩⟩,
    fun live => ⟨fun free => ?_, fun a assigned => ?_⟩⟩
  · exact ⟨_, exec_of_served taken (serveDotAbort_of_none (body := body) role free), answersWith_reply_held _⟩
  · exact ⟨_, exec_of_served taken (serveDotAbort_of_bound (body := body) role assigned (isBound_iff.2 bound)),
      answersWith_reply_held _⟩
  · have quiet : (s.gate l).measurement.isBound = false :=
      Bool.eq_false_iff.2 fun bound => (isBound_iff.1 bound).elim unbound
    have gates := gates_takeBackSite l a (s.setLink p (.holding .dotAbort))
    rw [State.gate_setLink, unbind_of_unbound quiet] at gates
    refine ⟨_, exec_of_served taken (serveDotAbort_of_unbound (body := body) role assigned quiet),
      answersWith_reply (only_takeBackSite l a _) (by simp) _, ?_, ((only_reply p _ _).gates_eq (by simp)).trans gates⟩
    exact ((only_reply p _ _).lanes_eq (by simp)).trans
      (lanes_takeBackSite (s := s.setLink p _) (laws.lanes l).queue ((laws.gates l).dotted a assigned))
  · rw [NoEffect, exec_dotDeadlineExpiry live, expireDeadline_of_none free]
  · have expired := expireDeadline_of_assigned assigned
    intro due
    refine ⟨fun early => ?_, fun late bound => ?_, fun late unbound => ?_⟩
    · rw [NoEffect, exec_dotDeadlineExpiry live, expired, if_neg early]
    · rw [if_pos late, if_pos bound] at expired
      exact ⟨_, (exec_dotDeadlineExpiry live).trans (congrArg _ expired), only_setGate s l _, rfl⟩
    · rw [if_pos late, if_neg (Bool.eq_false_iff.1 unbound)] at expired
      have back := only_takeBackSite l a s
      have raised := only_raiseTo (.dispenser l) (.dotEnded a.stripId a.site .timeout) (takeBackSite l a s)
      have roles := back.roles_eq (by simp)
      refine ⟨_, (exec_dotDeadlineExpiry live).trans (congrArg _ expired), (back.mono (by simp)).trans (raised.mono (by simp)),
        ?_, ?_, fun q => ?_⟩
      · rw [raised.gates_eq (by simp), gates_takeBackSite, unbind_of_unbound unbound]
      · exact (raised.lanes_eq (by simp)).trans (lanes_takeBackSite (laws.lanes l).queue ((laws.gates l).dotted a assigned))
      · have one : roleCount (takeBackSite l a s) (.dispenser l) ≤ 1 :=
          roleCount_congr roles _ ▸ roleCount_dispenser law.roles l
        rw [notice_raiseTo one, afterRaise_congr roles (back.notices_eq (by simp)), notice_congr (back.notices_eq (by simp)),
          State.role, roles]
        rfl

end Sys2Proof.Proofs
end

section
/-! PROOFS. DOT: its checks in order, the grant of the site to dot, the answer NONE, and the DOT that is held (R56 to R60). -/

namespace Sys2Proof.Proofs

open Sys2Proof Sys2Proof.Machine Sys2Proof.Safety

variable {p q : Port} {body : List Octet} {s u : State} {l : Lane} {older newer : List Strip} {st : Strip} {i : Nat}

/-! ## The examination (R57) -/

/-- R57: a lane below its limit is served at the first EMPTY site of its oldest strip that holds one. -/
theorem examine_of_first (room : (s.lane l).wetAhead < (s.lane l).wetLimit) (split : (s.lane l).strips = older ++ st :: newer)
    (dotted : ∀ x ∈ older, Site.empty ∉ x.sites) (at_ : st.sites[i]? = some .empty)
    (first : ∀ j < i, st.sites[j]? ≠ some .empty) : examine s l = some (st, i) := by
  rw [examine, if_pos room, split]
  exact siteToDot_of_first dotted at_ first

/-- R57: any other lane cannot be served. -/
theorem examine_of_not_served
    (h : ¬ ((s.lane l).wetAhead < (s.lane l).wetLimit ∧ ∃ st ∈ (s.lane l).strips, Site.empty ∈ st.sites)) :
    examine s l = none := by
  rw [examine_eq_none_iff]
  by_cases room : (s.lane l).wetAhead < (s.lane l).wetLimit
  · exact .inr fun x mx empty => h ⟨room, x, mx, empty⟩
  · exact .inl (Nat.not_lt.1 room)

/-! ## The grant (R58) -/

/-- R29, R31: the lane of a site to dot once the site is DISPENSING: one wet site more, and no strip else changed. -/
theorem laneAfter_empty_dispensing {ps : Vector (Option Product) 8} {t : LaneTable} (queue : QueueOk ps t)
    (split : t.strips = older ++ st :: newer) : laneAfter st.arrival i .empty .dispensing t =
      { t with
        strips := older ++ { st with sites := st.sites.set i .dispensing } :: newer
        wetAhead := t.wetAhead + 1 } := by
  have distinct := arrivals_nodup queue
  rw [split, List.map_append, List.map_cons, List.nodup_append] at distinct
  obtain ⟨_, tail, apart⟩ := distinct
  have before : older.map (stripAfter st.arrival i .empty .dispensing) = older :=
    map_stripAfter_of_absent fun x mx => apart _ (List.mem_map.2 ⟨x, mx, rfl⟩) _ List.mem_cons_self
  have after : newer.map (stripAfter st.arrival i .empty .dispensing) = newer :=
    map_stripAfter_of_absent fun x mx e => (List.nodup_cons.1 tail).1 (List.mem_map.2 ⟨x, mx, e⟩)
  have changed : stripAfter st.arrival i .empty .dispensing st = { st with sites := st.sites.set i .dispensing } := by
    rw [stripAfter, if_pos rfl, withSite_of_unsettled rfl rfl]
  rw [laneAfter, split, List.map_append, List.map_cons, before, after, changed]
  rfl

/-- The assignment of a grant, its deadline in ticks. -/
theorem assignmentFor_eq (s : State) (l : Lane) (st : Strip) (i : Nat) : assignmentFor s l st i =
    { slot := st.slot, arrival := st.arrival, stripId := st.id, site := i
      deadline := s.clock + BitVec.ofNat 32 (10 * (s.lane l).dotDeadlineMs), deadlineRuns := true } := by
  rw [Nat.mul_comm]
  rfl

/-- What the grant of a DOT at a port leaves (R58). -/
structure DotGranted (l : Lane) (q : Port) (older newer : List Strip) (st : Strip) (i : Nat) (s t : State) : Prop where
  only : OnlyChanges [.ports, .lanes, .gates] s t
  ports : PortsKept [q] s t
  answered : AnsweredAt q .dot (okResp (dotGrantBody s l st i)) (some ((assignmentFor s l st i).mark l)) s t
  lanes : t.lanes = s.lanes.set l { s.lane l with
    strips := older ++ { st with sites := st.sites.set i .dispensing } :: newer
    wetAhead := (s.lane l).wetAhead + 1 }
  gates : t.gates = s.gates.set l { s.gate l with waiter := none, assignment := some (assignmentFor s l st i) }

/-- R58: a DOT that its port holds, with no DOT left to wait on the lane, is granted. -/
theorem dotGranted_grantDot {ps : Vector (Option Product) 8} (only : OnlyChanges [.ports, .gates] s u)
    (kept : PortsKept [q] s u) (port : u.ports[q] = { s.ports[q] with link := .holding .dot })
    (gates : u.gates = s.gates.set l { s.gate l with waiter := none }) (queue : QueueOk ps (s.lane l))
    (split : (s.lane l).strips = older ++ st :: newer) (at_ : st.sites[i]? = some .empty) :
    DotGranted l q older newer st i s (grantDot l q st i u) := by
  have link : u.link q = .holding .dot := congrArg PortState.link port
  have lane : u.lane l = s.lane l := lane_eq_of_lanes (only.lanes_eq (by simp)) l
  have mst : st ∈ (s.lane l).strips := by rw [split]; simp
  have body : dotGrantBody u l st i = dotGrantBody s l st i := by
    simp only [dotGrantBody, State.product, only.products_eq (by simp)]
  have assignment : assignmentFor u l st i = assignmentFor s l st i := by
    simp only [assignmentFor, lane, only.clock_eq (by simp)]
  have answered := answeredAt_grantDot link l st i
  have granted := only_grantDot l q st i u
  have lanes : (grantDot l q st i u).lanes = (changeSite l st.arrival i .dispensing u).lanes :=
    (only_handOver q _ _ _).lanes_eq (by simp)
  refine ⟨(only.mono (by simp)).trans (granted.mono (by simp)), ?_, ?_, ?_, ?_⟩
  · refine kept_trans kept (kept_trans (kept_of_ports_eq ?_ _) (kept_handOver q _ _ _))
    exact (only_changeSite _ _ _ _ _).ports_eq (by simp)
  · rw [body, assignment, AnsweredAt, port] at answered
    exact answered
  · rw [lanes, changeSite_of_mem (lane ▸ queue) (lane ▸ mst) at_, lane, laneAfter_empty_dispensing queue split]
    simp only [State.setLane, only.lanes_eq (by simp)]
  · rw [gates_grantDot, assignment, State.gate, gates, PerLane.get_set_self, PerLane.set_set]

/-! ## The checks of DOT (R56) -/

theorem serveDot_of_setup (role : s.role p = .dispenser l) (line : s.line = .setup) :
    serveDot p body s = reply p (resp .state []) s := by
  simp only [serveDot, role, Role.lane, line, if_true]

theorem serveDot_of_paused (role : s.role p = .dispenser l) (line : s.line = .paused) :
    serveDot p body s = reply p (resp .paused []) s := by
  simp [serveDot, role, Role.lane, line]

theorem serveDot_of_assigned {a : Assignment} (role : s.role p = .dispenser l) (line : s.line = .run)
    (assigned : (s.gate l).assignment = some a) : serveDot p body s = reply p (resp .busy a.body) s := by
  simp [serveDot, role, Role.lane, line, assigned]

theorem serveDot_of_free (role : s.role p = .dispenser l) (line : s.line = .run) (free : (s.gate l).assignment = none) :
    serveDot p body s = tryDot l p (u16 body 0).toNat s := by
  simp [serveDot, role, Role.lane, line, free]

/-! ## DOT on a free lane (R57 to R59) -/

theorem tryDot_of_found (found : examine s l = some (st, i)) (waitMs : Nat) :
    tryDot l p waitMs s = grantDot l p st i s := by
  simp only [tryDot, found]

theorem tryDot_of_none (none : examine s l = none) (waitMs : Nat) :
    tryDot l p waitMs s = if waitMs = 0 then reply p (resp .noneHere []) s else holdDot l p waitMs s := by
  simp only [tryDot, none]

/-- R44, R59: the DOT that is held waits for the clamped time, in ticks. -/
theorem gates_holdDot (l : Lane) (p : Port) (ms : Nat) (s : State) : (holdDot l p ms s).gates =
    s.gates.set l { s.gate l with waiter := some { port := p, start := s.clock, length := 10 * min ms 10000 } } := by
  rw [Nat.mul_comm]
  rfl

/-- R44: a clamped wait is 0 only where the request's is. -/
theorem clamped_eq_zero_iff (ms : Nat) : 10 * min ms 10000 = 0 ↔ ms = 0 := by omega

/-- A gate that holds no DOT is the gate with its waiter let go. -/
theorem gates_of_unheld (unheld : (s.gate l).waiter = none) : s.gates = s.gates.set l { s.gate l with waiter := none } := by
  rw [← unheld]
  exact (PerLane.set_get_self s.gates l).symm

/-- Settles O36: the checks of DOT in order, then the examination of its lane; the re-examination of a held DOT by the same
examination. -/
theorem dotServedRefusedOrHeld : Obligations.DotServedRefusedOrHeld := by
  unfold Obligations.DotServedRefusedOrHeld
  intro p body l s law wait room served granted
  have laws := laws_of_device law
  have meets : ∀ {q older newer st i t}, DotGranted l q older newer st i s t → granted q older newer st i t := fun h => by
    obtain ⟨only, ports, answered, lanes, gates⟩ := h
    rw [assignmentFor_eq] at answered gates
    exact ⟨only, ports, answered, lanes, gates⟩
  refine ⟨fun taken role => ⟨fun line => ?_, fun line => ?_, fun line a assigned => ?_, fun line free none => ?_, ?_⟩,
    fun w held => ⟨fun none => ?_, ?_⟩⟩
  · exact ⟨_, exec_of_served taken (serveDot_of_setup (body := body) role line), answersWith_reply_held _⟩
  · exact ⟨_, exec_of_served taken (serveDot_of_paused (body := body) role line), answersWith_reply_held _⟩
  · exact ⟨_, exec_of_served taken (serveDot_of_assigned (body := body) role line assigned), answersWith_reply_held _⟩
  · have tried := (serveDot_of_free (p := p) (body := body) (s := s.setLink p (.holding .dot)) role line free).trans
      (tryDot_of_none (s := s.setLink p (.holding .dot)) (examine_of_not_served none) _)
    refine ⟨fun zero => ?_, fun waits => ?_⟩
    · rw [if_pos ((clamped_eq_zero_iff _).1 zero)] at tried
      exact ⟨_, exec_of_served taken tried, answersWith_reply_held _⟩
    · rw [if_neg fun zero => waits ((clamped_eq_zero_iff _).2 zero)] at tried
      refine ⟨_, exec_of_served taken tried, ((only_setLink s p _).mono (by simp)).trans ((only_setGate _ l _).mono (by simp)),
        kept_trans (kept_setLink p _ s) (kept_of_ports_eq rfl _), State.ports_setLink_self s p _, gates_holdDot l p _ _⟩
  · intro line free room older newer st i split dotted at_ first
    have unheld := laws.unheld role (laws.free_of_receiving (receiving_of_receives taken.1.2))
    have found : examine (s.setLink p (.holding .dot)) l = some (st, i) := examine_of_first room split dotted at_ first
    have served := (serveDot_of_free (p := p) (body := body) (s := s.setLink p (.holding .dot)) role line free).trans
      (tryDot_of_found found _)
    exact ⟨_, exec_of_served taken served, meets (dotGranted_grantDot ((only_setLink s p _).mono (by simp))
      (kept_setLink p _ s) (State.ports_setLink_self s p _) (gates_of_unheld unheld) (laws.lanes l).queue split at_)⟩
  · exact reexamine_of_kept (.inr (examine_of_not_served none))
  · intro room older newer st i split dotted at_ first
    have waits := (laws.gates l).waiter w held
    have port : s.ports[w.port] = { s.ports[w.port] with link := .holding .dot } := by rw [← waits.link]; rfl
    rw [reexamine_of_found held (examine_of_first room split dotted at_ first)]
    exact meets (dotGranted_grantDot ((only_setGate s l _).mono (by simp)) (kept_of_ports_eq rfl _) port rfl
      (laws.lanes l).queue split at_)

end Sys2Proof.Proofs
end

section
/-! PROOFS. The gate inputs: a measurement that starts, a pulse that comes into progress, and a pulse that completes, judged where
it is bound and counted where it is not (R30, R33, R63 to R66, R108). -/

namespace Sys2Proof.Proofs

open Sys2Proof Sys2Proof.Machine Sys2Proof.Safety

variable {s t : State} {l : Lane} {a : Assignment} {after : GateMonitor} {st : Strip} {w : Nat}

/-! ## A pulse comes into progress (R63, R64) -/

/-- Log entry 4: an activity of an active gate is no event. -/
theorem gateRises_of_active (active : (s.gate l).gateActive = true) : gateRises l s = s := by
  simp only [gateRises, active, if_true]

/-- R63: the activity of an inactive gate starts a measurement; the gate was seen inactive before it (log entry 7). -/
theorem gateRises_of_inactive (live : s.resetAsserted = false) (inactive : (s.gate l).gateActive = false) :
    gateRises l s = s.setGate l { s.gate l with ready := true, gateActive := true, measurement := .started } := by
  simp [gateRises, live, inactive, GateMonitor.sample]

theorem exec_measurementStart (l : Lane) (s : State) : exec (.measurementStart l) s = .next (gateRises l s) := rfl

theorem exec_pulseInProgress (live : s.resetAsserted = false) : exec (.pulseInProgress l) s = .next (pulseBegins l s) := by
  show whenLive (pulseBegins l) s = _
  rw [whenLive, live]
  rfl

theorem pulseBegins_of_started (started : (s.gate l).measurement = .started) : pulseBegins l s =
    s.setGate l { s.gate l with measurement := .inProgress 1 (s.gate l).assignment.isSome } := by
  simp only [pulseBegins, started]

/-- Log entry 4: a width without a measurement that has just started is no event. -/
theorem pulseBegins_of_other (other : (s.gate l).measurement ≠ .started) : pulseBegins l s = s := by
  unfold pulseBegins
  split
  · rename_i started
    exact absurd started other
  · rfl

/-- Settles O44: each of the two events by whether the gate is active and whether its measurement has just started. -/
theorem pulseComesIntoProgress : Obligations.PulseComesIntoProgress := by
  unfold Obligations.PulseComesIntoProgress
  intro l s live
  refine ⟨fun active => ?_, fun inactive => ?_, fun started => ?_, fun other => ?_⟩
  · rw [NoEffect, exec_measurementStart, gateRises_of_active active]
  · exact ⟨_, (exec_measurementStart l s).trans (congrArg _ (gateRises_of_inactive live inactive)), only_setGate s l _, rfl⟩
  · exact ⟨_, (exec_pulseInProgress live).trans (congrArg _ (pulseBegins_of_started started)), only_setGate s l _, rfl⟩
  · rw [NoEffect, exec_pulseInProgress live, pulseBegins_of_other other]

/-! ## The end of a measurement (R63) -/

/-- Log entry 4: the fall of an inactive gate is no event. -/
theorem gateFalls_of_inactive (inactive : (s.gate l).gateActive = false) : gateFalls l w s = s := by
  simp [gateFalls, inactive]

/-- R63: a fall ends the measurement; with none, or with a width of 0, it ends no pulse. -/
theorem gateFalls_of_no_pulse (live : s.resetAsserted = false) (active : (s.gate l).gateActive = true)
    (none : (s.gate l).pulseBinding = none ∨ (s.gate l).measurement.widthAt w = 0) :
    gateFalls l w s = s.setGate l { s.gate l with gateActive := false, measurement := .idle, ready := true } := by
  simp only [gateFalls, live, active, Bool.not_true, Bool.false_eq_true, if_false]
  split
  · rename_i b bound
    exact if_pos (none.resolve_left (by rw [bound]; exact fun e => nomatch e))
  · rfl

theorem gateFalls_of_pulse {b : Bool} (live : s.resetAsserted = false) (active : (s.gate l).gateActive = true)
    (binding : (s.gate l).pulseBinding = some b) (wide : (s.gate l).measurement.widthAt w ≠ 0) :
    gateFalls l w s = completePulse l ((s.gate l).measurement.widthAt w) b
      (s.setGate l { s.gate l with gateActive := false, measurement := .idle, ready := true }) := by
  simp only [gateFalls, live, active, binding, Bool.not_true, Bool.false_eq_true, if_false, if_neg wide]

theorem exec_pulseSaturation (live : s.resetAsserted = false) :
    exec (.pulseSaturation l) s = .next (pulseSaturates l s) := by
  show whenLive (pulseSaturates l) s = _
  rw [whenLive, live]
  rfl

/-- Log entry 4: a saturation without a measurement is no event. -/
theorem pulseSaturates_of_none (none : (s.gate l).pulseBinding = none) : pulseSaturates l s = s := by
  simp only [pulseSaturates, none]

theorem pulseSaturates_of_pulse {b : Bool} (binding : (s.gate l).pulseBinding = some b) :
    pulseSaturates l s = completePulse l 65535 b (s.setGate l { s.gate l with measurement := .idle, ready := false }) := by
  simp only [pulseSaturates, binding]
  rfl

/-- What the end of a measurement leaves of its gate: no pulse, and the assignment, the dot waiter and the count as they were. -/
structure PulseOver (g after : GateMonitor) : Prop where
  assignment : after.assignment = g.assignment
  waiter : after.waiter = g.waiter
  orphans : after.orphans = g.orphans
  measurement : after.measurement = .idle

/-! ## An orphan (R66) -/

/-- What an unbound pulse leaves: the count, up to 255, and PULSE_ORPHAN at the lane's dispenser. -/
structure Orphaned (l : Lane) (after : GateMonitor) (s t : State) : Prop where
  only : OnlyChanges [.gates, .notices] s t
  gates : t.gates = s.gates.set l { after with orphans := min 255 ((s.gate l).orphans + 1) }
  told : ∀ q : Port, t.notice q =
    if s.role q = .dispenser l then afterRaise (.pulseOrphan (min 255 ((s.gate l).orphans + 1))) q s else s.notice q

theorem orphaned_completePulse (roles : RoleLaw s) (ended : PulseOver (s.gate l) after) (w : Nat) :
    Orphaned l after s (completePulse l w false (s.setGate l after)) := by
  have counted : completePulse l w false (s.setGate l after) =
      raiseTo (.dispenser l) (.pulseOrphan (min 255 ((s.gate l).orphans + 1)))
        (s.setGate l { after with orphans := min 255 ((s.gate l).orphans + 1) }) := by
    show countOrphan l (s.setGate l after) = _
    rw [countOrphan, State.gate_setGate_self, ended.orphans]
    simp only [State.setGate, PerLane.set_set]
    rfl
  have raised := only_raiseTo (.dispenser l) (.pulseOrphan (min 255 ((s.gate l).orphans + 1)))
    (s.setGate l { after with orphans := min 255 ((s.gate l).orphans + 1) })
  rw [counted]
  refine ⟨((only_setGate s l _).mono (by simp)).trans (raised.mono (by simp)), raised.gates_eq (by simp), fun q => ?_⟩
  exact notice_raiseTo (s := s.setGate l _) (roleCount_dispenser (s := s) roles l) _ q

/-! ## A dot judged (R65) -/

/-- R65: the judgement ends the assignment; a good dot wets its site, a bad one settles it. -/
theorem completePulse_of_bound (assigned : after.assignment = some a) : completePulse l w true (s.setGate l after) =
    if (s.productOf l a.arrival).dotGood w then
      arbiterPass (changeSite l a.arrival a.site (.wetted s.clock) (s.setGate l { after with assignment := none }))
    else
      raiseTo (.dispenser l) (.dotRejected a.stripId a.site w)
        (handOnSettled l a.arrival
          (changeSite l a.arrival a.site .badDot (s.setGate l { after with assignment := none }))) := by
  have ended : (s.setGate l after).setGate l { after with assignment := none } =
      s.setGate l { after with assignment := none } := by
    simp only [State.setGate, PerLane.set_set]
  simp only [completePulse, judgeDot, State.gate_setGate_self, assigned, ended]
  rfl

theorem dotGood_iff (pr : Product) (w : Nat) : pr.dotGood w = true ↔ pr.dotMin ≤ w ∧ w ≤ pr.dotMax := by
  simp [Product.dotGood]

/-! ## A good dot and the pass after it -/

/-- A site change leaves every site elsewhere. -/
theorem site_changeSite_elsewhere {k : Lane} {b c : BitVec 32} {i j : Nat} (apart : ¬ (k = l ∧ b = c ∧ j = i)) (new : Site)
    (s : State) : (changeSite k b j new s).site l c i = s.site l c i := by
  cases changed : s.site k b j with
  | none => simp only [changeSite, changed]
  | some old =>
    rw [changeSite_of_some changed]
    by_cases lane : l = k
    · subst lane
      simp only [State.site, State.strip, State.lane_setLane_self]
      rw [find_updateStrip (f := fun st => st.withSite j old new) (fun _ => rfl)]
      split
      · rename_i arrival
        have place : j ≠ i := fun e => apart ⟨rfl, arrival.symm, e⟩
        cases (s.lane l).strips.find? (fun st => st.arrival == c) with
        | none => rfl
        | some st => simp [Strip.withSite, List.getElem?_set_ne place]
      · rfl
    · simp only [State.site, State.strip, State.lane_setLane_of_ne s _ lane]

/-- The site is WETTED with this wet time, or has been paired with it since. -/
def WetSince (l : Lane) (c : BitVec 32) (i : Nat) (r : Reading) (s : State) : Prop :=
  s.site l c i = some (.wetted r) ∨ ∃ k, s.site l c i = some (.paired r k)

/-- R92, step 3: a pairing keeps the wet time of the site that it takes, and leaves every other site. -/
theorem WetSince.pairSite {c : BitVec 32} {i : Nat} {r : Reading} (h : WetSince l c i r s) (f : Found) (k : Ticket) :
    WetSince l c i r (pairSite f k s) := by
  unfold Machine.pairSite
  split
  · rename_i v wet
    by_cases here : f.cand.lane = l ∧ f.cand.arrival = c ∧ f.cand.site = i
    · obtain ⟨rfl, rfl, rfl⟩ := here
      have time : v = r := by
        rcases h with at_ | ⟨_, at_⟩ <;> rw [wet] at at_ <;> cases at_
        rfl
      exact .inr ⟨k, time ▸ site_changeSite_self wet _⟩
    · rw [WetSince, site_changeSite_elsewhere here]
      exact h
  · exact h

theorem WetSince.of_lanes {c : BitVec 32} {i : Nat} {r : Reading} (h : WetSince l c i r s) (lanes : t.lanes = s.lanes) :
    WetSince l c i r t := by
  rw [WetSince, site_eq_of_lanes lanes]
  exact h

theorem WetSince.arbiterPass {c : BitVec 32} {i : Nat} {r : Reading} (h : WetSince l c i r s) :
    WetSince l c i r (arbiterPass s) := by
  refine arbiterPass_keeps (fun e u k => ?_) h
  rcases tryEntry_cases e u with ⟨f, ticket, _, _, _, eq⟩ | ⟨o, eq⟩ | eq <;> rw [eq]
  · exact (k.pairSite f ticket).of_lanes (lanes_grantPair e.port f ticket u)
  · exact k.of_lanes rfl
  · exact k

/-- R28: a site that is PAIRED is so under the ticket of a pairing in flight. -/
theorem Laws.paired_of_wetSince {c : BitVec 32} {i : Nat} {r : Reading} (laws : Laws .normal s) (h : WetSince l c i r s) :
    s.site l c i = some (.wetted r) ∨ ∃ pr ∈ s.pairings, s.site l c i = some (.paired r pr.ticket) := by
  refine h.imp_right fun ⟨k, at_⟩ => ?_
  obtain ⟨st, found, site⟩ := Option.bind_eq_some_iff.1 at_
  have paired := (laws.sites l st (List.mem_of_find?_eq_some found) i _ site).paired k rfl
  obtain ⟨pr, mpr, ticket, _⟩ := paired.resolve_left id
  exact ⟨pr, mpr, ticket ▸ at_⟩

/-- What a good dot leaves: its site WETTED at the present reading, or paired by the pass, which leaves nothing to grant. -/
structure DotWetted (l : Lane) (a : Assignment) (s t : State) : Prop where
  only : OnlyChanges (.gates :: passParts) s t
  ports : PortsKept (waitPorts s) s t
  blocked : Blocked t
  wet : (t.lane l).wetAhead = (s.lane l).wetAhead
  site : WetSince l a.arrival a.site s.clock t

theorem dotWetted_arbiterPass {ps : Vector (Option Product) 8} (queue : QueueOk ps (s.lane l)) (mem : st ∈ (s.lane l).strips)
    (arrival : st.arrival = a.arrival) (at_ : st.sites[a.site]? = some .dispensing) (g : GateMonitor) :
    DotWetted l a s (arbiterPass (changeSite l a.arrival a.site (.wetted s.clock) (s.setGate l g))) := by
  rw [← arrival]
  have changed := only_changeSite l st.arrival a.site (.wetted s.clock) (s.setGate l g)
  have site : (s.setGate l g).site l st.arrival a.site = some .dispensing := (site_of_mem queue mem a.site).trans at_
  have wet := (arbiterPasses_stand 1 (changeSite l st.arrival a.site (.wetted s.clock) (s.setGate l g))).2.wet l
  refine ⟨?_, ?_, blocked_of_stuck (stuck_arbiterPass _), wet.trans ?_, ?_⟩
  · exact (((only_setGate s l g).mono (by simp)).trans (changed.mono (by simp [passParts]))).trans
      ((only_arbiterPass _).mono fun _ m => List.mem_cons_of_mem _ m)
  · refine kept_trans (kept_of_ports_eq (changed.ports_eq (by simp)) _) (kept_mono (kept_arbiterPass _) fun q m => ?_)
    rwa [waitPorts, changed.waitList_eq (by simp)] at m
  · rw [changeSite_of_some site, State.lane_setLane_self]
    exact recount_self _ _
  · rw [← arrival]
    exact WetSince.arbiterPass (.inl (site_changeSite_self site _))

/-! ## A bad dot and its hand-on -/

/-- R60: with no DOT held, a hand-on is the settlement check. -/
theorem handOnSettled_of_unheld (unheld : (s.gate l).waiter = none) (c : BitVec 32) :
    handOnSettled l c s = settlementCheck l c s := by
  rw [handOnSettled, reexamine_of_kept (.inl unheld)]

theorem role_congr (roles : t.roles = s.roles) (q : Port) : t.role q = s.role q := by simp only [State.role, roles]

theorem roleLaw_congr (roles : t.roles = s.roles) (h : RoleLaw s) : RoleLaw t := by
  simpa only [RoleLaw, roleCount, role_congr roles] using h

/-- The oldest strip of a lane is this one and has one site unsettled. -/
theorem oldestCount_eq_iff {ps : Vector (Option Product) 8} (queue : QueueOk ps (s.lane l)) (mem : st ∈ (s.lane l).strips) :
    oldestCount s l = some (st.arrival, 1) ↔ (s.lane l).strips.head? = some st ∧ st.unsettled = 1 := by
  rw [oldestCount, Option.map_eq_some_iff]
  constructor
  · rintro ⟨x, first, names⟩
    obtain ⟨arrival, count⟩ := Prod.mk.inj names
    have same := strip_unique queue (List.mem_of_head? first) mem arrival
    subst same
    exact ⟨first, count⟩
  · rintro ⟨first, count⟩
    exact ⟨st, first, by rw [count]⟩

/-- What a bad dot leaves: its site BAD_DOT, DOT_REJECTED at the dispenser, and STRIP_SETTLED where that settled the oldest
strip. -/
structure DotRejected (l : Lane) (a : Assignment) (st : Strip) (w : Nat) (s t : State) : Prop where
  only : OnlyChanges [.gates, .lanes, .notices] s t
  lanes : t.lanes = s.lanes.set l { s.lane l with
    strips := (s.lane l).strips.map (fun x => if x.arrival = a.arrival then
      { x with sites := x.sites.set a.site .badDot, unsettled := x.unsettled - 1 } else x)
    wetAhead := (s.lane l).wetAhead - 1 }
  told : ∀ q : Port, t.notice q =
    if s.role q = .dispenser l then afterRaise (.dotRejected a.stripId a.site w) q s
    else if s.role q = .indexer ∧ (s.lane l).strips.head? = some st ∧ st.unsettled = 1 then
      afterRaise (.stripSettled (t.oldestSettled .A) (t.oldestSettled .B)) q s
    else s.notice q

theorem dotRejected_handOnSettled (roles : RoleLaw s) (lane : LaneOk s.products (s.lane l)) (mem : st ∈ (s.lane l).strips)
    (arrival : st.arrival = a.arrival) (at_ : st.sites[a.site]? = some .dispensing) {g : GateMonitor} (unheld : g.waiter = none)
    (w : Nat) : DotRejected l a st w s (raiseTo (.dispenser l) (.dotRejected a.stripId a.site w)
      (handOnSettled l a.arrival (changeSite l a.arrival a.site .badDot (s.setGate l g)))) := by
  have settling : Settling (s.setGate l g) l st a.site .dispensing .badDot := ⟨lane, mem, at_, rfl, rfl⟩
  have changed := only_changeSite l st.arrival a.site .badDot (s.setGate l g)
  have lanes : (changeSite l st.arrival a.site .badDot (s.setGate l g)).lanes =
      s.lanes.set l (laneAfter st.arrival a.site .dispensing .badDot (s.lane l)) := by
    rw [changeSite_of_mem (s := s.setGate l g) lane.queue mem at_]
    rfl
  have table := settling.laneAfter_eq
  rw [arrival] at table
  have oldest := settling.oldestCount_iff.trans (oldestCount_eq_iff (s := s.setGate l g) lane.queue mem)
  have noticed := notice_handOnSettled (roleLaw_congr (s := s) (changed.roles_eq (by simp)) roles) settling.laneOk.queue
    st.arrival
  rw [← arrival]
  have handed : OnlyChanges [.notices] (changeSite l st.arrival a.site .badDot (s.setGate l g))
      (handOnSettled l st.arrival (changeSite l st.arrival a.site .badDot (s.setGate l g))) := by
    rw [handOnSettled_of_unheld (by rw [gate_changeSite, State.gate_setGate_self]; exact unheld)]
    exact only_settlementCheck l st.arrival _
  generalize changeSite l st.arrival a.site .badDot (s.setGate l g) = c at changed lanes oldest noticed handed ⊢
  have role : ∀ q, c.role q = s.role q := role_congr (changed.roles_eq (by simp))
  have notice : ∀ q, c.notice q = s.notice q := notice_congr (changed.notices_eq (by simp))
  simp only [role, notice, oldest, State.lane_setGate, afterRaise_congr_at (role _) (notice _)] at noticed
  generalize handOnSettled l st.arrival c = h at handed noticed ⊢
  have handedRole : ∀ q, h.role q = s.role q := fun q => (role_congr (handed.roles_eq (by simp)) q).trans (role q)
  have raised := only_raiseTo (.dispenser l) (.dotRejected a.stripId a.site w) h
  have stands : QueueStands c (raiseTo (.dispenser l) (.dotRejected a.stripId a.site w) h) :=
    .of_lanes ((raised.lanes_eq (by simp)).trans (handed.lanes_eq (by simp)))
  refine ⟨?_, ?_, fun q => ?_⟩
  · exact (((only_setGate s l g).mono (by simp)).trans (changed.mono (by simp))).trans
      ((handed.mono (by simp)).trans (raised.mono (by simp)))
  · rw [raised.lanes_eq (by simp), handed.lanes_eq (by simp), lanes, arrival]
    exact congrArg _ table
  · have one : roleCount h (.dispenser l) ≤ 1 := by
      simpa only [roleCount, handedRole] using roleCount_dispenser roles l
    rw [notice_raiseTo one, handedRole, stands.oldestSettled, stands.oldestSettled]
    by_cases dispenser : s.role q = .dispenser l
    · have quiet : h.notice q = s.notice q := by
        rw [noticed, if_neg]
        rw [dispenser]
        exact fun x => nomatch x.1
      rw [if_pos dispenser, if_pos dispenser, afterRaise_congr_at (handedRole q) quiet]
    · rw [if_neg dispenser, if_neg dispenser, noticed]

/-! ## A pulse that completes (R63, R65, R66) -/

/-- Log entry 6: a measurement under way gives a pulse its binding; one that no command told takes that of its completion. -/
theorem pulseBinding_of_busy {g : GateMonitor} (busy : g.measurement ≠ .idle) :
    (g.pulseBinding = some g.assignment.isSome ∧ g.measurement = .started) ∨
      ∃ w b, g.pulseBinding = some b ∧ g.measurement = .inProgress w b := by
  unfold GateMonitor.pulseBinding
  cases measured : g.measurement with
  | idle => exact absurd measured busy
  | started => exact .inl ⟨rfl, rfl⟩
  | inProgress w b => exact .inr ⟨w, b, rfl, rfl⟩

/-- What the completion of a pulse leaves: an unbound one is an orphan, and a bound one is judged by its product's dot window. -/
structure Completed (l : Lane) (w : Nat) (b : Bool) (after : GateMonitor) (s t : State) : Prop where
  laws : Laws .normal t
  orphan : b = false → Orphaned l after s t
  judged : b = true → ∀ a ∈ (s.gate l).assignment, ∀ st ∈ (s.lane l).strips, st.arrival = a.arrival →
    t.gates = s.gates.set l { after with assignment := none } ∧
    ((s.product st.product).dotMin ≤ w ∧ w ≤ (s.product st.product).dotMax → DotWetted l a s t) ∧
    (¬ ((s.product st.product).dotMin ≤ w ∧ w ≤ (s.product st.product).dotMax) → DotRejected l a st w s t)

theorem completed_completePulse (law : DeviceInv s) (ended : PulseOver (s.gate l) after) (w : Nat) (b : Bool) :
    Completed l w b after s (completePulse l w b (s.setGate l after)) := by
  have laws := laws_of_device law
  have quiet : after.measurement.isBound = false := by rw [ended.measurement]; rfl
  have halted := laws.setGate_held ended.assignment ended.waiter (by rw [quiet]; exact fun e => nomatch e)
    (ended.orphans ▸ (laws.gates l).orphans)
  refine ⟨halted.completePulse (by rw [State.gate_setGate_self]; exact quiet) w b,
    fun unbound => unbound ▸ orphaned_completePulse law.roles ended w, fun bound a assigned st mem arrival => ?_⟩
  obtain ⟨x, mx, same, _, _, at_⟩ := (laws.gates l).dotted a assigned
  rw [strip_unique (laws.lanes l).queue mx mem (same.trans arrival.symm)] at at_
  have unheld : after.waiter = none := ended.waiter.trans ((laws.gates l).apart (Option.isSome_iff_exists.2 ⟨a, assigned⟩))
  have product : s.productOf l a.arrival = s.product st.product := arrival ▸ productOf_of_mem (laws.lanes l).queue mem
  rw [bound, completePulse_of_bound (ended.assignment.trans assigned), product, ← dotGood_iff]
  by_cases good : (s.product st.product).dotGood w = true
  · rw [if_pos good]
    refine ⟨?_, fun _ => dotWetted_arbiterPass (laws.lanes l).queue mem arrival at_ _, fun bad => absurd good bad⟩
    exact ((only_arbiterPass _).gates_eq (by simp [passParts])).trans ((only_changeSite _ _ _ _ _).gates_eq (by simp))
  · rw [if_neg good]
    refine ⟨?_, fun x => absurd x good, fun _ =>
      dotRejected_handOnSettled law.roles (laws.lanes l) mem arrival at_ (g := { after with assignment := none }) unheld w⟩
    rw [handOnSettled_of_unheld (by rw [gate_changeSite, State.gate_setGate_self]; exact unheld),
      (only_raiseTo _ _ _).gates_eq (by simp), (only_settlementCheck _ _ _).gates_eq (by simp),
      (only_changeSite _ _ _ _ _).gates_eq (by simp)]
    rfl

/-- Settles O45: the fall and the saturation by whether they end a pulse; its completion by the judgement or by the count. -/
theorem pulsesComplete : Obligations.PulsesComplete := by
  unfold Obligations.PulsesComplete
  intro l width s law live g fallen binding counted judged
  have bound : g.measurement ≠ .idle → g.pulseBinding = some binding := fun busy => by
    rcases pulseBinding_of_busy busy with ⟨eq, measured⟩ | ⟨w, b, eq, measured⟩ <;> rw [eq]
    · simp only [binding, measured]
    · simp only [binding, measured]
  have idle : g.measurement = .idle → g.pulseBinding = none := fun measured => by rw [GateMonitor.pulseBinding, measured]
  have wide : g.measurement.widthAt width.toNat = counted := by
    cases measured : g.measurement <;> simp only [counted, measured, Measurement.widthAt]
  have complete : ∀ c w after, PulseOver g after →
      exec c s = .next (completePulse l w binding (s.setGate l after)) → judged c w after := fun c w after ended runs => by
    have outcome := completed_completePulse law ended w binding
    refine ⟨_, runs, fun unbound => ?_, fun bound a assigned st mem arrival => ?_⟩
    · obtain ⟨only, gates, told⟩ := outcome.orphan unbound
      exact ⟨only, gates, told⟩
    · obtain ⟨gates, wetted, rejected⟩ := outcome.judged bound a assigned st mem arrival
      refine ⟨gates, fun good => ?_, fun bad => ?_⟩
      · obtain ⟨only, ports, blocked, wet, site⟩ := wetted good
        exact ⟨only, ports, blocked, wet, outcome.laws.paired_of_wetSince site⟩
      · obtain ⟨only, lanes, told⟩ := rejected bad
        exact ⟨only, lanes, told⟩
  refine ⟨fun inactive => ?_, fun active none => ?_, fun active busy counts => ?_, fun none => ?_, fun busy => ?_⟩
  · exact congrArg Host.Outcome.next (gateFalls_of_inactive inactive)
  · have fallsQuietly := gateFalls_of_no_pulse live active (none.imp idle wide.trans)
    exact ⟨_, congrArg Host.Outcome.next fallsQuietly, only_setGate s l _, rfl⟩
  · refine complete _ _ fallen ⟨rfl, rfl, rfl, rfl⟩ (congrArg Host.Outcome.next ?_)
    rw [gateFalls_of_pulse live active (bound busy) (wide ▸ counts), ← wide]
  · rw [NoEffect, exec_pulseSaturation live, pulseSaturates_of_none (idle none)]
  · exact complete _ _ _ ⟨rfl, rfl, rfl, rfl⟩
      ((exec_pulseSaturation live).trans (congrArg Host.Outcome.next (pulseSaturates_of_pulse (bound busy))))

end Sys2Proof.Proofs
end

section
/-! PROOFS. The selection of a site and a die: the candidate sites and their total order, the cheapest die, and the first site
served (R75 to R77, R80 to R83). -/

namespace Sys2Proof.Proofs

open Sys2Proof Sys2Proof.Machine Sys2Proof.Safety

/-! ## Site order (R77) -/

theorem perm_insertByAge (c : Candidate) (cs : List Candidate) : (insertByAge c cs).Perm (c :: cs) := by
  induction cs with
  | nil => exact .refl _
  | cons d cs ih =>
    simp only [insertByAge]
    split
    · exact .refl _
    · exact (ih.cons d).trans (.swap c d cs)

theorem perm_siteOrder (cs : List Candidate) : (siteOrder cs).Perm cs := by
  have fold : ∀ acc : List Candidate, (cs.foldl (fun acc c => insertByAge c acc) acc).Perm (acc ++ cs) := by
    induction cs with
    | nil => exact fun acc => by rw [List.append_nil]; exact .refl _
    | cons c cs ih =>
      exact fun acc => (ih _).trans (((perm_insertByAge c acc).append_right cs).trans List.perm_middle.symm)
  exact fold []

/-- R77: the older candidate comes first, and of two of the same age the one that a further order puts first. -/
def OlderFirst (first : Candidate → Candidate → Prop) (a b : Candidate) : Prop :=
  b.age < a.age ∨ (b.age = a.age ∧ first a b)

/-- A candidate is placed behind every candidate at least as old, so one that the further order puts last keeps the order. -/
theorem olderFirst_insertByAge {first : Candidate → Candidate → Prop} {c : Candidate} {cs : List Candidate}
    (sorted : cs.Pairwise (OlderFirst first)) (last : ∀ d ∈ cs, first d c) :
    (insertByAge c cs).Pairwise (OlderFirst first) := by
  induction cs with
  | nil => exact List.pairwise_singleton _ _
  | cons d cs ih =>
    obtain ⟨head, tail⟩ := List.pairwise_cons.1 sorted
    simp only [insertByAge]
    split
    · rename_i younger
      refine List.pairwise_cons.2 ⟨fun x mx => .inl ?_, sorted⟩
      rcases List.mem_cons.1 mx with rfl | mx
      · exact younger
      · rcases head x mx with less | ⟨same, _⟩ <;> omega
    · rename_i notYounger
      refine List.pairwise_cons.2 ⟨fun x mx => ?_, ih tail fun x mx => last x (List.mem_cons_of_mem _ mx)⟩
      rcases (mem_insertByAge c x cs).1 mx with rfl | mx
      · exact (Nat.lt_or_eq_of_le (Nat.le_of_not_lt notYounger)).imp_right fun same => ⟨same, last d List.mem_cons_self⟩
      · exact head x mx

/-- R77: candidates listed in a further order come out by age, and in that order among equal ages. -/
theorem olderFirst_siteOrder {first : Candidate → Candidate → Prop} {cs : List Candidate} (listed : cs.Pairwise first) :
    (siteOrder cs).Pairwise (OlderFirst first) := by
  have fold : ∀ acc : List Candidate, acc.Pairwise (OlderFirst first) → (∀ d ∈ acc, ∀ c ∈ cs, first d c) →
      (cs.foldl (fun acc c => insertByAge c acc) acc).Pairwise (OlderFirst first) := by
    induction cs with
    | nil => exact fun acc sorted _ => sorted
    | cons c cs ih =>
      intro acc sorted before
      obtain ⟨head, tail⟩ := List.pairwise_cons.1 listed
      refine ih tail _ (olderFirst_insertByAge sorted fun d md => before d md c List.mem_cons_self) fun d md x mx => ?_
      rcases (mem_insertByAge c d acc).1 md with rfl | md
      · exact head x mx
      · exact before d md x (List.mem_cons_of_mem _ mx)
  exact fold [] .nil (by simp)

/-! ## The order in which candidates are listed (R76, R77) -/

/-- R77: lane A before lane B, then the strip earlier in its lane's queue, then the lower site index. -/
def QueuedBefore (s : State) (a b : Candidate) : Prop :=
  (a.lane = .A ∧ b.lane = .B) ∨ (a.lane = b.lane ∧
    (((s.lane a.lane).strips.map (fun st => st.arrival)).idxOf a.arrival <
        ((s.lane a.lane).strips.map (fun st => st.arrival)).idxOf b.arrival ∨
      (a.arrival = b.arrival ∧ a.site < b.site)))

theorem place_of_mem_stripCandidates {s : State} {l : Lane} {st : Strip} {c : Candidate} (m : c ∈ stripCandidates s l st) :
    c.lane = l ∧ c.arrival = st.arrival := by
  obtain ⟨w, _, _, eq⟩ := mem_stripCandidates.1 m
  rw [eq]
  exact ⟨rfl, rfl⟩

theorem lane_of_mem_laneCandidates {s : State} {l : Lane} {c : Candidate} (m : c ∈ laneCandidates s l) : c.lane = l := by
  obtain ⟨st, _, mc⟩ := List.mem_flatMap.1 m
  exact (place_of_mem_stripCandidates mc).1

/-- What is picked from a list under the index of each entry is listed by rising index. -/
theorem sites_rise_in_filterMap {α : Type} {f : α × Nat → Option Candidate} (named : ∀ e c, f e = some c → c.site = e.2)
    (xs : List α) : (xs.zipIdx.filterMap f).Pairwise (fun a b => a.site < b.site) := by
  have rising : xs.zipIdx.Pairwise (fun a b => a.2 < b.2) := by
    rw [← List.pairwise_map (f := Prod.snd) (R := (· < ·)), List.zipIdx_map_snd]
    exact List.pairwise_lt_range'
  rw [List.pairwise_filterMap]
  refine rising.imp fun {a b} lt c hc d hd => ?_
  rw [named a c hc, named b d hd]
  exact lt

/-- The candidates of a strip are listed by rising site index. -/
theorem sites_rise_in_stripCandidates (s : State) (l : Lane) (st : Strip) :
    (stripCandidates s l st).Pairwise (fun a b => a.site < b.site) := by
  refine sites_rise_in_filterMap ?_ st.sites
  rintro ⟨x, i⟩ c eq
  cases x with
  | wetted w =>
    dsimp only at eq
    split at eq
    · cases eq; rfl
    · cases eq
  | _ => cases eq

/-- The entries of a list without repetition stand at rising places. -/
theorem idxOf_rises {l : List (BitVec 32)} (nodup : l.Nodup) : l.Pairwise (fun a b => l.idxOf a < l.idxOf b) := by
  rw [List.pairwise_iff_getElem]
  intro i j hi hj lt
  rw [nodup.idxOf_getElem i hi, nodup.idxOf_getElem j hj]
  exact lt

theorem queuedBefore_laneCandidates {s : State} {l : Lane} (nodup : ((s.lane l).strips.map (fun st => st.arrival)).Nodup) :
    (laneCandidates s l).Pairwise (QueuedBefore s) := by
  unfold laneCandidates
  rw [List.pairwise_flatMap]
  refine ⟨fun st _ => ?_, ?_⟩
  · refine (sites_rise_in_stripCandidates s l st).imp_of_mem fun {a b} ma mb lt => ?_
    obtain ⟨la, aa⟩ := place_of_mem_stripCandidates ma
    obtain ⟨lb, ab⟩ := place_of_mem_stripCandidates mb
    exact .inr ⟨la.trans lb.symm, .inr ⟨aa.trans ab.symm, lt⟩⟩
  · refine (List.pairwise_map.1 (idxOf_rises nodup)).imp fun {x y} lt a ma b mb => ?_
    obtain ⟨la, aa⟩ := place_of_mem_stripCandidates ma
    obtain ⟨lb, ab⟩ := place_of_mem_stripCandidates mb
    refine .inr ⟨la.trans lb.symm, .inl ?_⟩
    rw [la, aa, ab]
    exact lt

/-- R76: the candidates are listed by lane, then by strip, then by site. -/
theorem queuedBefore_candidates {s : State} (nodup : ∀ l, ((s.lane l).strips.map (fun st => st.arrival)).Nodup) (p : Port)
    (c : LaneChoice) : (candidates s p c).Pairwise (QueuedBefore s) := by
  have one : ∀ l (allowed : Bool), (if allowed then laneCandidates s l else []).Pairwise (QueuedBefore s) := by
    intro l allowed
    cases allowed
    · exact .nil
    · exact queuedBefore_laneCandidates (nodup l)
  have lane : ∀ l (allowed : Bool), ∀ x ∈ (if allowed then laneCandidates s l else []), x.lane = l := by
    intro l allowed x mx
    cases allowed
    · cases mx
    · exact lane_of_mem_laneCandidates mx
  exact List.pairwise_append.2 ⟨one .A _, one .B _, fun x mx y my => .inl ⟨lane .A _ x mx, lane .B _ y my⟩⟩

/-- R76, condition 1: the choice and the reach lane mask name the lane. -/
theorem laneAllowed_iff (s : State) (p : Port) (c : LaneChoice) (l : Lane) : laneAllowed s p c l = true ↔
    (c = .either ∨ c = .only l) ∧ (if l = .A then s.reach[p].laneA else s.reach[p].laneB) = true := by
  rw [laneAllowed, Bool.and_eq_true]
  refine and_congr ?_ ?_
  · cases c with
    | only k => simp [LaneChoice.names]
    | either => simp [LaneChoice.names]
  · cases l <;> simp [Reach.names]

theorem eligibleAge_iff (pr : Product) (age : Nat) : eligibleAge pr age = true ↔
    10 * pr.marginMs ≤ pr.openTime * 100 - age ∧ 0 < pr.openTime * 100 - age := by
  simp only [eligibleAge, Bool.and_eq_true, decide_eq_true_eq]
  rw [Product.marginTicks, ticksOfMs, Nat.mul_comm]
  rfl

/-- R76, conditions 2 and 3: a candidate of a strip, field by field. -/
theorem mem_stripCandidates_iff {s : State} {l : Lane} {st : Strip} {c : Candidate} : c ∈ stripCandidates s l st ↔
    c.lane = l ∧ c.arrival = st.arrival ∧ c.stripId = st.id ∧ c.product = st.product ∧
      ∃ w, st.sites[c.site]? = some (.wetted w) ∧ c.age = elapsed w s.clock ∧
        eligibleAge (s.product st.product) c.age = true := by
  rw [mem_stripCandidates]
  constructor
  · rintro ⟨w, wet, eligible, eq⟩
    obtain ⟨lane, arrival, id, product, site, age⟩ := c
    injection eq with e1 e2 e3 e4 _ e6
    exact ⟨e1, e2, e3, e4, w, wet, e6, e6 ▸ eligible⟩
  · rintro ⟨e1, e2, e3, e4, w, wet, e6, eligible⟩
    obtain ⟨lane, arrival, id, product, site, age⟩ := c
    dsimp only at e1 e2 e3 e4 e6
    subst e1 e2 e3 e4 e6
    exact ⟨w, wet, eligible, rfl⟩

/-- Settles O46: membership lane by lane and strip by strip; the order by the stability of the placing by age. -/
theorem candidateSitesInOrder : Obligations.CandidateSitesInOrder := by
  unfold Obligations.CandidateSitesInOrder
  intro p c s law
  have nodup : ∀ l, ((s.lane l).strips.map (fun st => st.arrival)).Nodup := fun l => by
    cases l
    exacts [arrivals_nodup ((stripQueueLaw_iff _ _).1 law.queueA), arrivals_nodup ((stripQueueLaw_iff _ _).1 law.queueB)]
  refine ⟨fun x => ?_, perm_siteOrder _, olderFirst_siteOrder (queuedBefore_candidates nodup p c)⟩
  simp only [mem_candidates, mem_stripCandidates_iff, ← eligibleAge_iff]
  constructor
  · rintro ⟨l, allowed, st, mst, rfl, arrival, id, product, w, wet, age, eligible⟩
    obtain ⟨choice, mask⟩ := (laneAllowed_iff s p c _).1 allowed
    exact ⟨choice, mask, st, mst, arrival, id, product, w, wet, age, eligible⟩
  · rintro ⟨choice, mask, st, mst, arrival, id, product, w, wet, age, eligible⟩
    exact ⟨x.lane, (laneAllowed_iff s p c _).2 ⟨choice, mask⟩, st, mst, rfl, arrival, id, product, w, wet, age, eligible⟩

/-! ## The cheapest die (R80 to R82) -/

theorem gap_eq_natAbs (a b : Nat) : gap a b = ((a : Int) - b).natAbs := by
  unfold gap
  omega

/-- R82: the travel cost to a die, from its index. -/
theorem travelCost_posOf (b : MapBank) (start : Pos) (i : Nat) : travelCost b start (b.posOf i) =
    max (((i % b.cols : Nat) - start.col : Int).natAbs * b.colPitch)
      (((i / b.cols : Nat) - start.row : Int).natAbs * b.rowPitch) := by
  simp only [travelCost, MapBank.posOf, gap_eq_natAbs]

/-- R80: a die lies in a window that is enabled, clipped to the map. -/
theorem holds_posOf_iff (w : Window) (b : MapBank) (i : Nat) : w.holds b (b.posOf i) = true ↔
    w.enabled = true ∧ w.colLo ≤ i % b.cols ∧ i % b.cols ≤ min w.colHi (b.cols - 1) ∧
      w.rowLo ≤ i / b.cols ∧ i / b.cols ≤ min w.rowHi (b.rows - 1) := by
  simp only [Window.holds, Bool.and_eq_true, decide_eq_true_eq, and_assoc]
  rfl

/-- R82: the die is cheaper to travel to than another one, or as cheap and of no higher index. -/
def NoDearer (b : MapBank) (start : Pos) (i j : Nat) : Prop :=
  travelCost b start (b.posOf i) < travelCost b start (b.posOf j) ∨
    (travelCost b start (b.posOf i) = travelCost b start (b.posOf j) ∧ i ≤ j)

theorem NoDearer.refl (b : MapBank) (start : Pos) (i : Nat) : NoDearer b start i i := .inr ⟨rfl, Nat.le_refl i⟩

theorem NoDearer.trans {b : MapBank} {start : Pos} {i j k : Nat} (h : NoDearer b start i j) (h' : NoDearer b start j k) :
    NoDearer b start i k := by
  unfold NoDearer at *
  omega

theorem NoDearer.antisymm {b : MapBank} {start : Pos} {i j : Nat} (h : NoDearer b start i j) (h' : NoDearer b start j i) :
    i = j := by
  unfold NoDearer at *
  omega

/-- R82: through die of rising index, the die kept at the end is no dearer than any of them. -/
theorem noDearer_foldl_betterDie {b : MapBank} {start : Pos} {es : List (Nat × DieRecord)} {d x : Nat × DieRecord}
    (rising : (d :: es).Pairwise (fun a b => a.1 < b.1)) (kept : es.foldl (betterDie b start) (some d) = some x) :
    ∀ e ∈ d :: es, NoDearer b start x.1 e.1 := by
  induction es generalizing d with
  | nil =>
    cases kept
    intro e me
    rw [List.mem_singleton.1 me]
    exact .refl b start _
  | cons e es ih =>
    obtain ⟨above, tail⟩ := List.pairwise_cons.1 rising
    obtain ⟨_, rest⟩ := List.pairwise_cons.1 tail
    rw [List.foldl_cons, betterDie] at kept
    split at kept
    · rename_i cheaper
      have best := ih tail kept
      intro y my
      rcases List.mem_cons.1 my with rfl | my
      · exact (best e List.mem_cons_self).trans (.inl cheaper)
      · exact best y my
    · rename_i notCheaper
      have best := ih (List.pairwise_cons.2 ⟨fun y my => above y (List.mem_cons_of_mem _ my), rest⟩) kept
      have next : NoDearer b start d.1 e.1 :=
        (Nat.lt_or_eq_of_le (Nat.le_of_not_lt notCheaper)).imp_right fun same =>
          ⟨same, (above e List.mem_cons_self).le⟩
      intro y my
      rcases List.mem_cons.1 my with rfl | my
      · exact best y List.mem_cons_self
      · rcases List.mem_cons.1 my with rfl | my
        · exact (best d List.mem_cons_self).trans next
        · exact best y (List.mem_cons_of_mem _ my)

/-- R82: the die found is no dearer than any die that matches. -/
theorem noDearer_of_dieSearch {b : MapBank} {r : Reach} {start : Pos} {g : BitVec 16} {d e : Nat × DieRecord}
    (wf : dieTableWf b.dies) (found : dieSearch b r start g = some d) (listed : e ∈ b.dies)
    (matching : matchingDie b r g e = true) : NoDearer b start d.1 e.1 := by
  have member := List.mem_filter.2 ⟨listed, matching⟩
  have rising := wf.1.filter (matchingDie b r g)
  unfold dieSearch at found
  cases list : b.dies.filter (matchingDie b r g) with
  | nil => rw [list] at member; cases member
  | cons x xs =>
    rw [list] at member rising found
    exact noDearer_foldl_betterDie rising found e member

/-- R81: the die of this index matches: it is AVAILABLE, of an accepted grade and within reach. -/
def Matching (b : MapBank) (r : Reach) (g : BitVec 16) (i : Nat) : Prop := matchingDie b r g (i, dieAt b.dies i) = true

theorem matching_iff (b : MapBank) (r : Reach) (g : BitVec 16) (i : Nat) : Matching b r g i ↔
    (dieAt b.dies i).state = .available ∧ g.getLsbD (dieAt b.dies i).grade.toNat = true ∧
      (r.w1.holds b (b.posOf i) = true ∨ r.w2.holds b (b.posOf i) = true) := by
  simp only [Matching, matchingDie, isAvailable_iff, Reach.holds, Bool.and_eq_true, Bool.or_eq_true, and_assoc]

/-- R81: a die that matches is listed, since a blank record is not AVAILABLE. -/
theorem Matching.listed {b : MapBank} {r : Reach} {g : BitVec 16} {i : Nat} (h : Matching b r g i) :
    (i, dieAt b.dies i) ∈ b.dies := by
  refine mem_of_dieAt fun blank => ?_
  have available := ((matching_iff b r g i).1 h).1
  rw [blank] at available
  cases available

/-- R81: the record found is the one that its index reads, and it matches. -/
theorem matching_of_dieSearch {b : MapBank} {r : Reach} {start : Pos} {g : BitVec 16} {d : Nat × DieRecord}
    (wf : dieTableWf b.dies) (found : dieSearch b r start g = some d) : d.2 = dieAt b.dies d.1 ∧ Matching b r g d.1 := by
  obtain ⟨listed, matching⟩ := dieSearch_mem found
  have read := dieAt_of_mem wf listed
  refine ⟨read.symm, ?_⟩
  rw [Matching, read]
  exact matching

theorem dieSearch_of_matching {b : MapBank} {r : Reach} {g : BitVec 16} {i : Nat} (h : Matching b r g i) (start : Pos) :
    ∃ d, dieSearch b r start g = some d :=
  Option.isSome_iff_exists.1 ((dieSearch_isSome_iff b r start g).2 ⟨_, h.listed, h⟩)

theorem dieSearch_eq_none_iff {b : MapBank} {r : Reach} {start : Pos} {g : BitVec 16} (wf : dieTableWf b.dies) :
    dieSearch b r start g = none ↔ ∀ i, ¬ Matching b r g i := by
  constructor
  · intro none i h
    obtain ⟨d, found⟩ := dieSearch_of_matching h start
    rw [none] at found
    cases found
  · intro unmatched
    refine Option.eq_none_iff_forall_ne_some.2 fun d found => ?_
    exact unmatched d.1 (matching_of_dieSearch wf found).2

/-- R81, R82: the die found is the one that matches and is no dearer than any that does. -/
theorem dieSearch_eq_some_iff {b : MapBank} {r : Reach} {start : Pos} {g : BitVec 16} (wf : dieTableWf b.dies) {i : Nat}
    {d : DieRecord} : dieSearch b r start g = some (i, d) ↔
      Matching b r g i ∧ d = dieAt b.dies i ∧ ∀ j, Matching b r g j → NoDearer b start i j := by
  constructor
  · intro found
    obtain ⟨read, matching⟩ := matching_of_dieSearch wf found
    exact ⟨matching, read, fun j h => noDearer_of_dieSearch wf found h.listed h⟩
  · rintro ⟨matching, rfl, cheapest⟩
    obtain ⟨⟨j, x⟩, found⟩ := dieSearch_of_matching matching start
    obtain ⟨read, other⟩ := matching_of_dieSearch wf found
    have same : j = i := (noDearer_of_dieSearch wf found matching.listed matching).antisymm (cheapest j other)
    subst same
    rw [found, show x = dieAt b.dies j from read]

/-- Settles O47: the search's fold keeps a die that is no dearer than any before it, and the statement's terms are those of
the model read from the index. -/
theorem dieSearchIsCheapest : Obligations.DieSearchIsCheapest := by
  unfold Obligations.DieSearchIsCheapest
  intro b r start grades wf inside matching cost
  have matches_ : ∀ i, Matching b r grades i ↔ matching i := fun i => by
    rw [matching_iff, holds_posOf_iff, holds_posOf_iff]
  have costs : ∀ i, travelCost b start (b.posOf i) = cost i := travelCost_posOf b start
  refine ⟨?_, fun i d => ?_⟩
  · simp only [dieSearch_eq_none_iff wf, matches_]
  · simp only [dieSearch_eq_some_iff wf, matches_, NoDearer, costs]

/-! ## The first site served (R75, R83) -/

/-- R75: the ACTIVE bank of the lower number is the one that is found. -/
theorem activeBank_of_lowest {s : State} {b : BankId} (active : (s.bank b).state = .active)
    (lowest : b = .b1 → s.banks.b0.state ≠ .active) : s.activeBank = some b := by
  cases b with
  | b0 => exact if_pos active
  | b1 => exact (if_neg (lowest rfl)).trans (if_pos active)

section Selection

variable {s : State} {p : Port} {ch : LaneChoice} {bk : BankId}

theorem firstServed_of_none {cs : List Candidate}
    (unserved : ∀ c ∈ cs, dieSearch (s.bank bk) s.reach[p] s.lastPick[p] (s.product c.product).gradeSet = none) :
    firstServed s p bk cs = none := by
  induction cs with
  | nil => rfl
  | cons c cs ih =>
    rw [firstServed, unserved c List.mem_cons_self]
    exact ih fun x mx => unserved x (List.mem_cons_of_mem _ mx)

/-- R83: sites whose search finds no die are passed over. -/
theorem firstServed_of_first {before after : List Candidate} {c : Candidate} {d : Nat × DieRecord}
    (unserved : ∀ x ∈ before, dieSearch (s.bank bk) s.reach[p] s.lastPick[p] (s.product x.product).gradeSet = none)
    (found : dieSearch (s.bank bk) s.reach[p] s.lastPick[p] (s.product c.product).gradeSet = some d) :
    firstServed s p bk (before ++ c :: after) = some { bank := bk, cand := c, die := d.1, record := d.2 } := by
  induction before with
  | nil => rw [List.nil_append, firstServed, found]
  | cons x before ih =>
    rw [List.cons_append, firstServed, unserved x List.mem_cons_self]
    exact ih fun y my => unserved y (List.mem_cons_of_mem _ my)

theorem select_of_no_wafer (inactive : s.activeBank = none) : select s p ch = .failed .noWafer := by
  rw [select, inactive]

theorem select_of_no_site (active : s.activeBank = some bk) (empty : candidates s p ch = []) :
    select s p ch = .failed .noSite := by
  rw [select, active, empty]
  rfl

theorem siteOrder_ne_nil {cs : List Candidate} (site : cs ≠ []) : siteOrder cs ≠ [] :=
  fun empty => site (List.Perm.nil_eq (empty ▸ perm_siteOrder cs)).symm

theorem select_of_no_die (active : s.activeBank = some bk) (site : candidates s p ch ≠ [])
    (unserved : firstServed s p bk (siteOrder (candidates s p ch)) = none) : select s p ch = .failed .noDie := by
  rw [select, active]
  dsimp only
  split
  · rename_i empty
    exact absurd empty (siteOrder_ne_nil site)
  · rw [unserved]

theorem select_of_served {f : Found} (active : s.activeBank = some bk)
    (served : firstServed s p bk (siteOrder (candidates s p ch)) = some f) : select s p ch = .found f := by
  rw [select, active]
  dsimp only
  split
  · rename_i empty
    rw [empty] at served
    cases served
  · rw [served]

end Selection

/-- Settles O48: one case for each outcome of the selection, its search through the sites by the first that is served. -/
theorem selectionTakesTheFirstServed : Obligations.SelectionTakesTheFirstServed := by
  unfold Obligations.SelectionTakesTheFirstServed
  intro p c s
  refine ⟨fun inactive => select_of_no_wafer ((activeBank_none_iff s).2 inactive), fun b _ state lowest => ?_⟩
  have active := activeBank_of_lowest state lowest
  refine ⟨select_of_no_site active, fun site unserved => ?_, fun before after x order unserved d found => ?_⟩
  · exact select_of_no_die active site (firstServed_of_none fun y my => unserved y ((mem_siteOrder y _).1 my))
  · refine select_of_served active ?_
    rw [order]
    exact firstServed_of_first unserved found

end Sys2Proof.Proofs
end

section
/-! PROOFS. PAIR and REACH: the checks of each in order, the place of an entry on the wait list, and the pass that follows (R24,
R73, R79, R106, R107, R162). -/

namespace Sys2Proof.Proofs

open Sys2Proof Sys2Proof.Machine Sys2Proof.Safety

variable {p : Port} {body : List Octet} {s : State}

/-! ## PAIR -/

/-- R73, check 1, R24: what the lane choice octet names on this part. -/
theorem choiceOf_eq (s : State) (o : Octet) : s.choiceOf o =
    if o = 0 then some (.only .A) else if o = 1 ∧ s.dualLane = true then some (.only .B)
    else if o = 2 then some .either else none := by
  unfold State.choiceOf choiceOfCode
  by_cases zero : o = 0
  · subst zero; rfl
  · by_cases one : o = 1
    · subst one
      cases dual : s.dualLane <;> rfl
    · by_cases two : o = 2
      · subst two; rfl
      · simp only [zero, one, two, if_false, false_and]

/-- R106: on a list in level order an entry stands between the entries of its level or a higher one and those of a lower one. -/
theorem insertEntry_eq_filter {e : WaitEntry} {list : List WaitEntry} (sorted : list.Pairwise (fun a b => b.level ≤ a.level)) :
    insertEntry e list = list.filter (fun d => decide (e.level ≤ d.level)) ++
      e :: list.filter (fun d => decide (d.level < e.level)) := by
  induction list with
  | nil => rfl
  | cons d list ih =>
    obtain ⟨head, tail⟩ := List.pairwise_cons.1 sorted
    by_cases lower : d.level < e.level
    · have all : ∀ x ∈ d :: list, x.level < e.level := fun x mx => by
        rcases List.mem_cons.1 mx with rfl | mx
        · exact lower
        · exact (head x mx).trans_lt lower
      have low : (d :: list).filter (fun x => decide (x.level < e.level)) = d :: list :=
        List.filter_eq_self.2 fun x mx => decide_eq_true (all x mx)
      have high : (d :: list).filter (fun x => decide (e.level ≤ x.level)) = [] :=
        List.filter_eq_nil_iff.2 fun x mx => by simpa using all x mx
      rw [insertEntry, if_pos lower, low, high]
      rfl
    · rw [insertEntry, if_neg lower, ih tail, List.filter_cons_of_pos (by simpa using lower),
        List.filter_cons_of_neg (by simpa using lower)]
      rfl

theorem servePair_of_bad_choice (bad : s.choiceOf (u8 body 0) = none) : servePair p body s = reply p (resp .range []) s := by
  simp only [servePair, bad]

section Branches

variable {c : LaneChoice} (good : s.choiceOf (u8 body 0) = some c)

include good

theorem servePair_of_setup (line : s.line = .setup) : servePair p body s = reply p (resp .state []) s := by
  simp [servePair, good, line]

theorem servePair_of_paused (line : s.line = .paused) : servePair p body s = reply p (resp .paused []) s := by
  simp [servePair, good, line]

theorem servePair_of_two (line : s.line = .run) (two : s.pairingsOf p = 2) : servePair p body s = reply p (resp .limit []) s := by
  simp [servePair, good, line, two, Config.maxPairingsPerHead]

theorem servePair_of_fewer (line : s.line = .run) (fewer : s.pairingsOf p < 2) :
    servePair p body s = placePair (entryFor s p c (u16 body 1).toNat) s := by
  simp [servePair, good, line, Nat.not_le.2 fewer, Config.maxPairingsPerHead]

end Branches

/-- R107: the entry of a PAIR, with its wait clamped before it is converted. -/
theorem entryFor_eq (s : State) (p : Port) (c : LaneChoice) (ms : Nat) : entryFor s p c ms =
    { port := p, level := s.roles[p].level, choice := c, start := s.clock, length := 10 * min ms 10000, obstacle := none } := by
  simp only [entryFor, waitTicks, ticksOfMs, Config.maxWaitMs, Nat.mul_comm]

/-- R106, R107: an entry placed on the wait list by its level. -/
def placedByLevel (e : WaitEntry) (s : State) : State :=
  { s with waitList := s.waitList.filter (fun d => decide (e.level ≤ d.level)) ++
      e :: s.waitList.filter (fun d => decide (d.level < e.level)) }

theorem placePair_of_sorted (e : WaitEntry) (sorted : s.waitList.Pairwise (fun a b => b.level ≤ a.level)) : placePair e s =
    if e.length = 0 then answerEntry e.port (arbiterPass (placedByLevel e s)) else arbiterPass (placedByLevel e s) := by
  rw [placedByLevel, ← insertEntry_eq_filter sorted]
  rfl

theorem only_placedByLevel (e : WaitEntry) (s : State) : OnlyChanges [.waitList] s (placedByLevel e s) := by
  simp [placedByLevel, OnlyChanges, Part.list, Part.same]

/-- A placed entry adds its own port alone to those that wait. -/
theorem waitPorts_placedByLevel (e : WaitEntry) (s : State) :
    ∀ q ∈ waitPorts (placedByLevel e s), q ∈ e.port :: waitPorts s := by
  intro q mq
  obtain ⟨d, md, rfl⟩ := List.mem_map.1 mq
  rcases List.mem_append.1 md with high | low
  · exact List.mem_cons_of_mem _ (List.mem_map_of_mem (List.mem_filter.1 high).1)
  · rcases List.mem_cons.1 low with rfl | low
    · exact List.mem_cons_self
    · exact List.mem_cons_of_mem _ (List.mem_map_of_mem (List.mem_filter.1 low).1)

/-- Settles O30: one case for each check; the placed list by the level order of the list, and the pass by what it leaves. -/
theorem pairRefusedOrPlaced : Obligations.PairRefusedOrPlaced := by
  unfold Obligations.PairRefusedOrPlaced
  intro p body s law taken choice
  have named : (s.setLink p (.holding .pair)).choiceOf (u8 body 0) = choice := choiceOf_eq _ _
  have chosen : choice ≠ none → ∃ c, (s.setLink p (.holding .pair)).choiceOf (u8 body 0) = some c := fun ne =>
    named ▸ Option.ne_none_iff_exists'.1 ne
  refine ⟨fun none => ?_, fun ne line => ?_, fun ne line => ?_, fun ne line two => ?_, fun c mem line fewer => ?_⟩
  · exact ⟨_, exec_of_served taken (servePair_of_bad_choice (named.trans none)), answersWith_reply_held _⟩
  · obtain ⟨c, good⟩ := chosen ne
    exact ⟨_, exec_of_served taken (servePair_of_setup good line), answersWith_reply_held _⟩
  · obtain ⟨c, good⟩ := chosen ne
    exact ⟨_, exec_of_served taken (servePair_of_paused good line), answersWith_reply_held _⟩
  · obtain ⟨c, good⟩ := chosen ne
    exact ⟨_, exec_of_served taken (servePair_of_two good line two), answersWith_reply_held _⟩
  · intro e placed after
    have served : servePair p body (s.setLink p (.holding .pair)) = if e.length = 0 then answerEntry p after else after := by
      rw [servePair_of_fewer (named.trans mem) line fewer, entryFor_eq,
        placePair_of_sorted (s := s.setLink p (.holding .pair)) _ law.link.waitList.1]
      rfl
    have only : OnlyChanges [.ports, .waitList] s placed :=
      ((only_setLink s p (.holding .pair)).mono (by simp)).trans ((only_placedByLevel e _).mono (by simp))
    refine ⟨exec_of_served taken served, (only.mono (by simp [passParts])).trans (only_arbiterPass placed), ?_,
      blocked_of_stuck (stuck_arbiterPass placed)⟩
    exact kept_trans (kept_mono (kept_setLink p (.holding .pair) s) (by simp))
      (kept_mono (kept_arbiterPass placed) (waitPorts_placedByLevel e _))

/-! ## REACH -/

/-- R79: a port that REACH may name is one of S1 to S7, by its number. -/
theorem stationPort_eq_some_iff {o : Octet} {q : Port} : stationPort o = some q ↔ q.val = o.toNat ∧ 1 ≤ o.toNat := by
  unfold stationPort
  constructor
  · intro h
    split at h
    · split at h
      · cases h
      · cases h; exact ⟨rfl, by omega⟩
    · cases h
  · rintro ⟨val, pos⟩
    have lt : o.toNat < 8 := val ▸ q.isLt
    rw [dif_pos lt, if_neg (by omega)]
    exact congrArg some (Fin.ext val.symm)

theorem enabledOfCode_eq (o : Octet) : enabledOfCode o = if o.toNat ≤ 1 then some (o == 1) else none := by
  unfold enabledOfCode
  by_cases zero : o = 0
  · subst zero; rfl
  · by_cases one : o = 1
    · subst one; rfl
    · have high : ¬ o.toNat ≤ 1 := by bv_omega
      rw [if_neg zero, if_neg one, if_neg high]

/-- R162: the lane masks are 1, 2 and 3, lane A their lowest bit. -/
theorem maskOfCode_eq (o : Octet) :
    maskOfCode o = if 1 ≤ o.toNat ∧ o.toNat ≤ 3 then some (o.getLsbD 0, o.getLsbD 1) else none := by
  unfold maskOfCode
  by_cases one : o = 1
  · subst one; rfl
  · by_cases two : o = 2
    · subst two; rfl
    · by_cases three : o = 3
      · subst three; rfl
      · have out : ¬ (1 ≤ o.toNat ∧ o.toNat ≤ 3) := by bv_omega
        rw [if_neg one, if_neg two, if_neg three, if_neg out]

/-- The fields of a reach window at an offset of a body (Table 12-4). -/
def windowFields (body : List Octet) (i : Nat) : Window :=
  { enabled := u8 body i == 1, colLo := (u8 body (i + 1)).toNat, colHi := (u8 body (i + 2)).toNat
    rowLo := (u8 body (i + 3)).toNat, rowHi := (u8 body (i + 4)).toNat }

theorem windowAt_eq (body : List Octet) (i : Nat) :
    windowAt body i = if (u8 body i).toNat ≤ 1 then some (windowFields body i) else none := by
  rw [windowAt, enabledOfCode_eq]
  split <;> rfl

/-- The fields of the reach record that a body carries (Table 12-4). -/
def reachFields (body : List Octet) : Reach :=
  { w1 := windowFields body 1, w2 := windowFields body 6, laneA := (u8 body 11).getLsbD 0, laneB := (u8 body 11).getLsbD 1 }

/-- R79, R162: the codes of a body name values. -/
def ReachCodes (body : List Octet) : Prop :=
  (u8 body 1).toNat ≤ 1 ∧ (u8 body 6).toNat ≤ 1 ∧ 1 ≤ (u8 body 11).toNat ∧ (u8 body 11).toNat ≤ 3

theorem reachOfBody_of_codes (codes : ReachCodes body) : reachOfBody body = some (reachFields body) := by
  obtain ⟨first, second, mask⟩ := codes
  rw [reachOfBody, windowAt_eq, windowAt_eq, maskOfCode_eq, if_pos first, if_pos second, if_pos mask]
  rfl

theorem codes_of_reachOfBody {r : Reach} (h : reachOfBody body = some r) : ReachCodes body ∧ r = reachFields body := by
  have codes : ReachCodes body := by
    by_contra bad
    rw [reachOfBody, windowAt_eq, windowAt_eq, maskOfCode_eq] at h
    split at h
    · rename_i first second mask
      rw [Option.ite_none_right_eq_some] at first second mask
      exact bad ⟨first.1, second.1, mask.1⟩
    · cases h
  rw [reachOfBody_of_codes codes] at h
  exact ⟨codes, (Option.some.inj h).symm⟩

/-- R79: the reach record of a port is replaced. -/
def reachWritten (q : Port) (r : Reach) (s : State) : State := { s with reach := s.reach.set q.val r q.isLt }

theorem only_reachWritten (q : Port) (r : Reach) (s : State) : OnlyChanges [.reach] s (reachWritten q r s) := by
  simp [reachWritten, OnlyChanges, Part.list, Part.same]

/-- R79: the change of a REACH, and in RUN the pass after it. -/
def reachChanged (q : Port) (r : Reach) (s : State) : State :=
  if s.line = .run then arbiterPass (reachWritten q r s) else reachWritten q r s

theorem reachChanged_of_run {q : Port} {r : Reach} (run : s.line = .run) :
    reachChanged q r s = arbiterPass (reachWritten q r s) := if_pos run

theorem reachChanged_outside_run {q : Port} {r : Reach} (outside : s.line ≠ .run) : reachChanged q r s = reachWritten q r s :=
  if_neg outside

theorem only_reachChanged (q : Port) (r : Reach) (s : State) : OnlyChanges (.reach :: passParts) s (reachChanged q r s) := by
  have written := (only_reachWritten q r s).mono (b := .reach :: passParts) (by simp)
  unfold reachChanged
  split
  · exact only_pass_after written fun _ m => List.mem_cons_of_mem _ m
  · exact written

theorem kept_reachChanged (q : Port) (r : Reach) (s : State) : PortsKept (waitPorts s) s (reachChanged q r s) := by
  unfold reachChanged
  split
  · exact kept_arbiterPass (reachWritten q r s)
  · exact kept_of_ports_eq rfl _

theorem reach_reachChanged (q : Port) (r : Reach) (s : State) : (reachChanged q r s).reach = s.reach.set q.val r q.isLt := by
  unfold reachChanged
  split
  · exact (only_arbiterPass _).reach_eq (by simp [passParts])
  · rfl

theorem serveReach_of_good {q : Port} (station : stationPort (u8 body 0) = some q) (codes : ReachCodes body)
    (lane : (u8 body 11).getLsbD 1 = true → s.dualLane = true) :
    serveReach p body s = reply p (okResp [portOct q]) (reachChanged q (reachFields body) s) := by
  have here : ((reachFields body).laneB && !s.dualLane) = false := by
    cases b : (u8 body 11).getLsbD 1
    · exact (congrArg (· && !s.dualLane) b).trans rfl
    · rw [lane b, Bool.not_true, Bool.and_false]
  simp only [serveReach, station, reachOfBody_of_codes codes, here]
  rfl

theorem serveReach_of_bad
    (bad : ¬ ((∃ q, stationPort (u8 body 0) = some q) ∧ ReachCodes body ∧
      ((u8 body 11).getLsbD 1 = true → s.dualLane = true))) :
    serveReach p body s = reply p (resp .range []) s := by
  unfold serveReach
  split
  · rename_i q r station fields
    obtain ⟨codes, rfl⟩ := codes_of_reachOfBody fields
    refine if_pos ?_
    by_contra here
    refine bad ⟨⟨q, station⟩, codes, fun lane => ?_⟩
    cases dual : s.dualLane
    · exact absurd (by rw [dual, Bool.not_false, Bool.and_true]; exact lane) here
    · rfl
  · rfl

/-- Settles O23: the checks by what each octet names; the change with the pass after it by what each leaves. -/
theorem reachSet : Obligations.ReachSet := by
  unfold Obligations.ReachSet
  intro p body s law taken valid
  refine ⟨fun bad => ?_, fun good q port => ?_⟩
  · refine ⟨_, exec_of_served taken (serveReach_of_bad ?_), answersWith_reply_held _⟩
    rintro ⟨⟨q, station⟩, ⟨first, second, low, high⟩, lane⟩
    obtain ⟨val, pos⟩ := stationPort_eq_some_iff.1 station
    exact bad ⟨pos, by omega, first, second, low, high, lane⟩
  · obtain ⟨pos, _, first, second, low, high, lane⟩ := good
    have octet : portOct q = u8 body 0 := by rw [portOct, port, oct, BitVec.ofNat_toNat, BitVec.setWidth_eq]
    have served := serveReach_of_good (p := p) (s := s.setLink p (.holding .reach)) (stationPort_eq_some_iff.2 ⟨port, pos⟩)
      ⟨first, second, low, high⟩ lane
    rw [octet] at served
    obtain ⟨answered, kept, only⟩ := answered_after_passes (k := .reach) (r := okResp [u8 body 0])
      (not_mem_waitPorts_of_taken law taken) (kept_reachChanged q (reachFields body) (s.setLink p (.holding .reach)))
      (only_reachChanged q _ _) (by simp [passParts])
    refine ⟨_, exec_of_served taken served, answered, kept, only, ?_, fun outside => ?_, fun run => ?_⟩
    · exact ((only_reply p _ _).reach_eq (by simp)).trans (reach_reachChanged q _ _)
    · rw [reachChanged_outside_run (s := s.setLink p (.holding .reach)) outside]
      exact answersWith_reply (only_reachWritten q _ _) (by simp) _
    · rw [reachChanged_of_run (s := s.setLink p (.holding .reach)) run]
      exact blocked_reply_passes p _ 0 _

end Sys2Proof.Proofs
end

section
/-! PROOFS. Tickets: at most 8 pairings are in flight, and the next ticket is the first free one after the last (R73, R89 to R91,
R134). -/

namespace Sys2Proof.Proofs

open Sys2Proof Sys2Proof.Machine Sys2Proof.Safety

variable {s : State}

/-! ## Pairings in flight (R73, R89, R134) -/

/-- Pairings of the listed ports, at most 2 of each port, are at most twice as many as the ports. -/
theorem length_le_of_ports {ports : List Port} {prs : List Pairing} (listed : ∀ pr ∈ prs, pr.port ∈ ports)
    (two : ∀ p : Port, (prs.filter (fun pr => pr.port == p)).length ≤ 2) : prs.length ≤ 2 * ports.length := by
  induction ports generalizing prs with
  | nil => cases prs with
    | nil => exact Nat.zero_le _
    | cons pr prs => exact absurd (listed pr List.mem_cons_self) List.not_mem_nil
  | cons p ports ih =>
    have rest := ih (prs := prs.filter (fun pr => !(pr.port == p))) (fun pr m => by
        obtain ⟨mpr, other⟩ := List.mem_filter.1 m
        exact (List.mem_cons.1 (listed pr mpr)).resolve_left (by simpa using other))
      fun q => (List.filter_sublist.filter _).length_le.trans (two q)
    have parts := List.length_eq_length_filter_add (l := prs) (fun pr => pr.port == p)
    have here := two p
    rw [List.length_cons]
    omega

/-- R73, R134: at most 4 ports hold HEAD, each with at most 2 pairings in flight. -/
theorem pairings_le_eight (law : DeviceInv s) : s.pairings.length ≤ 8 := by
  obtain ⟨two, _, role, _⟩ := law.heads
  obtain ⟨_, _, four, _⟩ := law.roles
  have heads : (allPorts.filter (fun p => s.role p == .head)).length ≤ 4 := four
  have most := length_le_of_ports (ports := allPorts.filter (fun p => s.role p == .head)) (fun pr mpr =>
    List.mem_filter.2 ⟨mem_allPorts pr.port, beq_iff_eq.2 (role pr mpr)⟩) two
  omega

/-! ## Tickets in order (R90) -/

/-- R90: the ticket after a ticket, from 255 back to 1. -/
def ticketAfter (x : Ticket) : Ticket := if x = 255 then 1 else x + 1

/-- R90: the value that the search for a ticket tries after `k` others. -/
def ticketTried (last : Ticket) (k : Nat) : Ticket := BitVec.ofNat 8 ((last.toNat + k) % 255 + 1)

theorem toNat_ticketTried (last : Ticket) (k : Nat) : (ticketTried last k).toNat = (last.toNat + k) % 255 + 1 := by
  rw [ticketTried, BitVec.toNat_ofNat]
  omega

theorem toNat_ticketAfter (x : Ticket) : (ticketAfter x).toNat = x.toNat % 255 + 1 := by
  unfold ticketAfter
  split
  · rename_i last
    rw [last]
    rfl
  · rename_i other
    have below : x.toNat ≠ 255 := fun e => other (BitVec.eq_of_toNat_eq e)
    have range := x.isLt
    have one : (1 : Ticket).toNat = 1 := rfl
    rw [BitVec.toNat_add, one]
    omega

/-- The values tried are those that follow the last ticket, in order. -/
theorem iterate_ticketAfter (last : Ticket) (k : Nat) : ticketAfter^[k + 1] last = ticketTried last k := by
  induction k with
  | zero => exact BitVec.eq_of_toNat_eq (by rw [toNat_ticketTried]; exact toNat_ticketAfter last)
  | succ k ih =>
    refine BitVec.eq_of_toNat_eq ?_
    rw [Function.iterate_succ_apply', ih, toNat_ticketAfter, toNat_ticketTried, toNat_ticketTried]
    omega

theorem nodup_ticketsTried (last : Ticket) : ((List.range 25).map (ticketTried last)).Nodup := by
  refine List.Nodup.map_on (fun j mj k mk e => ?_) List.nodup_range
  have values := congrArg BitVec.toNat e
  rw [toNat_ticketTried, toNat_ticketTried] at values
  rw [List.mem_range] at mj mk
  omega

/-! ## A free ticket (R90) -/

theorem ticketHeld_iff (s : State) (x : Ticket) :
    s.ticketHeld x = true ↔ (∃ pr ∈ s.pairings, pr.ticket = x) ∨ ∃ e ∈ s.ring, e.ticket = x := by
  simp [State.ticketHeld]

/-- R90: 8 pairings and 16 ring entries hold fewer than 25 tickets. -/
theorem free_ticketTried (law : DeviceInv s) : ∃ k < 25, s.ticketHeld (ticketTried s.lastTicket k) = false := by
  by_contra none
  have held : (List.range 25).map (ticketTried s.lastTicket) ⊆
      s.pairings.map (fun pr => pr.ticket) ++ s.ring.map (fun e => e.ticket) := fun x mx => by
    obtain ⟨k, mk, rfl⟩ := List.mem_map.1 mx
    have busy : s.ticketHeld (ticketTried s.lastTicket k) = true := by
      rw [← Bool.not_eq_false]
      exact fun free => none ⟨k, List.mem_range.1 mk, free⟩
    rw [List.mem_append, List.mem_map, List.mem_map]
    exact (ticketHeld_iff s _).1 busy
  have few := ((nodup_ticketsTried s.lastTicket).subperm held).length_le
  have pairings := pairings_le_eight law
  have ring : s.ring.length ≤ 16 := law.ranges.ring
  simp only [List.length_map, List.length_range, List.length_append] at few
  omega

/-- R90: the first value tried that is free is the next ticket. -/
theorem nextTicket_of_first {n : Nat} (bound : n < 25) (free : s.ticketHeld (ticketTried s.lastTicket n) = false)
    (first : ∀ j < n, s.ticketHeld (ticketTried s.lastTicket j) = true) :
    nextTicket s = some (ticketTried s.lastTicket n) := by
  have found : (List.range 255).find? (fun k => !s.ticketHeld (ticketTried s.lastTicket k)) = some n :=
    List.find?_range_eq_some.2 ⟨by rw [free]; rfl, List.mem_range.2 (by omega), fun j lt => by rw [first j lt]; rfl⟩
  show ((List.range 255).map (ticketTried s.lastTicket)).find? (fun t => !s.ticketHeld t) = _
  rw [List.find?_map]
  exact congrArg (Option.map _) found

/-- Settles O49: the heads bound the pairings; of 25 values tried in order one is free, and the search takes the first. -/
theorem nextTicketIsTheFirstFree : Obligations.NextTicketIsTheFirstFree := by
  unfold Obligations.NextTicketIsTheFirstFree
  intro s law up held
  have heldIff : ∀ x, held x ↔ s.ticketHeld x = true := fun x => (ticketHeld_iff s x).symm
  have values : ∀ k, up^[k + 1] s.lastTicket = ticketTried s.lastTicket k := iterate_ticketAfter s.lastTicket
  have someFree := free_ticketTried law
  obtain ⟨bound, free⟩ := Nat.find_spec someFree
  have first : ∀ j < Nat.find someFree, s.ticketHeld (ticketTried s.lastTicket j) = true := fun j lt => by
    rw [← Bool.not_eq_false]
    exact fun early => Nat.find_min someFree lt ⟨lt.trans bound, early⟩
  refine ⟨pairings_le_eight law, Nat.find someFree, bound, ?_, ?_, fun j lt => ?_⟩
  · rw [values]
    exact nextTicket_of_first bound free first
  · rw [values, heldIff, free]
    exact fun e => nomatch e
  · rw [values, heldIff]
    exact first j lt

end Sys2Proof.Proofs
end

section
/-! PROOFS. The grant of a pairing: the die, the site, the notice and the answer that it leaves (R92, Table 6-2, Table 12-6). -/

namespace Sys2Proof.Proofs

open Sys2Proof Sys2Proof.Machine Sys2Proof.Safety

variable {s : State} {p : Port} {c : LaneChoice} {f : Found}

/-! ## The parts of a grant (R92) -/

theorem lastTicket_grantPair (p : Port) (f : Found) (k : Ticket) (s : State) : (grantPair p f k s).lastTicket = k := by
  unfold grantPair
  dsimp only
  rw [(only_handOver p _ _ _).lastTicket_eq (by simp)]
  exact ((only_pairSite f k _).lastTicket_eq (by simp)).trans ((only_claimDie f _).lastTicket_eq (by simp))

/-- A grant tells no port anything but what the claim of its die tells. -/
theorem notice_grantPair (p : Port) (f : Found) (k : Ticket) (s : State) (q : Port) : (grantPair p f k s).notice q =
    (changeDie f.bank f.die { f.record with state := .claimed } { s with lastTicket := k }).notice q := by
  unfold grantPair
  dsimp only
  rw [notice_congr ((only_handOver p _ _ _).notices_eq (by simp))]
  exact notice_congr ((only_pairSite f k _).notices_eq (by simp)) q

/-- R154: a response reaches the port that holds its request, whatever else has changed. -/
theorem answeredAt_handOver {k : Kind} {u : State} (ports : u.ports = s.ports) (link : s.link p = .holding k) (r : Response)
    (mark : Option GrantMark) : AnsweredAt p k r mark s (handOver p r mark u) := by
  have held : u.link p = .holding k := by
    rw [State.link, ports]
    exact link
  rw [AnsweredAt, handOver_of_holding held, ← ports]
  exact State.ports_setLink_self u p _

/-- R92, step 6: the answer of a grant is marked with its pairing. -/
theorem answeredAt_grantPair (link : s.link p = .holding .pair) (f : Found) (k : Ticket) :
    AnsweredAt p .pair (okResp (pairGrantBody s (pairingFor s p f k) f)) (some (.pair k p s.clock)) s (grantPair p f k s) := by
  refine answeredAt_handOver ?_ link _ _
  exact ((only_pairSite f k _).ports_eq (by simp)).trans ((only_claimDie f _).ports_eq (by simp))

/-- R5: a die that was AVAILABLE leaves the AVAILABLE count, and its bank gains a reference. -/
theorem banks_grantPair_of_available (read : dieAt (s.bank f.bank).dies f.die = f.record)
    (available : f.record.isAvailable = true) (p : Port) (k : Ticket) : (grantPair p f k s).banks =
      s.banks.set f.bank { s.bank f.bank with
        dies := putDie (s.bank f.bank).dies f.die { f.record with state := .claimed }
        available := (s.bank f.bank).available - 1
        refs := (s.bank f.bank).refs + 1 } := by
  have claimed : (s.bank f.bank).withDie f.die { f.record with state := .claimed } = { s.bank f.bank with
      dies := putDie (s.bank f.bank).dies f.die { f.record with state := .claimed }
      available := (s.bank f.bank).available - 1 } := by
    rw [MapBank.withDie, read, available]
    rfl
  have other := fun b (ne : b ≠ f.bank) => bank_grantPair p f k s b |>.trans (if_neg ne)
  have same := (bank_grantPair p f k s f.bank).trans (if_pos rfl)
  rw [claimed] at same
  rw [← PerBank.set_get_self (grantPair p f k s).banks f.bank]
  generalize f.bank = b at same other ⊢
  cases b
  · have rest := other .b1 (fun e => nomatch e)
    exact congrArg₂ PerBank.mk same rest
  · have rest := other .b0 (fun e => nomatch e)
    exact congrArg₂ PerBank.mk rest same

/-- R28, R92, step 3: the site is PAIRED with its wet time kept, and no count of its lane moves. -/
theorem lanes_grantPair_of_wetted {ps : Vector (Option Product) 8} {st : Strip} {w : Reading}
    (queue : QueueOk ps (s.lane f.cand.lane)) (mem : st ∈ (s.lane f.cand.lane).strips) (arrival : f.cand.arrival = st.arrival)
    (at_ : st.sites[f.cand.site]? = some (.wetted w)) (p : Port) (k : Ticket) : (grantPair p f k s).lanes =
      s.lanes.set f.cand.lane { s.lane f.cand.lane with
        strips := (s.lane f.cand.lane).strips.map (fun x => if x.arrival = f.cand.arrival then
          { x with sites := x.sites.set f.cand.site (.paired w k) } else x) } := by
  have site : s.site f.cand.lane f.cand.arrival f.cand.site = some (.wetted w) :=
    arrival ▸ (site_of_mem queue mem f.cand.site).trans at_
  have strips : stripAfter st.arrival f.cand.site (.wetted w) (.paired w k) = fun x =>
      if x.arrival = st.arrival then { x with sites := x.sites.set f.cand.site (.paired w k) } else x := by
    funext x
    rw [stripAfter, withSite_of_unsettled rfl rfl]
  rw [lanes_grantPair, pairSite, site, arrival]
  dsimp only
  rw [changeSite_of_mem queue mem at_, laneAfter, strips]
  exact congrArg (fun n => s.lanes.set f.cand.lane { s.lane f.cand.lane with strips := _, wetAhead := n }) (recount_self _ true)

/-! ## The grant as a whole -/

/-- Settles O50: the found site and die by what the selection says of them, and each part of the grant by its own lemma. -/
theorem grantMakesThePairing : Obligations.GrantMakesThePairing := by
  unfold Obligations.GrantMakesThePairing
  intro p c f tk s law link found ticket b prod lease pr t
  have laws := laws_of_device law
  obtain ⟨active, read, available⟩ := grant_claims law.map found
  obtain ⟨st, mem, arrival, _, _, w, at_, _⟩ := found_spec found
  have queue := (laws.lanes f.cand.lane).queue
  have pairing : pairingFor s p f tk = pr := by
    rw [pairingFor, ticksOfMs, Nat.mul_comm]
    rfl
  refine ⟨only_grantPair p f tk s, kept_grantPair p f tk s, lastTicket_grantPair p f tk s,
    (pairings_grantPair p f tk s).trans (by rw [pairing]), trace_grantPair p f tk s, waitList_grantPair p f tk s,
    banks_grantPair_of_available read available p tk,
    ⟨w, arrival ▸ (site_of_mem queue mem f.cand.site).trans at_, lanes_grantPair_of_wetted queue mem arrival at_ p tk⟩,
    fun q => ?_, ?_⟩
  · obtain ⟨_, _, _, _, one, _⟩ := law.roles
    have taken : (dieAt (s.bank f.bank).dies f.die).state = .available := read ▸ (isAvailable_iff _).1 available
    have told := notice_changeDie (s := { s with lastTicket := tk }) one (laws.dieCounts f.bank) f.die
      (r := { f.record with state := .claimed }) rfl q
    rw [notice_grantPair, told]
    exact if_congr (and_congr_right fun _ => ⟨fun x => x.2.2, fun last => ⟨active, taken, last⟩⟩) rfl rfl
  · have answered := answeredAt_grantPair link f tk
    rw [pairing] at answered
    have layout : pairGrantBody s pr f = [tk] ++ be32 pr.waferId ++
        [oct pr.col, oct pr.row, pr.grade.setWidth 8, laneCode pr.lane] ++ be32 pr.stripId ++ be32 pr.arrival ++
        [oct pr.site] ++ be32 (s.clock + BitVec.ofNat 32 lease) ++
        be32 (BitVec.ofNat 32 (prod.openTime * 100 - f.cand.age)) := by
      simp only [List.append_assoc]
      rfl
    exact layout ▸ answered

end Sys2Proof.Proofs
end

section
/-! PROOFS. The head reports: the ticket check that comes first, the checks of field and phase, and PICKED (R84, R95, R96,
Table 6-4). -/

namespace Sys2Proof.Proofs

open Sys2Proof Sys2Proof.Machine Sys2Proof.Safety

variable {s : State} {k : Kind} {p : Port} {body : List Octet} {pr : Pairing}

/-! ## Tickets (R89) -/

/-- R89: a pairing in flight is the one that its ticket names. -/
theorem pairing_of_mem (law : TicketLaw s) (mem : pr ∈ s.pairings) : s.pairing pr.ticket = some pr := by
  obtain ⟨x, found⟩ : ∃ x, s.pairing pr.ticket = some x :=
    Option.isSome_iff_exists.1 (List.find?_isSome.2 ⟨pr, mem, beq_self_eq_true _⟩)
  rw [found, List.inj_on_of_nodup_map (List.nodup_append.1 law.1).1 (mem_of_pairing found) mem (pairing_split found).1]

theorem pairing_eq_none_iff {t : Ticket} : s.pairing t = none ↔ ∀ q ∈ s.pairings, q.ticket ≠ t := by
  simp [State.pairing]

/-- R89: a ticket of the ring names one entry there, and no pairing in flight. -/
theorem ended_of_mem (law : TicketLaw s) {e : RingEntry} (mem : e ∈ s.ring) :
    s.pairing e.ticket = none ∧ s.ended e.ticket = some e := by
  obtain ⟨_, ring, apart⟩ := List.nodup_append.1 law.1
  obtain ⟨x, found⟩ : ∃ x, s.ended e.ticket = some x :=
    Option.isSome_iff_exists.1 (List.find?_isSome.2 ⟨e, mem, beq_self_eq_true _⟩)
  refine ⟨pairing_eq_none_iff.2 fun q mq same => ?_, ?_⟩
  · exact apart _ (List.mem_map_of_mem mq) _ (List.mem_map_of_mem mem) same
  · have same : x.ticket = e.ticket := by simpa using List.find?_some found
    rw [found, List.inj_on_of_nodup_map ring (List.mem_of_find?_eq_some found) mem same]

/-! ## The ticket check (R95) -/

/-- R95: a ticket of another port's pairing or ring entry. -/
theorem withTicket_of_other (law : TicketLaw s) {t : Ticket}
    (other : (∃ pr ∈ s.pairings, pr.ticket = t ∧ pr.port ≠ p) ∨ ∃ e ∈ s.ring, e.ticket = t ∧ e.port ≠ p)
    (f : Pairing → State → State) : withTicket p t f s = reply p (resp .notOwner []) s := by
  rcases other with ⟨pr, mem, rfl, port⟩ | ⟨e, mem, rfl, port⟩
  · simp only [withTicket, checkTicket, pairing_of_mem law mem, if_neg port]
  · obtain ⟨none, ended⟩ := ended_of_mem law mem
    simp only [withTicket, checkTicket, none, ended, if_neg port]

/-- R95: a ticket that the ring holds for the port. -/
theorem withTicket_of_ended (law : TicketLaw s) {e : RingEntry} (mem : e ∈ s.ring) (port : e.port = p)
    (f : Pairing → State → State) : withTicket p e.ticket f s = reply p (resp .stale [e.outcome.code]) s := by
  obtain ⟨none, ended⟩ := ended_of_mem law mem
  simp only [withTicket, checkTicket, none, ended, if_pos port]

/-- R95: a ticket that neither a pairing nor the ring holds. -/
theorem withTicket_of_unknown {t : Ticket} (flight : ∀ pr ∈ s.pairings, pr.ticket ≠ t) (ring : ∀ e ∈ s.ring, e.ticket ≠ t)
    (f : Pairing → State → State) : withTicket p t f s = reply p (resp .unknown []) s := by
  have ended : s.ended t = none := by simpa [State.ended] using ring
  simp only [withTicket, checkTicket, pairing_eq_none_iff.2 flight, ended]

/-- R95: a ticket of a pairing of the port proceeds. -/
theorem withTicket_of_mine (law : TicketLaw s) (mem : pr ∈ s.pairings) (port : pr.port = p) (f : Pairing → State → State) :
    withTicket p pr.ticket f s = f pr s := by
  simp only [withTicket, checkTicket, pairing_of_mem law mem, if_pos port]

/-! ## The checks of a report (Table 6-4) -/

/-- R99: the reasons of PICK_FAIL are 1, 2 and 3, and each says what becomes of the die. -/
theorem reasonOfCode_eq_none_iff (o : Octet) : reasonOfCode o = none ↔ ¬ (1 ≤ o.toNat ∧ o.toNat ≤ 3) := by
  unfold reasonOfCode
  by_cases one : o = 1
  · subst one; decide
  · by_cases two : o = 2
    · subst two; decide
    · by_cases three : o = 3
      · subst three; decide
      · rw [if_neg one, if_neg two, if_neg three]
        exact iff_of_true rfl (by bv_omega)

/-- R99: the reason octet of a PICK_FAIL is one of Table 6-5's; the other reports have no field check. -/
def FieldOk (k : Kind) (body : List Octet) : Prop := k = .pickFail → 1 ≤ (u8 body 1).toNat ∧ (u8 body 1).toNat ≤ 3

/-- Table 6-4: what a report makes of a pairing of its own port that it does not take: its field check, then its phase check. -/
structure Checked (k : Kind) (p : Port) (body : List Octet) (f : Pairing → State → State) : Prop where
  range : ¬ FieldOk k body → ∀ pr s, f pr s = reply p (resp .range []) s
  claimed : FieldOk k body → k ∈ [Kind.bonded, .discard] → ∀ pr s, pr.phase = .claimed →
    f pr s = reply p (resp .busy [1]) s
  picked : FieldOk k body → k ∈ [Kind.picked, .pickFail] → ∀ pr s, pr.phase ≠ .claimed →
    f pr s = reply p (resp .busy [2]) s

/-- A report that has no field check and is taken in one of the two phases only. -/
theorem checked_of_phase {f : Pairing → State → State} (field : k ≠ .pickFail)
    (claimed : k ∈ [Kind.bonded, .discard] → ∀ pr s, pr.phase = .claimed → f pr s = reply p (resp .busy [1]) s)
    (picked : k ∈ [Kind.picked, .pickFail] → ∀ pr s, pr.phase ≠ .claimed → f pr s = reply p (resp .busy [2]) s) :
    Checked k p body f :=
  ⟨fun bad => absurd (fun fail => absurd fail field) bad, fun _ => claimed, fun _ => picked⟩

theorem refusePhase_of_claimed (phase : pr.phase = .claimed) (p : Port) (s : State) :
    refusePhase p pr s = reply p (resp .busy [1]) s := by
  rw [refusePhase, phase]
  rfl

theorem refusePhase_of_picked {g : Reading} (phase : pr.phase = .picked g) (p : Port) (s : State) :
    refusePhase p pr s = reply p (resp .busy [2]) s := by
  rw [refusePhase, phase]
  rfl

theorem picked_of_not_claimed (h : pr.phase ≠ .claimed) : ∃ g, pr.phase = .picked g := by
  cases phase : pr.phase with
  | claimed => exact absurd phase h
  | picked g => exact ⟨g, rfl⟩

/-- R95: every report checks its ticket, then its field and its phase. -/
theorem serve_of_report (report : k ∈ [Kind.picked, .bonded, .pickFail, .discard]) (p : Port) (body : List Octet) :
    ∃ f, Checked k p body f ∧ ∀ s, serve k p body s = withTicket p (u8 body 0) f s := by
  simp only [List.mem_cons, List.not_mem_nil, or_false] at report
  rcases report with rfl | rfl | rfl | rfl
  · refine ⟨_, checked_of_phase (fun e => nomatch e) (by simp) fun _ pr s out => ?_, fun s => rfl⟩
    obtain ⟨g, phase⟩ := picked_of_not_claimed out
    rw [← refusePhase_of_picked phase p s, phase]
  · refine ⟨_, checked_of_phase (fun e => nomatch e) (fun _ pr s phase => ?_) (by simp), fun s => rfl⟩
    rw [← refusePhase_of_claimed phase p s, phase]
  · refine ⟨_, ⟨fun bad pr s => ?_, by simp, fun good _ pr s out => ?_⟩, fun s => rfl⟩
    · rw [(reasonOfCode_eq_none_iff _).2 fun range => bad fun _ => range]
    · obtain ⟨g, phase⟩ := picked_of_not_claimed out
      have named : reasonOfCode (u8 body 1) ≠ none := fun none => (reasonOfCode_eq_none_iff _).1 none (good rfl)
      obtain ⟨reason, code⟩ := Option.ne_none_iff_exists'.1 named
      rw [← refusePhase_of_picked phase p s, phase, code]
  · refine ⟨_, checked_of_phase (fun e => nomatch e) (fun _ pr s phase => ?_) (by simp), fun s => rfl⟩
    rw [← refusePhase_of_claimed phase p s, phase]

/-- Settles O32: the ticket check by what the ticket names; the other checks by what each report makes of its pairing. -/
theorem reportsCheckTheirTicket : Obligations.ReportsCheckTheirTicket := by
  unfold Obligations.ReportsCheckTheirTicket
  intro k p body s report law taken tk reasonOk
  obtain ⟨f, checked, served⟩ := serve_of_report report p body
  have answered : ∀ r, withTicket p tk f (s.setLink p (.holding k)) = reply p r (s.setLink p (.holding k)) →
      ∃ t, exec (requestOf k p body) s = .next t ∧ AnswersWith p k r [] s t := fun r eq =>
    ⟨_, exec_of_served taken ((served _).trans eq), answersWith_reply_held r⟩
  have tickets : TicketLaw (s.setLink p (.holding k)) := law.tickets
  refine ⟨fun other => answered _ (withTicket_of_other tickets other f), ?_,
    fun flight ring => answered _ (withTicket_of_unknown (s := s.setLink p (.holding k)) flight ring f), ?_⟩
  · rintro e mem ticket port
    exact answered _ (ticket ▸ withTicket_of_ended tickets mem port f)
  · intro pr mem ticket port
    have mine := ticket ▸ withTicket_of_mine tickets mem port f
    exact ⟨fun bad => answered _ (mine.trans (checked.range bad pr _)),
      fun good kind phase => answered _ (mine.trans (checked.claimed good kind pr _ phase)),
      fun good kind phase => answered _ (mine.trans (checked.picked good kind pr _ phase))⟩

/-! ## PICKED (R84, R96) -/

/-- R5: the change of a die that was not AVAILABLE and is not tells the wafer port nothing, and moves no count. -/
theorem changeDie_of_unavailable {b : BankId} {i : Nat} {r : DieRecord} (was : (dieAt (s.bank b).dies i).isAvailable = false)
    (now : r.isAvailable = false) :
    changeDie b i r s = s.setBank b { s.bank b with dies := putDie (s.bank b).dies i r } := by
  have kept : (s.bank b).withDie i r = { s.bank b with dies := putDie (s.bank b).dies i r } := by
    rw [MapBank.withDie, was, now, recount_self]
  simp only [changeDie, was, kept, Bool.and_false, Bool.false_and, Bool.false_eq_true, if_false]

/-- R4: the die of a pairing in flight is not AVAILABLE. -/
theorem unavailable_of_mem (law : PairedDieLaw s) (mem : pr ∈ s.pairings) : (pr.dieRecord s).isAvailable = false := by
  obtain ⟨_, _, state⟩ := law.1 pr mem
  rw [DieRecord.isAvailable, state]
  split <;> rfl

/-- R96: what a PICKED report leaves. -/
theorem takePick_eq (unavailable : (pr.dieRecord s).isAvailable = false) : takePick pr s = { s with
    banks := s.banks.set pr.bank { s.bank pr.bank with
      dies := putDie (s.bank pr.bank).dies (pr.dieIndex s) { pr.dieRecord s with state := .picked } }
    pairings := s.pairings.map (fun q => if q.ticket = pr.ticket then pickedPairing pr s else q)
    lastPick := s.lastPick.set pr.port.val ⟨pr.col, pr.row⟩ pr.port.isLt } := by
  rw [takePick, changeDie_of_unavailable unavailable rfl]
  rfl

/-- R96: the ticket check passed, and the pairing in CLAIMED. -/
theorem servePicked_of_claimed (law : TicketLaw s) (mem : pr ∈ s.pairings) (ticket : pr.ticket = u8 body 0)
    (port : pr.port = p) (phase : pr.phase = .claimed) :
    servePicked p body s = reply p (okResp (pickedBody pr s)) (takePick pr s) := by
  rw [servePicked, ← ticket, withTicket_of_mine law mem port, phase]

/-- Settles O33: the report passes its checks, and each part of the pick as it is written. -/
theorem pickedReport : Obligations.PickedReport := by
  unfold Obligations.PickedReport
  intro p body s law taken pr mem ticket port phase lease left
  subst port
  have picked := takePick_eq (s := s.setLink pr.port (.holding .picked)) (unavailable_of_mem law.pairedDie mem)
  have served := servePicked_of_claimed (s := s.setLink pr.port (.holding .picked)) law.tickets mem ticket rfl phase
  have answer : pickedBody pr (s.setLink pr.port (.holding .picked)) =
      be32 (s.clock + BitVec.ofNat 32 lease) ++ be32 (BitVec.ofNat 32 left) := by
    rw [pickedBody, ticksOfMs, Nat.mul_comm]
    rfl
  have running : pickedPairing pr (s.setLink pr.port (.holding .picked)) =
      { pr with phase := .picked s.clock, leaseStart := s.clock, leaseLength := lease } := by
    rw [pickedPairing, ticksOfMs, Nat.mul_comm]
    rfl
  rw [answer, picked, running] at served
  refine ⟨_, exec_of_served taken served, answersWith_reply ?_ (by simp) _, ?_, ?_, ?_⟩
  · simp [OnlyChanges, Part.list, Part.same]
  · exact (only_reply _ _ _).pairings_eq (by simp)
  · exact (only_reply _ _ _).lastPick_eq (by simp)
  · exact (only_reply _ _ _).banks_eq (by simp)

end Sys2Proof.Proofs
end

section
/-! PROOFS. What the passes and the steps of a common end leave: the die that a pass may claim, the trace, the pairings in flight,
and the notices of ports that neither of them tells anything (R5, R16, R92, R94, R108, R141). -/

namespace Sys2Proof.Proofs

open Sys2Proof Sys2Proof.Machine Sys2Proof.Safety

variable {s t u : State} {p q : Port}

/-- A pass is grants and obstacles replaced (R108): what both keep, passes keep. -/
theorem arbiterPasses_induct {I : State → Prop}
    (granted : ∀ (p : Port) (ch : LaneChoice) (f : Found) (k : Ticket) (u : State), select u p ch = .found f → I u →
      I (grantPair p f k u))
    (obstacle : ∀ (p : Port) (o : Obstacle) (u : State), I u → I (setObstacle p o u)) (n : Nat) (h : I s) :
    I (arbiterPasses n s) := by
  refine arbiterPasses_keeps (fun _ k => arbiterPass_keeps (fun e v k => ?_) k) n h
  rcases tryEntry_cases e v with ⟨f, ticket, _, found, _, eq⟩ | ⟨o, eq⟩ | eq <;> rw [eq]
  · exact granted e.port e.choice f ticket v found k
  · exact obstacle e.port o v k
  · exact k

/-! ## The die that a pass claims (R81, R92) -/

/-- What passes leave of the banks: a die stands, or was AVAILABLE in the ACTIVE bank and is CLAIMED; a bank that is not ACTIVE
stands whole. -/
structure DieStand (s t : State) : Prop where
  maps : MapInv t
  states : ∀ b, (t.bank b).state = (s.bank b).state
  banks : ∀ b, (s.bank b).state ≠ .active → t.bank b = s.bank b
  dice : ∀ b i, dieOf t b i = dieOf s b i ∨
    ((dieOf s b i).state = .available ∧ (s.bank b).state = .active ∧ dieOf t b i = (dieOf s b i).to .claimed)

theorem DieStand.of_banks (maps : MapInv t) (banks : t.banks = s.banks) : DieStand s t := by
  have bank := bank_eq_of_banks banks
  exact ⟨maps, fun b => by rw [bank], fun b _ => bank b, fun b i => .inl (by rw [dieOf, bank])⟩

theorem DieStand.grantPair (h : DieStand s t) {ch : LaneChoice} {f : Found} (found : select t p ch = .found f) (k : Ticket) :
    DieStand s (grantPair p f k t) := by
  obtain ⟨active, read, available⟩ := grant_claims h.maps found
  have bank := bank_grantPair p f k t
  have was : (s.bank f.bank).state = .active := (h.states f.bank).symm.trans active
  refine ⟨mapInv_grantPair h.maps p f k active, fun b => ?_, fun b off => ?_, fun b i => ?_⟩
  · rw [bank, ← h.states b]
    split
    · rename_i here; rw [here]; rfl
    · rfl
  · rw [bank, if_neg fun here => off (by rw [here]; exact was)]
    exact h.banks b off
  · by_cases here : b = f.bank ∧ i = f.die
    · obtain ⟨rfl, rfl⟩ := here
      have claimed : dieOf (Machine.grantPair p f k t) f.bank f.die = f.record.to .claimed := by
        rw [dieOf, bank, if_pos rfl]
        exact (dieAt_putDie (dieCounts_of_map h.maps f.bank).1 _ _ _).trans (if_pos rfl)
      rcases h.dice f.bank f.die with same | ⟨_, _, same⟩
      · rw [claimed, ← read, ← same]
        exact .inr ⟨(isAvailable_iff _).1 (by rw [dieOf, read]; exact available), was, rfl⟩
      · rw [dieOf, read] at same
        rw [same] at available
        cases available
    · have same : dieOf (Machine.grantPair p f k t) b i = dieOf t b i := by
        rw [dieOf, bank]
        split
        · rename_i bk
          subst bk
          exact (dieAt_putDie (dieCounts_of_map h.maps f.bank).1 _ _ _).trans (if_neg fun e => here ⟨rfl, e⟩)
        · rfl
      rw [same]
      exact h.dice b i

theorem DieStand.arbiterPasses (h : DieStand s t) (n : Nat) : DieStand s (arbiterPasses n t) :=
  arbiterPasses_induct (fun _ _ _ k _ found h => h.grantPair found k)
    (fun p o u h => ⟨mapInv_of_only (only_setObstacle p o u) (by simp) (by simp) h.maps, h.states, h.banks, h.dice⟩) n h

/-! ## The trace and the pairings in flight (R118, R120) -/

/-- A grant makes a reservation and writes no record. -/
theorem traceKept_arbiterPasses (n : Nat) (s : State) : TraceKept s (arbiterPasses n s) :=
  arbiterPasses_induct (I := TraceKept s) (fun p _ f k u _ h => by rw [TraceKept, trace_grantPair]; exact h) (fun _ _ _ h => h) n
    ⟨rfl, rfl⟩

/-- Passes end no pairing. -/
theorem mem_pairings_arbiterPasses {pr : Pairing} (n : Nat) (mem : pr ∈ s.pairings) : pr ∈ (arbiterPasses n s).pairings :=
  arbiterPasses_induct (I := fun u => pr ∈ u.pairings)
    (fun p _ f k u _ h => by rw [pairings_grantPair]; exact List.mem_append_left _ h) (fun _ _ _ h => h) n mem

/-- Passes keep the wet time of a WETTED site. -/
theorem WetSince.arbiterPasses {l : Lane} {c : BitVec 32} {i : Nat} {w : Reading} (h : WetSince l c i w s) (n : Nat) :
    WetSince l c i w (arbiterPasses n s) :=
  arbiterPasses_keeps (I := WetSince l c i w) (fun _ k => k.arbiterPass) n h

/-! ## Ports that an end tells nothing but PAIRING_ENDED (R141) -/

/-- The port is neither S0 nor the WAFER port: no source of the map banks or of the trace is its own. -/
def Aside (s : State) (q : Port) : Prop := q ≠ 0 ∧ s.role q ≠ .wafer

theorem Aside.of_roles (h : Aside s q) (roles : t.roles = s.roles) : Aside t q := by
  rwa [Aside, role_congr roles]

theorem rankOf_of_not_wafer {r : Role} (other : r ≠ .wafer) : r.rankOf .waferClear = none ∧ r.rankOf .waferExhausted = none := by
  cases r with
  | wafer => exact absurd rfl other
  | dispenser l => cases l <;> decide
  | _ => decide

theorem Aside.changeDie (h : Aside s q) (b : BankId) (i : Nat) (r : DieRecord) : NoticeStands q s (changeDie b i r s) := by
  unfold Machine.changeDie
  dsimp only
  split
  · exact noticeStands_raiseTo (s := s.setBank b _) .wafer (rankOf_of_not_wafer h.2).2
  · exact ⟨rfl, rfl⟩

theorem Aside.grantPair (h : Aside s q) (p : Port) (f : Found) (k : Ticket) : NoticeStands q s (grantPair p f k s) := by
  refine ⟨?_, (only_grantPair p f k s).roles_eq (by simp [passParts])⟩
  rw [notice_grantPair]
  exact (Aside.changeDie (s := { s with lastTicket := k }) h f.bank f.die _).1

theorem Aside.arbiterPasses (h : Aside s q) (n : Nat) : NoticeStands q s (arbiterPasses n s) :=
  arbiterPasses_induct (I := NoticeStands q s) (fun p _ f k _ _ stands => stands.trans ((h.of_roles stands.2).grantPair p f k))
    (fun _ _ _ stands => stands) n ⟨rfl, rfl⟩

theorem Aside.closeTrace (h : Aside s q) (pr : Pairing) (k : Option TraceKind) : NoticeStands q s (closeTrace pr k s) := by
  unfold Machine.closeTrace
  split
  · exact noticeStands_reevalTraceLevel h.1 _
  · exact ⟨rfl, rfl⟩

theorem Aside.retireIfClear (h : Aside s q) (b : BankId) : NoticeStands q s (retireIfClear b s) := by
  unfold Machine.retireIfClear
  split
  · exact noticeStands_raiseTo (s := s) .wafer (rankOf_of_not_wafer h.2).1
  · exact ⟨rfl, rfl⟩

/-- R134, Table 10-1: a HEAD or an INDEXER port is such a port. -/
theorem aside_of_role (roles : RoleLaw s) (role : s.role q = .head ∨ s.role q = .indexer) : Aside s q := by
  refine ⟨fun zero => ?_, fun wafer => ?_⟩
  · subst zero
    rw [roles.1] at role
    rcases role with e | e <;> cases e
  · rw [wafer] at role
    rcases role with e | e <;> cases e

end Sys2Proof.Proofs
end

section
/-! PROOFS. The common end of a pairing, said once for every cause of it: the die, the site, the ring, the trace and the notices that
it leaves, and what the passes after it may still change (R91, R94, R118 to R120, R142). -/

namespace Sys2Proof.Proofs

open Sys2Proof Sys2Proof.Machine Sys2Proof.Safety

variable {s t u v : State} {pr : Pairing} {e : PairEnd} {l : Lane} {q : Port}

/-! ## The ring and the trace (R91, R94) -/

theorem ringAppend_eq_drop {ring : List RingEntry} (law : ring.length ≤ Config.ringSize) (x : RingEntry) :
    ringAppend x ring = (ring ++ [x]).drop (ring.length + 1 - Config.ringSize) := by
  unfold ringAppend
  split
  · rename_i room
    rw [Nat.sub_eq_zero_of_le room, List.drop_zero]
  · rename_i full
    have size : ring.length = 16 := Nat.le_antisymm law (Nat.not_lt.1 full)
    rw [size, List.drop_append_of_le_length (by rw [size]; decide)]
    rfl

theorem ring_endPairing (pr : Pairing) (e : PairEnd) (s : State) : (endPairing pr e s).ring =
    ringAppend { ticket := pr.ticket, port := pr.port, outcome := e.outcome } s.ring :=
  ((only_endPairing_sorted pr e s).ring_eq (by simp)).trans ((only_releaseSite _ _ _).ring_eq (by simp))

theorem ringGains_endPairing (law : s.ring.length ≤ Config.ringSize) (pr : Pairing) (e : PairEnd) :
    RingGains { ticket := pr.ticket, port := pr.port, outcome := e.outcome } s (endPairing pr e s) :=
  (ring_endPairing pr e s).trans (ringAppend_eq_drop law _)

/-- R119: an end with no record of its own, or of a pairing that was not picked, writes nothing. -/
theorem traceKept_endPairing (unrecorded : e.record = none ∨ pr.phase = .claimed) (s : State) :
    TraceKept s (endPairing pr e s) := by
  have closed : (closeTrace pr e.record s).trace = s.trace.release := by
    rcases unrecorded with none | claimed
    · rw [none, trace_closeTrace_none]
    · unfold closeTrace
      split
      · rename_i picked
        rw [claimed] at picked
        cases picked
      · rfl
  rw [TraceKept, trace_endPairing, closed]
  exact ⟨rfl, rfl⟩

/-- R118, R119: the end of a picked pairing writes its record. -/
theorem traceGains_endPairing {k : TraceKind} {g : Reading} (record : e.record = some k) (picked : pr.phase = .picked g)
    (s : State) : TraceGains (endRecord pr k g s) s (endPairing pr e s) := by
  rw [TraceGains, trace_endPairing, record, trace_closeTrace_picked picked]
  exact ⟨rfl, rfl, rfl⟩

/-! ## The die (R5, R14) -/

/-- R14: the bank of an ended pairing has its die written and one reference less, or is blank where it was RETIRING and this was
its last reference. -/
theorem bank_endPairing_self (map : MapInv s) (mem : pr ∈ s.pairings) (e : PairEnd) : (endPairing pr e s).bank pr.bank =
    if (s.bank pr.bank).state = .retiring ∧ (s.bank pr.bank).refs = 1 then .blank
    else { (s.bank pr.bank).withDie (pr.dieIndex s) e.die with refs := (s.bank pr.bank).refs - 1 } := by
  have written : (endedBeforeRetire pr e s).bank pr.bank =
      { (s.bank pr.bank).withDie (pr.dieIndex s) e.die with refs := (s.bank pr.bank).refs - 1 } :=
    ((bank_eq_of_banks (banks_endedBeforeRetire pr e s) _).trans (bank_releaseDie pr e.die s pr.bank)).trans (if_pos rfl)
  have some : 0 < (s.bank pr.bank).refs := by
    rw [((mapInv_iff s).1 map).1.refs.1 pr.bank]
    exact List.length_pos_of_mem (List.mem_filter.2 ⟨mem, beq_self_eq_true _⟩)
  have retired : (endPairing pr e s).bank pr.bank = (retireIfClear pr.bank (endedBeforeRetire pr e s)).bank pr.bank := by
    rw [endPairing_eq]
    split
    · exact bank_eq_of_banks ((only_raiseAt _ _ _).banks_eq (by simp)) _
    · rfl
  rw [retired, bank_retireIfClear, written]
  refine if_congr ?_ rfl rfl
  show pr.bank = pr.bank ∧ (s.bank pr.bank).state = .retiring ∧ (s.bank pr.bank).refs - 1 = 0 ↔ _
  exact ⟨fun ⟨_, retiring, last⟩ => ⟨retiring, by omega⟩, fun ⟨retiring, last⟩ => ⟨rfl, retiring, by omega⟩⟩

theorem bank_endPairing_other (pr : Pairing) (e : PairEnd) (s : State) {b : BankId} (other : b ≠ pr.bank) :
    (endPairing pr e s).bank b = s.bank b := by
  rcases bank_endPairing pr e s b with eq | ⟨here, _⟩
  · exact eq.trans (if_neg other)
  · exact absurd here other

/-- The die of an ended pairing after any passes. -/
theorem dieLeft_of_dieStand (map : MapInv s) (mem : pr ∈ s.pairings) (stand : DieStand (endPairing pr e s) t) :
    DieLeft pr e.die s t := by
  have bank := bank_endPairing_self map mem e
  unfold DieLeft
  split
  · rename_i last
    rw [if_pos last] at bank
    rw [stand.banks pr.bank (by rw [bank]; exact fun e => nomatch e), bank]
    rfl
  · rename_i stays
    rw [if_neg stays] at bank
    have written : dieOf (endPairing pr e s) pr.bank (pr.dieIndex s) = e.die := by
      rw [dieOf, bank]
      exact (dieAt_putDie (dieCounts_of_map map pr.bank).1 _ _ _).trans (if_pos rfl)
    have state : ((endPairing pr e s).bank pr.bank).state = (s.bank pr.bank).state := by rw [bank]; rfl
    have left := stand.dice pr.bank (pr.dieIndex s)
    rwa [written, state] at left

/-! ## The site and what it hands on (R28, R30) -/

/-- All that an end changes of the lanes, gates and ports is what the release of its site changes. -/
theorem sameWork_endPairing (pr : Pairing) (e : PairEnd) (s : State) :
    SameWork (releaseSite pr e.site s) (endPairing pr e s) := by
  have before : SameWork s { s with
      banks := (endPairing pr e s).banks
      trace := (closeTrace pr e.record s).trace
      pairings := s.pairings.eraseP (fun q => q.ticket == pr.ticket)
      ring := ringAppend { ticket := pr.ticket, port := pr.port, outcome := e.outcome } s.ring } := ⟨rfl, rfl, rfl, rfl, rfl⟩
  exact (before.releaseSite pr e.site).trans (sameWork_of_only (only_endPairing_sorted pr e s) (by simp))

theorem releaseSite_of_wetted {w : Reading} (pr : Pairing) (s : State) :
    releaseSite pr (some (.wetted w)) s = changeSite pr.lane pr.arrival pr.site (.wetted w) s := rfl

theorem releaseSite_of_settled {x : Site} (settled : x.settled = true) (pr : Pairing) (s : State) :
    releaseSite pr (some x) s = handOnSettled pr.lane pr.arrival (changeSite pr.lane pr.arrival pr.site x s) :=
  if_pos settled

/-- R28, R89: the site of a pairing in flight is PAIRED under its ticket, with the pairing's wet time. -/
theorem Laws.site_of_pairing {m : Mode} (laws : Laws m s) (mem : pr ∈ s.pairings) :
    ∃ st ∈ (s.lane pr.lane).strips, st.arrival = pr.arrival ∧
      st.sites[pr.site]? = some (.paired (pr.wetTime s) pr.ticket) ∧
      s.site pr.lane pr.arrival pr.site = some (.paired (pr.wetTime s) pr.ticket) := by
  obtain ⟨st, mst, arrival, _, w, at_, _⟩ := (laws.pairings pr mem).sited
  obtain ⟨read, wet, _⟩ := read_of_sited (laws.lanes pr.lane).queue mst arrival at_
  exact ⟨st, mst, arrival, wet ▸ at_, wet ▸ read⟩

/-! ## The notices (R141, R142) -/

/-- R34: STRIP_SETTLED is the INDEXER port's alone. -/
theorem noticeStands_handOnSettled (other : s.role q ≠ .indexer) (l : Lane) (a : BitVec 32) :
    NoticeStands q s (handOnSettled l a s) := by
  have unranked : (s.role q).rankOf .stripSettled = none := by
    cases role : s.role q with
    | indexer => exact absurd role other
    | dispenser l => cases l <;> decide
    | _ => decide
  have examined := noticeStands_of_only (only_reexamine l s) (by simp) (by simp) q
  refine examined.trans ?_
  unfold handOnSettled settlementCheck
  split
  · exact ⟨rfl, rfl⟩
  · split
    · exact noticeStands_raiseTo _ (by rw [role_congr examined.2]; exact unranked)
    · exact ⟨rfl, rfl⟩

theorem Aside.releaseDie (h : Aside s q) (pr : Pairing) (r : DieRecord) : NoticeStands q s (releaseDie pr r s) :=
  h.changeDie pr.bank _ r

/-- What follows the release of the site tells such a port nothing before PAIRING_ENDED. -/
theorem Aside.afterRelease (h : Aside s q) (pr : Pairing) (k : Option TraceKind) (o : PairOutcome) :
    NoticeStands q s (Machine.retireIfClear pr.bank (retireTicket pr o (Machine.closeTrace pr k s))) := by
  have closed : NoticeStands q s (retireTicket pr o (Machine.closeTrace pr k s)) := h.closeTrace pr k
  exact closed.trans ((h.of_roles closed.2).retireIfClear pr.bank)

/-- R142: after the release of the site, an end tells a port that is aside nothing but PAIRING_ENDED, which reaches the pairing's
head. -/
theorem notice_endPairing_of_released (h : Aside s q) (pr : Pairing) (e : PairEnd) : (endPairing pr e s).notice q =
    if e.announce = true ∧ q = pr.port then
      afterRaise (.pairingEnded 1 [(pr.ticket, e.outcome)]) q (releaseSite pr e.site (releaseDie pr e.die s))
    else (releaseSite pr e.site (releaseDie pr e.die s)).notice q := by
  have roles : (releaseSite pr e.site (releaseDie pr e.die s)).roles = s.roles :=
    ((only_releaseSite _ _ _).roles_eq (by simp)).trans ((only_releaseDie _ _ _).roles_eq (by simp))
  have ended := (h.of_roles roles).afterRelease pr e.record e.outcome
  rw [endPairing_eq]
  by_cases announced : e.announce = true
  · rw [if_pos announced, notice_raiseAt]
    by_cases head : q = pr.port
    · rw [if_pos head, if_pos ⟨announced, head⟩, ← head]
      exact afterRaise_congr_at (role_congr ended.2 q) ended.1 _
    · rw [if_neg head, if_neg fun c => head c.2]
      exact ended.1
  · rw [if_neg announced, if_neg fun c => announced c.1]
    exact ended.1

/-- R142: an end whose site tells such a port nothing tells it nothing but PAIRING_ENDED. -/
theorem notice_endPairing (h : Aside s q)
    (site : NoticeStands q (releaseDie pr e.die s) (releaseSite pr e.site (releaseDie pr e.die s))) :
    (endPairing pr e s).notice q =
      if e.announce = true ∧ q = pr.port then afterRaise (.pairingEnded 1 [(pr.ticket, e.outcome)]) q s else s.notice q := by
  have released := (h.releaseDie pr e.die).trans site
  rw [notice_endPairing_of_released h, released.1, afterRaise_congr_at (role_congr released.2 q) released.1]

/-- The site of an end tells a port nothing where it stays, where it is not settled, or where the port is not the INDEXER's. -/
theorem noticeStands_releaseSite (quiet : s.role q ≠ .indexer ∨ ∀ x ∈ e.site, x.settled = false) (pr : Pairing) :
    NoticeStands q s (releaseSite pr e.site s) := by
  have changed := fun x => noticeStands_of_only (only_changeSite pr.lane pr.arrival pr.site x s) (by simp) (by simp) q
  cases site : e.site with
  | none => exact ⟨rfl, rfl⟩
  | some x =>
    by_cases settled : x.settled = true
    · have other := quiet.resolve_right fun open_ => by rw [open_ x site] at settled; cases settled
      rw [releaseSite_of_settled settled]
      exact (changed x).trans (noticeStands_handOnSettled (by rwa [role_congr (changed x).2]) _ _)
    · exact Eq.mpr (congrArg (NoticeStands q s) (if_neg settled)) (changed x)

end Sys2Proof.Proofs
end

section
/-! PROOFS. The common end with the passes after it, as the causes of an end state it: a site WETTED again, or a site settled and
handed on (R30, R33, R60, R91, R94, R108, R110). -/

namespace Sys2Proof.Proofs

open Sys2Proof Sys2Proof.Machine Sys2Proof.Safety

variable {s t u v : State} {pr : Pairing} {e : PairEnd} {l : Lane} {q : Port} {x : Site}

/-! ## What stands through the passes -/

/-- An end asks for one pass at least. -/
theorem endSignals_eq_succ (pr : Pairing) (e : PairEnd) (s : State) : ∃ n, endSignals pr e s = n + 1 := by
  refine ⟨endSignals pr e s - 1, ?_⟩
  have : 1 ≤ endSignals pr e s := by
    unfold endSignals
    omega
  omega

/-- R89: a ticket of the ring is in flight no more. -/
theorem Laws.pairing_of_ended {m : Mode} (laws : Laws m s) {x : RingEntry} (mem : x ∈ s.ring) : s.pairing x.ticket = none :=
  (ended_of_mem ⟨laws.tickets, fun pr mem => (laws.pairings pr mem).ticket⟩ mem).1

theorem mem_ringAppend (x : RingEntry) (ring : List RingEntry) : x ∈ ringAppend x ring :=
  List.mem_append_right _ List.mem_cons_self

/-- R60: what a re-examination has done for a held DOT stands while dotted sites, gates and the waiting port stand. -/
theorem dotReexamined_later (h : DotReexamined l s u) (stand : DotsStand u t) (gates : t.gates = u.gates)
    (ports : ∀ w ∈ (s.gate l).waiter, t.ports[w.port] = u.ports[w.port]) : DotReexamined l s t := by
  obtain ⟨unheld, served⟩ := h
  refine ⟨fun none => ?_, dotServed_later served stand gates ports⟩
  obtain ⟨same, wet⟩ := unheld none
  exact ⟨gates.trans same, (stand.wet l).trans wet⟩

/-- R34: an announced settlement stands while strips settle no more and the INDEXER port is told no more. -/
theorem settlementAnnounced_later {a : BitVec 32} (h : SettlementAnnounced l a s u) (stand : QueueStands u t)
    (notices : ∀ q, s.role q = .indexer → t.notice q = u.notice q) : SettlementAnnounced l a s t := by
  intro q indexer
  rw [notices q indexer, stand.oldestSettled, stand.oldestSettled]
  exact h q indexer

/-! ## Every end -/

/-- What the end of a pairing and its passes leave, whatever becomes of its site. -/
structure Ended (pr : Pairing) (e : PairEnd) (s t : State) : Prop where
  only : OnlyChanges endParts s t
  blocked : Stuck t
  gone : t.pairing pr.ticket = none
  others : ∀ q ∈ s.pairings, q.ticket ≠ pr.ticket → q ∈ t.pairings
  ring : RingGains { ticket := pr.ticket, port := pr.port, outcome := e.outcome } s t
  die : DieLeft pr e.die s t
  reserved : t.trace.reservations = t.pairings.length
  unrecorded : e.record = none ∨ pr.phase = .claimed → TraceKept s t
  recorded : ∀ k g, e.record = some k → pr.phase = .picked g → TraceGains (endRecord pr k g s) s t
  notices : ∀ q, Aside s q → s.role q ≠ .indexer ∨ (∀ x ∈ e.site, x.settled = false) → t.notice q =
    if e.announce = true ∧ q = pr.port then afterRaise (.pairingEnded 1 [(pr.ticket, e.outcome)]) q s else s.notice q

theorem ended_endAndPass (laws : Laws .normal s) (mem : pr ∈ s.pairings) (out : ¬ InFlight e.die.state)
    (leaves : ∀ x ∈ e.site, Leaves .normal s pr x) (left : e.site ≠ none) : Ended pr e s (endAndPass pr e s) := by
  have named := pairing_of_mem ⟨laws.tickets, fun pr mem => (laws.pairings pr mem).ticket⟩ mem
  have after := laws.endAndPass named out leaves fun none => absurd none left
  have passed := only_arbiterPasses (endSignals pr e s) (endPairing pr e s)
  have ring : (endAndPass pr e s).ring = (endPairing pr e s).ring := passed.ring_eq (by simp [passParts])
  have traced := traceKept_arbiterPasses (endSignals pr e s) (endPairing pr e s)
  obtain ⟨n, signals⟩ := endSignals_eq_succ pr e s
  refine ⟨only_endAndPass pr e s, ?_, ?_, fun q mq other => ?_, ?_, ?_, after.room.1, fun unrecorded => ?_,
    fun k g record picked => ?_, fun q aside quiet => ?_⟩
  · rw [endAndPass, signals]
    exact stuck_arbiterPasses n _
  · have entered := mem_ringAppend { ticket := pr.ticket, port := pr.port, outcome := e.outcome } s.ring
    exact after.pairing_of_ended (by rwa [ring, ring_endPairing])
  · refine mem_pairings_arbiterPasses _ ?_
    rw [pairings_endPairing]
    exact (List.mem_eraseP_of_neg (by simpa using other)).2 mq
  · exact ring.trans (ringGains_endPairing laws.ringSize pr e)
  · exact dieLeft_of_dieStand laws.map mem
      ((DieStand.of_banks (mapInv_endPairing laws.map named e) rfl).arbiterPasses (endSignals pr e s))
  · obtain ⟨records, seq⟩ := traceKept_endPairing unrecorded s
    exact ⟨traced.1.trans records, traced.2.trans seq⟩
  · obtain ⟨records, seq, next⟩ := traceGains_endPairing record picked s
    exact ⟨traced.1.trans records, seq, traced.2.trans next⟩
  · have roles := (only_endPairing pr e s).roles_eq (by simp [endParts, passParts])
    have released := (aside.releaseDie pr e.die).2
    exact ((aside.of_roles roles).arbiterPasses _).1.trans
      (notice_endPairing aside (noticeStands_releaseSite (by rwa [role_congr released]) pr))

/-! ## A site WETTED again (R28) -/

/-- What an end leaves whose site returns to WETTED. -/
structure EndedWet (pr : Pairing) (s t : State) : Prop where
  only : OnlyChanges (.ring :: passParts) s t
  ports : PortsKept (waitPorts s) s t
  site : SiteWetAgain pr s t
  wet : (t.lane pr.lane).wetAhead = (s.lane pr.lane).wetAhead

/-- The site of an end is WETTED again, or paired since under a ticket in flight, which is not the ended one. -/
theorem siteWetAgain_of_wetSince (laws : Laws .normal t) (gone : t.pairing pr.ticket = none)
    (since : WetSince pr.lane pr.arrival pr.site (pr.wetTime s) t) : SiteWetAgain pr s t := by
  rw [SiteWetAgain]
  rcases laws.paired_of_wetSince since with site | ⟨y, my, site⟩ <;> rw [site]
  exact ⟨rfl, pairing_eq_none_iff.1 gone y my⟩

theorem endedWet_endAndPass (laws : Laws .normal s) (mem : pr ∈ s.pairings) (out : ¬ InFlight e.die.state)
    (wetted : e.site = some (.wetted (pr.wetTime s))) : EndedWet pr s (endAndPass pr e s) := by
  have named := pairing_of_mem ⟨laws.tickets, fun pr mem => (laws.pairings pr mem).ticket⟩ mem
  have leaves : ∀ x ∈ e.site, Leaves .normal s pr x := fun x mx => by
    rw [wetted] at mx
    exact Option.some.inj mx ▸ laws.leaves_wetted mem
  have left : e.site ≠ none := by rw [wetted]; exact fun e => nomatch e
  have ended := ended_endAndPass laws mem out leaves left
  have after := laws.endAndPass named out leaves fun none => absurd none left
  obtain ⟨_, _, _, _, site⟩ := laws.site_of_pairing mem
  have work := sameWork_endPairing pr e s
  rw [wetted, releaseSite_of_wetted] at work
  have changed := only_changeSite pr.lane pr.arrival pr.site (.wetted (pr.wetTime s)) s
  have gates : (endPairing pr e s).gates = s.gates := work.gates.trans (changed.gates_eq (by simp))
  have waits : waitPorts (endPairing pr e s) = waitPorts s := by
    rw [waitPorts, (only_ending pr e s).waitList_eq (by simp [endingParts])]
    rfl
  have passed := only_arbiterPasses (endSignals pr e s) (endPairing pr e s)
  refine ⟨only_strike ended.only ((passed.gates_eq (by simp [passParts])).trans gates), ?_, ?_, ?_⟩
  · exact kept_trans (kept_of_ports_eq (work.ports.trans (changed.ports_eq (by simp))) _)
      (kept_arbiterPasses _ _ (by simp [waits]))
  · refine siteWetAgain_of_wetSince after ended.gone (WetSince.arbiterPasses (.inl ?_) _)
    exact (site_eq_of_lanes work.lanes _ _ _).trans (site_changeSite_self site _)
  · rw [endAndPass, (arbiterPasses_stand _ _).2.wet, lane_eq_of_lanes work.lanes, changeSite_of_some site,
      State.lane_setLane_self]
    exact recount_self _ true

/-! ## A site that settles (R30, R33, R60) -/

/-- What an end leaves whose site settles: the site, the held DOT re-examined, and the settlement announced. -/
structure EndedSettled (pr : Pairing) (x : Site) (s t : State) : Prop where
  ports : PortsKept (waitPorts s ++ dotPorts s) s t
  site : t.site pr.lane pr.arrival pr.site = some x
  dot : DotReexamined pr.lane s t
  announced : SettlementAnnounced pr.lane pr.arrival s t

/-- R76, R92: passes leave every site that is not WETTED. -/
theorem site_arbiterPasses {a : BitVec 32} {i : Nat} (at_ : s.site l a i = some x) (other : ∀ w, x ≠ .wetted w) (n : Nat) :
    (arbiterPasses n s).site l a i = some x := by
  refine arbiterPasses_induct (I := fun u => u.site l a i = some x) (fun p _ f k u _ h => ?_) (fun _ _ _ h => h) n at_
  rw [site_eq_of_lanes (lanes_grantPair p f k u)]
  unfold pairSite
  split
  · rename_i w wet
    exact site_changeSite_of_ne wet h (other w) _
  · exact h

theorem Laws.dotWaiters {m : Mode} (laws : Laws m s) : DotWaiterLaw s := fun l _ w mw =>
  have ok := (laws.gates l).waiter w mw
  ⟨ok.role, ok.link⟩

/-- A port whose DOT is held has no PAIR on the wait list. -/
theorem Laws.not_mem_waitPorts {m : Mode} (laws : Laws m s) {w : DotWaiter} (mw : w ∈ (s.gate l).waiter) :
    w.port ∉ waitPorts s := by
  intro waits
  obtain ⟨x, mx, port⟩ := List.mem_map.1 waits
  have pair := (laws.entries x mx).link
  rw [port, ((laws.gates l).waiter w mw).link] at pair
  cases pair

/-- R30: the end of a pairing whose site settles: the held DOT re-examined and the settlement announced, before the passes. -/
theorem settled_endPairing (laws : Laws .normal s) (mem : pr ∈ s.pairings) (site : e.site = some x)
    (settled : x.settled = true) : PortsKept (dotPorts s) s (endPairing pr e s) ∧
      (endPairing pr e s).site pr.lane pr.arrival pr.site = some x ∧ DotReexamined pr.lane s (endPairing pr e s) ∧
      SettlementAnnounced pr.lane pr.arrival s (endPairing pr e s) := by
  obtain ⟨st, mst, arrival, at_, _⟩ := laws.site_of_pairing mem
  have settling : Settling s pr.lane st pr.site (.paired (pr.wetTime s) pr.ticket) x :=
    ⟨laws.lanes pr.lane, mst, at_, rfl, settled⟩
  have same : SameWork (changeSite pr.lane st.arrival pr.site x s) (changeSite pr.lane st.arrival pr.site x s) :=
    ⟨rfl, rfl, rfl, rfl, rfl⟩
  have work := sameWork_endPairing pr e s
  rw [site, releaseSite_of_settled settled, ← arrival] at work
  have die := only_releaseDie pr e.die s
  have released := (sameWork_of_only die (by simp)).changeSite pr.lane st.arrival pr.site x
  have changed := only_changeSite pr.lane st.arrival pr.site x (releaseDie pr e.die s)
  have stands : QueueStands (handOnSettled pr.lane st.arrival (changeSite pr.lane st.arrival pr.site x (releaseDie pr e.die s)))
      (endPairing pr e s) :=
    .of_lanes (work.lanes.trans (released.handOnSettled pr.lane st.arrival).lanes.symm)
  refine ⟨kept_trans (kept_of_changed same) (kept_of_ports_eq work.ports _), ?_, ?_, ?_⟩
  · rw [← arrival, site_eq_of_lanes work.lanes]
    exact settling.site_handOnSettled same
  · exact dotReexamined_later (settling.dotReexamined laws.dotWaiters same) (.of_lanes work.lanes) work.gates
      fun w _ => by rw [work.ports]
  · have announced := settling.announced laws.roles released ((changed.roles_eq (by simp)).trans (die.roles_eq (by simp)))
      fun q role => (notice_congr (changed.notices_eq (by simp)) q).trans
        ((aside_of_role laws.roles (.inr role)).releaseDie pr e.die).1
    rw [← arrival]
    refine settlementAnnounced_later announced stands fun q role => ?_
    have other : q ≠ pr.port := fun here => by
      rw [here, (laws.pairings pr mem).head] at role
      cases role
    rw [notice_endPairing_of_released (aside_of_role laws.roles (.inr role)), if_neg fun c => other c.2, site,
      releaseSite_of_settled settled, arrival]

theorem endedSettled_endAndPass (laws : Laws .normal s) (mem : pr ∈ s.pairings) (site : e.site = some x)
    (settled : x.settled = true) : EndedSettled pr x s (endAndPass pr e s) := by
  obtain ⟨ports, at_, dot, announced⟩ := settled_endPairing laws mem site settled
  have waits : waitPorts (endPairing pr e s) = waitPorts s := by
    rw [waitPorts, (only_ending pr e s).waitList_eq (by simp [endingParts])]
    rfl
  have passed : PortsKept (waitPorts s) (endPairing pr e s) (endAndPass pr e s) := kept_arbiterPasses _ _ (by simp [waits])
  have roles := (only_endPairing pr e s).roles_eq (by simp [endParts, passParts])
  refine ⟨kept_trans (kept_mono ports (by simp +contextual)) (kept_mono passed (by simp +contextual)), ?_, ?_, ?_⟩
  · refine site_arbiterPasses at_ (fun w => ?_) _
    rintro rfl
    cases settled
  · exact dotReexamined_later dot (arbiterPasses_stand _ _).2 ((only_arbiterPasses _ _).gates_eq (by simp [passParts]))
      fun w mw => passed w.port (laws.not_mem_waitPorts mw)
  · exact settlementAnnounced_later announced (arbiterPasses_stand _ _).1 fun q role =>
      (((aside_of_role laws.roles (.inr role)).of_roles roles).arbiterPasses _).1

end Sys2Proof.Proofs
end

section
/-! PROOFS. Ends that no report asks for: the withdrawal of a PAIR grant that is closed early, and the expiry of a lease (R93, R101,
R156, R157). -/

namespace Sys2Proof.Proofs

open Sys2Proof Sys2Proof.Machine Sys2Proof.Safety

variable {s : State} {pr : Pairing} {p : Port} {tk : Ticket} {g : Reading}

/-! ## The withdrawal of a PAIR grant (R93) -/

theorem markedPairing_of_named (named : s.pairing tk = some pr) (port : pr.port = p) (grant : pr.grantTime = g)
    (phase : pr.phase = .claimed) : markedPairing s tk p g = some pr := by
  simp [markedPairing, named, port, grant, phase]

/-- R93: the mark names its pairing while that one is in flight, in CLAIMED and of the same grant. -/
theorem withdrawPair_of_other
    (other : ∀ pr ∈ s.pairings, pr.ticket = tk → pr.port = p → pr.grantTime = g → pr.phase ≠ .claimed) :
    withdrawPair tk p g s = s := by
  have none : markedPairing s tk p g = none := by
    rw [markedPairing]
    cases named : s.pairing tk with
    | none => rfl
    | some pr =>
      refine if_neg fun same => ?_
      simp only [Bool.and_eq_true, decide_eq_true_eq, beq_iff_eq] at same
      obtain ⟨⟨port, grant⟩, phase⟩ := same
      exact other pr (mem_of_pairing named) (pairing_split named).1 port grant phase
  rw [withdrawPair, none]

/-- The laws while a port that waits for nothing has closed. -/
theorem laws_of_closed (law : DeviceInv s) (live : s.resetAsserted = false) (pair : s.link p ≠ .holding .pair)
    (dot : s.link p ≠ .holding .dot) : Laws .normal (s.setPort p { selLow := false, link := .idle }) := by
  have laws := laws_of_device law
  exact laws.setPort (by rw [live]; exact portOk_closed) (.inr (laws.free_of_link pair dot))

/-- R93: what the withdrawal leaves. -/
theorem withdrawn_of_named {m : State} (laws : Laws .normal m) (mem : pr ∈ m.pairings) (phase : pr.phase = .claimed) :
    withdraw (some (.pair pr.ticket pr.port pr.grantTime)) m = endAndPass pr (withdrawalEnd pr m) m ∧
      Ended pr (withdrawalEnd pr m) m (endAndPass pr (withdrawalEnd pr m) m) ∧
      EndedWet pr m (endAndPass pr (withdrawalEnd pr m) m) := by
  have named := pairing_of_mem ⟨laws.tickets, fun pr mem => (laws.pairings pr mem).ticket⟩ mem
  have out : ¬ InFlight (withdrawalEnd pr m).die.state := out_to (by simp [InFlight])
  refine ⟨?_, ?_, endedWet_endAndPass laws mem out rfl⟩
  · show withdrawPair _ _ _ _ = _
    rw [withdrawPair, markedPairing_of_named named rfl rfl phase]
  · refine ended_endAndPass laws mem out (fun x mx => ?_) (fun e => nomatch e)
    exact Option.some.inj mx ▸ laws.leaves_wetted mem

/-- Settles O12: the rise of SEL closes the port; the pairing that the mark still names ends WITHDRAWN, and any other stands. -/
theorem pairGrantWithdrawn : Obligations.PairGrantWithdrawn := by
  unfold Obligations.PairGrantWithdrawn
  intro p k r n tk g s law live cut
  have risen := exec_selRise_of_grant law.link.links live cut
  have closed := only_setPort s p { selLow := false, link := .idle }
  have kept : PortsKept [p] s (s.setPort p { selLow := false, link := .idle }) := fun q other =>
    State.ports_setPort_of_ne s _ (by simpa using other)
  have port := State.ports_setPort_self s p { selLow := false, link := .idle }
  refine ⟨?_, fun other => ?_⟩
  · rintro pr mem rfl rfl rfl phase
    have held : ∀ kind, s.link pr.port ≠ .holding kind := fun kind => by
      rcases cut with ⟨link, _⟩ | link <;> rw [link] <;> exact fun e => nomatch e
    have laws := laws_of_closed law live (held .pair) (held .dot)
    obtain ⟨withdrawn, ended, wet⟩ := withdrawn_of_named laws mem phase
    have quiet : pr.port ∉ waitPorts s := fun waits => by
      obtain ⟨e, me, same⟩ := List.mem_map.1 waits
      exact held .pair (same ▸ (law.link.waitList.2.2 e me).2)
    have head : Aside s pr.port := aside_of_role law.roles (.inl ((laws_of_device law).pairings pr mem).head)
    refine ⟨_, risen.trans (congrArg _ withdrawn), (closed.mono (by simp [endParts, passParts])).trans ended.only,
      kept_trans (kept_mono kept (by simp)) (kept_mono wet.ports fun q m => List.mem_cons_of_mem _ m),
      (wet.ports _ quiet).trans port, ended.gone, ended.ring, ended.unrecorded (.inl rfl), ended.die, wet.site,
      wet.only.gates_eq (by simp [passParts]), ?_⟩
    exact (ended.notices _ head (.inr fun x mx => by cases mx; rfl)).trans (if_neg fun c => nomatch c.1)
  · exact ⟨_, risen.trans (congrArg _ (withdrawPair_of_other other)), closed, kept, port⟩

/-! ## The expiry of a lease (R101) -/

theorem exec_leaseExpiry (live : s.resetAsserted = false) : exec (.leaseExpiry tk) s = .next (expireLease tk s) := by
  show whenLive (expireLease tk) s = _
  rw [whenLive, live]
  rfl

theorem expireLease_of_none (none : s.pairing tk = none) : expireLease tk s = s := by rw [expireLease, none]

theorem expireLease_of_named (named : s.pairing tk = some pr) : expireLease tk s =
    if pr.leaseLength ≤ elapsed pr.leaseStart s.clock then endAndPass pr (expiryEnd pr s) s else s := by
  simp only [expireLease, named, due, decide_eq_true_eq]

/-- R101: what the expiry of a lease makes of its pairing in CLAIMED. -/
def claimExpiry (pr : Pairing) (s : State) : PairEnd :=
  { outcome := .expired, die := (pr.dieRecord s).to .suspect, site := some (.wetted (pr.wetTime s)), record := none,
    announce := true }

/-- R101: what the expiry of a lease makes of its pairing in PICKED. -/
def pickExpiry (pr : Pairing) (s : State) : PairEnd :=
  { outcome := .expired, die := (pr.dieRecord s).to .lost, site := some (.suspect (pr.wetTime s)),
    record := some (.loss .expired), announce := true }

theorem expiryEnd_of_claimed (phase : pr.phase = .claimed) (s : State) : expiryEnd pr s = claimExpiry pr s := by
  simp only [expiryEnd, phase, claimExpiry]

theorem expiryEnd_of_picked (phase : pr.phase = .picked g) (s : State) : expiryEnd pr s = pickExpiry pr s := by
  simp only [expiryEnd, phase, pickExpiry]

theorem ended_claimExpiry (laws : Laws .normal s) (mem : pr ∈ s.pairings) :
    Ended pr (claimExpiry pr s) s (endAndPass pr (claimExpiry pr s) s) ∧
      EndedWet pr s (endAndPass pr (claimExpiry pr s) s) := by
  have out : ¬ InFlight (claimExpiry pr s).die.state := out_to (by simp [InFlight])
  refine ⟨ended_endAndPass laws mem out (fun x mx => ?_) (fun e => nomatch e), endedWet_endAndPass laws mem out rfl⟩
  exact Option.some.inj mx ▸ laws.leaves_wetted mem

theorem ended_pickExpiry (laws : Laws .normal s) (mem : pr ∈ s.pairings) :
    Ended pr (pickExpiry pr s) s (endAndPass pr (pickExpiry pr s) s) ∧
      EndedSettled pr (.suspect (pr.wetTime s)) s (endAndPass pr (pickExpiry pr s) s) := by
  have out : ¬ InFlight (pickExpiry pr s).die.state := out_to (by simp [InFlight])
  refine ⟨ended_endAndPass laws mem out (fun x mx => ?_) (fun e => nomatch e), endedSettled_endAndPass laws mem rfl rfl⟩
  exact Option.some.inj mx ▸ leaves_suspect _ _ _ _

/-- Settles O42: a lease that is not due is no event; one that is due ends its pairing by its phase. -/
theorem leaseExpires : Obligations.LeaseExpires := by
  unfold Obligations.LeaseExpires
  intro tk s law live
  have runs := exec_leaseExpiry (tk := tk) live
  refine ⟨fun none => runs.trans (congrArg _ (expireLease_of_none (pairing_eq_none_iff.2 none))), ?_⟩
  rintro pr mem rfl
  have laws := laws_of_device law
  have expires := expireLease_of_named (pairing_of_mem law.tickets mem)
  refine ⟨fun early => runs.trans (congrArg _ (expires.trans (if_neg (Nat.not_le.2 early)))), fun due => ?_⟩
  rw [runs, expires, if_pos due]
  have role := (laws.pairings pr mem).head
  have head : Aside s pr.port := aside_of_role law.roles (.inl role)
  have notIndexer : s.role pr.port ≠ .indexer := by
    rw [role]
    exact fun e => nomatch e
  cases phase : pr.phase with
  | claimed =>
    rw [expiryEnd_of_claimed phase]
    obtain ⟨ended, wet⟩ := ended_claimExpiry laws mem
    have quiet : ∀ x ∈ (claimExpiry pr s).site, x.settled = false := fun x mx => Option.some.inj mx ▸ rfl
    refine ⟨_, rfl, ended.only, blocked_of_stuck ended.blocked, kept_mono wet.ports fun q m => List.mem_append_left _ m,
      ended.gone, ended.others, ended.ring, (ended.notices _ head (.inl notIndexer)).trans (if_pos ⟨rfl, rfl⟩),
      fun _ => ⟨ended.die, wet.site, ended.unrecorded (.inl rfl), wet.only.gates_eq (by simp [passParts]), wet.wet,
        fun q indexer => ?_⟩, fun q zero other notWafer notIndexer => ?_, fun _ e => nomatch e⟩
    · refine (ended.notices q (aside_of_role law.roles (.inr indexer)) (.inr quiet)).trans (if_neg fun c => notIndexer ?_)
      exact c.2 ▸ indexer
    · exact (ended.notices q ⟨zero, notWafer⟩ (.inl notIndexer)).trans (if_neg fun c => other c.2)
  | picked g =>
    rw [expiryEnd_of_picked phase]
    obtain ⟨ended, settled⟩ := ended_pickExpiry laws mem
    refine ⟨_, rfl, ended.only, blocked_of_stuck ended.blocked, settled.ports, ended.gone,
      ended.others, ended.ring, (ended.notices _ head (.inl notIndexer)).trans (if_pos ⟨rfl, rfl⟩), (fun e => nomatch e),
      fun q zero other notWafer notIndexer => ?_, fun k e => ?_⟩
    · exact (ended.notices q ⟨zero, notWafer⟩ (.inl notIndexer)).trans (if_neg fun c => other c.2)
    · cases e
      exact ⟨ended.die, settled.site, ended.recorded _ _ rfl phase, settled.dot, settled.announced⟩

end Sys2Proof.Proofs
end

section
/-! PROOFS. The reports that end their pairing: BONDED, PICK_FAIL and DISCARD (R97 to R100). -/

namespace Sys2Proof.Proofs

open Sys2Proof Sys2Proof.Machine Sys2Proof.Safety

variable {k : Kind} {s v : State} {pr : Pairing} {e : PairEnd} {p : Port} {body : List Octet} {r : Response} {x : Site}
  {l : Lane} {o : PairOutcome}

/-! ## What an end leaves once its request is answered -/

/-- R154: an answer moves the ports alone. -/
theorem reply_eq (p : Port) (r : Response) (s : State) : ∃ ports, reply p r s = { s with ports := ports } := by
  unfold reply handOver
  split <;> exact ⟨_, rfl⟩

/-- The end that a request makes, its request in hand before and answered after. -/
theorem Ended.answered (h : Ended pr e (s.setLink p (.holding k)) v) (r : Response) : Ended pr e s (reply p r v) := by
  obtain ⟨ports, eq⟩ := reply_eq p r v
  have only := only_reply_after (((only_setLink s p (.holding k)).mono (by simp [endParts, passParts])).trans h.only)
    (by simp [endParts, passParts]) p r
  have blocked := stuck_of_only (only_reply p r v) (by simp) h.blocked
  rw [eq] at only blocked ⊢
  exact ⟨only, blocked, h.gone, h.others, h.ring, h.die, h.reserved, h.unrecorded, h.recorded, h.notices⟩

/-- R28: what a report leaves that returns its site to WETTED, whatever becomes of the die. -/
def WetEnd (p : Port) (pr : Pairing) (o : PairOutcome) (s t : State) : Prop :=
  PortsKept (p :: waitPorts s) s t ∧ OnlyChanges (.ring :: passParts) s t ∧ Blocked t ∧
    t.pairing pr.ticket = none ∧ (∀ q ∈ s.pairings, q.ticket ≠ pr.ticket → q ∈ t.pairings) ∧
    RingGains { ticket := pr.ticket, port := p, outcome := o } s t ∧ SiteWetAgain pr s t ∧
    (t.lane pr.lane).wetAhead = (s.lane pr.lane).wetAhead ∧ t.trace.reservations = t.pairings.length ∧
    ∀ q : Port, q ≠ 0 → s.role q ≠ .wafer → t.notice q = s.notice q

/-- R99, R100: a report that ends its pairing and returns its site to WETTED. -/
theorem wetEnd_answered (law : DeviceInv s) (taken : Taken k p body s) (mem : pr ∈ s.pairings) (port : pr.port = p)
    (out : ¬ InFlight e.die.state) (wetted : e.site = some (.wetted (pr.wetTime s))) (quiet : e.announce = false)
    (r : Response) :
    let t := reply p r (endAndPass pr e (s.setLink p (.holding k)))
    AnsweredAt p k r none s t ∧ WetEnd p pr e.outcome s t ∧ Ended pr e s t := by
  intro t
  subst port
  have laws := laws_of_taken law taken
  have leaves : ∀ x ∈ e.site, Leaves .normal (s.setLink pr.port (.holding k)) pr x := fun x mx => by
    rw [wetted] at mx
    exact Option.some.inj mx ▸ laws.leaves_wetted mem
  have ended := (ended_endAndPass laws mem out leaves (by rw [wetted]; exact fun e => nomatch e)).answered r
  have wet := endedWet_endAndPass laws mem out wetted
  obtain ⟨answered, ports, only⟩ := answered_after_passes (r := r) (not_mem_waitPorts_of_taken law.link taken) wet.ports
    wet.only (by simp [passParts])
  obtain ⟨moved, eq⟩ := reply_eq pr.port r (endAndPass pr e (s.setLink pr.port (.holding k)))
  have site : SiteWetAgain pr s t := by
    rw [show t = _ from eq]
    exact wet.site
  have count : (t.lane pr.lane).wetAhead = (s.lane pr.lane).wetAhead := by
    rw [show t = _ from eq]
    exact wet.wet
  refine ⟨answered, ⟨ports, only, blocked_of_stuck ended.blocked, ended.gone, ended.others, ended.ring, site, count,
    ended.reserved, fun q zero notWafer => ?_⟩, ended⟩
  have still : ∀ x ∈ e.site, x.settled = false := fun x mx => by
    rw [wetted] at mx
    exact Option.some.inj mx ▸ rfl
  refine (ended.notices q ⟨zero, notWafer⟩ (.inr still)).trans (if_neg fun c => ?_)
  rw [quiet] at c
  exact nomatch c.1

/-- A port that does not wait with a DOT may take a request: a re-examination of held DOTs is the same to the others. -/
theorem dotReexamined_of_setLink {y : Link} (free : p ∉ dotPorts s) (h : DotReexamined l (s.setLink p y) v) :
    DotReexamined l s v := by
  obtain ⟨unheld, served⟩ := h
  refine ⟨unheld, fun w mw => ?_⟩
  have same : (s.setLink p y).ports[w.port] = s.ports[w.port] :=
    State.ports_setLink_of_ne s _ fun e => free (e ▸ mem_dotPorts.2 ⟨l, w, mw, rfl⟩)
  have h := served w mw
  simp only [AnsweredAt, same] at h ⊢
  exact h

/-- R30: what an end of a settled site leaves, its request in hand before and answered after. -/
theorem EndedSettled.answered (h : EndedSettled pr x (s.setLink p (.holding k)) v) (waits : p ∉ waitPorts s)
    (holds : p ∉ dotPorts s) (r : Response) : AnsweredAt p k r none s (reply p r v) ∧
      PortsKept (p :: waitPorts s ++ dotPorts s) s (reply p r v) ∧
      (reply p r v).site pr.lane pr.arrival pr.site = some x ∧ DotReexamined pr.lane s (reply p r v) ∧
      SettlementAnnounced pr.lane pr.arrival s (reply p r v) := by
  have free : p ∉ waitPorts s ++ dotPorts s := fun m => (List.mem_append.1 m).elim waits holds
  obtain ⟨answered, ports⟩ := answered_after_moves (r := r) free h.ports
  have lanes := (only_reply p r v).lanes_eq (by simp)
  refine ⟨answered, ports, (site_eq_of_lanes lanes _ _ _).trans h.site, ?_, ?_⟩
  · refine dotReexamined_later (dotReexamined_of_setLink holds h.dot) (.of_lanes lanes)
      ((only_reply p r v).gates_eq (by simp)) fun w mw => ?_
    refine kept_handOver p r none v w.port ?_
    exact fun here => holds (List.mem_singleton.1 here ▸ mem_dotPorts.2 ⟨pr.lane, w, mw, rfl⟩)
  · exact settlementAnnounced_later h.announced (.of_lanes lanes) fun q _ =>
      notice_congr ((only_reply p r v).notices_eq (by simp)) q

/-! ## BONDED (R97, R98) -/

/-- R95: the ticket check passed, and the pairing in PICKED. -/
theorem serveBonded_of_picked {g : Reading} (law : TicketLaw s) (mem : pr ∈ s.pairings) (ticket : pr.ticket = u8 body 0)
    (port : pr.port = p) (phase : pr.phase = .picked g) : serveBonded p body s =
      reply p (okResp (bondedBody pr (u16 body 1) (u16 body 3) s))
        (endAndPass pr (bondEnd pr (u16 body 1) (u16 body 3) s) s) := by
  rw [serveBonded, ← ticket, withTicket_of_mine law mem port, phase]

theorem bondSite_settled (pr : Pairing) (dx dy : Half) (s : State) : (bondSite pr dx dy s).settled = true := by
  unfold bondSite
  split
  · rfl
  · split <;> rfl

theorem code_bondSite (pr : Pairing) (dx dy : Half) (s : State) :
    (bondSite pr dx dy s).code = if bondLate pr s then 5 else if bondMisplaced pr dx dy s then 6 else 4 := by
  unfold bondSite
  split
  · rfl
  · split <;> rfl

/-- Settles O34: BONDED decides the site by age and offsets, and the settled site is handed on by the common end. -/
theorem bondedReport : Obligations.BondedReport := by
  unfold Obligations.BondedReport
  intro p body s law taken pr mem ticket port g phase dx dy age late off fields
  subst port
  have laws := laws_of_taken law taken
  have isOff : bondMisplaced pr dx dy s = off := (Bool.decide_or _ _).symm
  have isLate : bondLate pr s = late := rfl
  have answer : bondedBody pr dx dy (s.setLink pr.port (.holding .bonded)) =
      pr.ticket :: (be32 age ++ [if late then 5 else if off then 6 else 4]) := by
    show _ :: (be32 age ++ [(bondSite pr dx dy s).code]) = _
    rw [code_bondSite, isOff, isLate]
  have served := serveBonded_of_picked (s := s.setLink pr.port (.holding .bonded)) law.tickets mem ticket rfl phase
  rw [answer] at served
  have ended := (ended_endAndPass (e := bondEnd pr dx dy s) laws mem (out_to (by simp [InFlight]))
    (fun x mx => Option.some.inj mx ▸ laws.leaves_bond mem dx dy) (fun e => nomatch e)).answered
      (okResp (pr.ticket :: (be32 age ++ [if late then 5 else if off then 6 else 4])))
  obtain ⟨answered, ports, site, dot, announced⟩ := (endedSettled_endAndPass (e := bondEnd pr dx dy s) laws mem rfl
    (bondSite_settled pr dx dy s)).answered (not_mem_waitPorts_of_taken law.link taken)
      (not_mem_dotPorts_of_taken law.link taken) (okResp (pr.ticket :: (be32 age ++ [if late then 5 else if off then 6 else 4])))
  have recorded := ended.recorded _ _ rfl phase
  have ring := ended.ring
  rw [bondSite, isOff, isLate] at site
  rw [isOff, isLate] at recorded
  rw [show (bondEnd pr dx dy s).outcome = bondOutcome pr dx dy s from rfl, bondOutcome, isOff, isLate] at ring
  refine ⟨_, exec_of_served taken served, answered, ports, ended.only, blocked_of_stuck ended.blocked, ended.gone, ended.others,
    ring, recorded, ended.die, site, dot, announced, fun q zero notWafer notIndexer => ?_⟩
  exact (ended.notices q ⟨zero, notWafer⟩ (.inl notIndexer)).trans (if_neg fun c => nomatch c.1)

/-! ## PICK_FAIL and DISCARD (R99, R100) -/

theorem servePickFail_of_claimed {reason : PickReason} (law : TicketLaw s) (mem : pr ∈ s.pairings)
    (ticket : pr.ticket = u8 body 0) (port : pr.port = p) (code : reasonOfCode (u8 body 1) = some reason)
    (phase : pr.phase = .claimed) : servePickFail p body s =
      reply p (okResp [(failedDie reason (pr.dieRecord s)).state.code, oct (failedDie reason (pr.dieRecord s)).retry])
        (endAndPass pr (failEnd pr reason s) s) := by
  rw [servePickFail, ← ticket, withTicket_of_mine law mem port, code, phase]

theorem serveDiscard_of_picked {g : Reading} (law : TicketLaw s) (mem : pr ∈ s.pairings) (ticket : pr.ticket = u8 body 0)
    (port : pr.port = p) (phase : pr.phase = .picked g) : serveDiscard p body s =
      reply p (okResp [pr.ticket]) (endAndPass pr (discardEnd pr s) s) := by
  rw [serveDiscard, ← ticket, withTicket_of_mine law mem port, phase]

/-- Table 6-3: the die record of a pick failure by the code of its reason. -/
theorem failedDie_of_code {c : Octet} {reason : PickReason} (code : reasonOfCode c = some reason) (r : DieRecord) :
    failedDie reason r =
      if c = 1 then { r with state := .failed }
      else if c = 2 then { r with state := .absent }
      else if r.retry < 2 then { r with state := .available, retry := r.retry + 1 }
      else { r with state := .suspect } := by
  unfold reasonOfCode at code
  split at code
  next one =>
    cases code
    rw [if_pos one, failedDie, DieRecord.to]
  next one =>
  split at code
  next two =>
    cases code
    rw [if_neg one, if_pos two, failedDie, DieRecord.to]
  next two =>
  split at code
  next =>
    cases code
    rw [if_neg one, if_neg two, failedDie, DieRecord.to]
  next => cases code

/-- Settles O35: a bad reason is refused by the field check; the other two reports end their pairing with the site WETTED. -/
theorem failedAndDiscardedPicks : Obligations.FailedAndDiscardedPicks := by
  unfold Obligations.FailedAndDiscardedPicks
  intro p body s law pr mem ticket port common
  refine ⟨fun taken bad => ?_, fun taken phase low high => ?_, fun taken g phase => ?_⟩
  · obtain ⟨f, checked, served⟩ := serve_of_report (k := .pickFail) (by simp) p body
    refine ⟨_, exec_of_served taken ((served _).trans ?_), answersWith_reply_held _⟩
    rw [← ticket, withTicket_of_mine (s := s.setLink p (.holding .pickFail)) law.tickets mem port]
    exact checked.range (fun range => bad (range rfl)) pr _
  · intro old die
    have named : reasonOfCode (u8 body 1) ≠ none := fun none => (reasonOfCode_eq_none_iff _).1 none ⟨low, high⟩
    obtain ⟨reason, code⟩ := Option.ne_none_iff_exists'.1 named
    have served := servePickFail_of_claimed (s := s.setLink p (.holding .pickFail)) law.tickets mem ticket port code phase
    have failed : failedDie reason (pr.dieRecord s) = die := failedDie_of_code code _
    obtain ⟨answered, wet, ended⟩ := wetEnd_answered (e := failEnd pr reason s) law taken mem port (failedDie_out reason _)
      rfl rfl (okResp [die.state.code, oct die.retry])
    have left := ended.die
    rw [show (failEnd pr reason s).die = die from failed] at left
    refine ⟨_, exec_of_served taken (served.trans ?_), answered, wet, ended.unrecorded (.inl rfl), left⟩
    rw [← failed]
    rfl
  · have served := serveDiscard_of_picked (s := s.setLink p (.holding .discard)) law.tickets mem ticket port phase
    obtain ⟨answered, wet, ended⟩ := wetEnd_answered (e := discardEnd pr s) law taken mem port (out_to (by simp [InFlight]))
      rfl rfl (okResp [pr.ticket])
    exact ⟨_, exec_of_served taken served, answered, wet, ended.recorded _ _ rfl phase, ended.die⟩

end Sys2Proof.Proofs
end

section
/-! PROOFS. The revocations of a departing strip as ends of a list of pairings, one after the other, and what they leave of the
pairings, the ring, the trace, the die and the notices of their heads (R36, R91, R102, R119, R142). -/

namespace Sys2Proof.Proofs

open Sys2Proof Sys2Proof.Machine Sys2Proof.Safety

variable {m : Mode} {s u : State} {pr : Pairing} {prs : List Pairing} {l : Lane} {st : Strip} {q : Port}

/-! ## One revocation (R102) -/

/-- R102: what a revocation leaves of its die. -/
def revokedDie (pr : Pairing) (r : DieRecord) : DieRecord := r.to (if pr.isPicked = true then .lost else .available)

/-- R102: the end of a revoked pairing, its phase told by whether it is picked. -/
theorem revocationEnd_eq (pr : Pairing) (s : State) : revocationEnd pr s =
    { outcome := .revoked, die := revokedDie pr (pr.dieRecord s), site := none
      record := if pr.isPicked = true then some (.loss .revoked) else none, announce := true } := by
  unfold revocationEnd
  split <;> rename_i phase
  · simp only [revokedDie, isPicked_of_claimed phase, Bool.false_eq_true, if_false]
  · simp only [revokedDie, isPicked_of_picked phase, if_true]

/-- R102: pairings are revoked in the order of a list. -/
def revokePairings : List Pairing → State → State
  | [], s => s
  | pr :: prs, s => revokePairings prs (endPairing pr (revocationEnd pr s) s)

theorem roles_revokePairings (prs : List Pairing) (s : State) : (revokePairings prs s).roles = s.roles := by
  induction prs generalizing s with
  | nil => rfl
  | cons pr prs ih => exact (ih _).trans ((only_endPairing _ _ s).roles_eq (by simp [endParts, passParts]))

/-- The pairings of a list are in flight, and the laws that are open while they are revoked are those of their sites. -/
structure Revocable (m : Mode) (prs : List Pairing) (s : State) : Prop where
  laws : Laws m s
  mem : ∀ pr ∈ prs, pr ∈ s.pairings
  distinct : prs.Nodup
  loose : ∀ pr ∈ prs, m.loose pr.lane pr.arrival pr.site

theorem Laws.ticketLaw (laws : Laws m s) : TicketLaw s := ⟨laws.tickets, fun pr mem => (laws.pairings pr mem).ticket⟩

/-- R94: an end leaves every other pairing in flight. -/
theorem Laws.mem_endPairing (laws : Laws m s) {x : Pairing} (mem : pr ∈ s.pairings) (mx : x ∈ s.pairings) (other : x ≠ pr)
    (e : PairEnd) : x ∈ (Machine.endPairing pr e s).pairings := by
  rw [pairings_endPairing]
  refine (List.mem_eraseP_of_neg ?_).2 mx
  simpa using fun same => other (List.inj_on_of_nodup_map (List.nodup_append.1 laws.tickets).1 mx mem same)

theorem Revocable.next (h : Revocable m (pr :: prs) s) : Revocable m prs (endPairing pr (revocationEnd pr s) s) := by
  obtain ⟨laws, mem, distinct, loose⟩ := h
  obtain ⟨apart, rest⟩ := List.nodup_cons.1 distinct
  have here := mem pr List.mem_cons_self
  refine ⟨laws.revoked (pairing_of_mem laws.ticketLaw here) (loose pr List.mem_cons_self), fun x mx => ?_, rest,
    fun x mx => loose x (List.mem_cons_of_mem _ mx)⟩
  exact laws.mem_endPairing here (mem x (List.mem_cons_of_mem _ mx)) (fun e => apart (e ▸ mx)) _

theorem revokePairings_of_revocable (h : Revocable m prs s) : Revocable m [] (revokePairings prs s) := by
  induction prs generalizing s with
  | nil => exact h
  | cons pr prs ih => exact ih h.next

/-! ## The revocations of a strip are such a list (R36) -/

/-- Two sites of a strip are PAIRED under different tickets (R28). -/
theorem pairedTickets_nodup (law : PairedSiteLaw s) (tickets : TicketLaw s) (mst : st ∈ (s.lane l).strips) :
    (st.sites.filterMap pairedUnder).Nodup := by
  refine List.pairwise_filterMap.2 (List.pairwise_iff_getElem.2 fun i j hi hj lt a ma b mb same => ?_)
  have named : ∀ (k : Nat) (hk : k < st.sites.length) (t : Ticket), pairedUnder st.sites[k] = some t →
      ∃ pr ∈ s.pairings, pr.ticket = t ∧ pr.site = k := fun k hk t mt => by
    obtain ⟨pr, mem, ticket, _, _, site⟩ := law.2 l (mem_bothLanes l) st mst (st.sites[k], k)
      (List.mem_zipIdx_iff_getElem?.2 (List.getElem?_eq_getElem hk)) t mt
    exact ⟨pr, mem, ticket, site⟩
  obtain ⟨x, mx, tx, sx⟩ := named i hi a ma
  obtain ⟨y, my, ty, sy⟩ := named j hj b mb
  have eq : x = y := List.inj_on_of_nodup_map (List.nodup_append.1 tickets.1).1 mx my (by rw [tx, ty, same])
  rw [eq, sy] at sx
  omega

/-- R94: an end leaves what every other ticket names. -/
theorem pairing_endPairing_of_ne {t : Ticket} (other : t ≠ pr.ticket) (e : PairEnd) (s : State) :
    (endPairing pr e s).pairing t = s.pairing t := by
  rw [State.pairing, pairings_endPairing, State.pairing]
  induction s.pairings with
  | nil => rfl
  | cons x xs ih =>
    by_cases here : x.ticket = pr.ticket
    · rw [List.eraseP_cons_of_pos (by simpa using here), List.find?_cons_of_neg (by simpa [here] using other.symm)]
    · rw [List.eraseP_cons_of_neg (by simpa using here)]
      by_cases named : x.ticket = t
      · rw [List.find?_cons_of_pos (by simpa using named), List.find?_cons_of_pos (by simpa using named)]
      · rw [List.find?_cons_of_neg (by simpa using named), List.find?_cons_of_neg (by simpa using named), ih]

theorem foldl_revokeSite_eq {sites : List Site} (acc : Nat × State) (distinct : (sites.filterMap pairedUnder).Nodup) :
    (sites.foldl (fun acc x => revokeSite x acc) acc).2 =
      revokePairings ((sites.filterMap pairedUnder).filterMap acc.2.pairing) acc.2 := by
  induction sites generalizing acc with
  | nil => rfl
  | cons x sites ih =>
    rw [List.foldl_cons]
    cases under : pairedUnder x with
    | none =>
      have unpaired : revokeSite x acc = acc := by
        unfold revokeSite
        split
        · cases under
        · rfl
      rw [List.filterMap_cons_none under] at distinct ⊢
      rw [unpaired, ih acc distinct]
    | some t =>
      rw [List.filterMap_cons_some under] at distinct ⊢
      obtain ⟨apart, rest⟩ := List.nodup_cons.1 distinct
      obtain ⟨w, rfl⟩ := pairedUnder_eq_some.1 under
      cases named : acc.2.pairing t with
      | none =>
        rw [List.filterMap_cons_none named, revokeSite]
        simp only [named]
        exact ih acc rest
      | some pr =>
        rw [List.filterMap_cons_some named, revokeSite]
        simp only [named]
        rw [ih _ rest, revokePairings]
        refine congrArg (revokePairings · _) (List.filterMap_congr fun t' mt' => ?_)
        exact pairing_endPairing_of_ne (fun e => apart ((e.trans (pairing_split named).1) ▸ mt')) _ _

/-- R36, R102: the revocations of a departing strip are those of the pairings that its sites name. -/
theorem revokeSites_eq (distinct : (st.sites.filterMap pairedUnder).Nodup) (s : State) : (revokeSites st.sites s).2 =
    revokePairings ((st.sites.filterMap pairedUnder).filterMap s.pairing) s := foldl_revokeSite_eq (0, s) distinct

/-- R28: the pairings that the sites of a strip name are in flight, on the strip. -/
theorem on_strip_of_revoked (law : PairedSiteLaw s) (tickets : TicketLaw s) (mst : st ∈ (s.lane l).strips)
    (mem : pr ∈ (st.sites.filterMap pairedUnder).filterMap s.pairing) :
    pr ∈ s.pairings ∧ pr.lane = l ∧ pr.arrival = st.arrival := by
  obtain ⟨t, mt, named⟩ := List.mem_filterMap.1 mem
  obtain ⟨x, mx, under⟩ := List.mem_filterMap.1 mt
  obtain ⟨i, at_⟩ := List.getElem?_of_mem mx
  obtain ⟨y, my, ticket, lane, arrival, _⟩ := law.2 l (mem_bothLanes l) st mst (x, i) (List.mem_zipIdx_iff_getElem?.2 at_) t under
  have same : pr = y := Option.some.inj (named.symm.trans (ticket ▸ pairing_of_mem tickets my))
  exact ⟨mem_of_pairing named, same ▸ lane, same ▸ arrival⟩

theorem revocable_of_strip (law : PairedSiteLaw s) (laws : Laws m s) (mst : st ∈ (s.lane l).strips) :
    Revocable (m.loosen (onStrip l st.arrival)) ((st.sites.filterMap pairedUnder).filterMap s.pairing) s := by
  have on := fun x mx => on_strip_of_revoked (pr := x) law laws.ticketLaw mst mx
  refine ⟨laws.loosen _, fun x mx => (on x mx).1, ?_, fun x mx => .inr (on x mx).2⟩
  refine (pairedTickets_nodup law laws.ticketLaw mst).filterMap fun a b x ma mb => ?_
  exact (pairing_split ma).1.symm.trans (pairing_split mb).1

/-! ## The pairings, the ring and the trace -/

/-- R102: pairings that are not revoked stay in flight. -/
theorem mem_revokePairings {x : Pairing} (h : Revocable m prs s) (mx : x ∈ s.pairings) (out : x ∉ prs) :
    x ∈ (revokePairings prs s).pairings := by
  induction prs generalizing s with
  | nil => exact mx
  | cons pr prs ih =>
    obtain ⟨ne, rest⟩ := not_or.1 (List.mem_cons.not.1 out)
    exact ih h.next (h.laws.mem_endPairing (h.mem pr List.mem_cons_self) mx ne _) rest

/-- R102: a revoked pairing is in flight no more. -/
theorem not_mem_of_revoked {x : Pairing} (h : Revocable m prs s) (mx : x ∈ (revokePairings prs s).pairings) :
    x ∈ s.pairings ∧ x ∉ prs := by
  induction prs generalizing s with
  | nil => exact ⟨mx, List.not_mem_nil⟩
  | cons pr prs ih =>
    obtain ⟨left, rest⟩ := ih h.next mx
    rw [pairings_endPairing] at left
    refine ⟨List.mem_of_mem_eraseP left, List.mem_cons.not.2 (not_or.2 ⟨?_, rest⟩)⟩
    rintro rfl
    obtain ⟨_, older, newer, split, _, erased⟩ := pairing_split (pairing_of_mem h.laws.ticketLaw (h.mem x List.mem_cons_self))
    have distinct := h.laws.tickets
    rw [split] at distinct
    rw [erased] at left
    exact (tickets_split distinct).1 (List.mem_append_left _ (List.mem_map_of_mem left))

/-- R91: the entries of the revoked pairings, as the ring takes them. -/
def revokedEntry (pr : Pairing) : RingEntry := { ticket := pr.ticket, port := pr.port, outcome := .revoked }

/-- R91: entry by entry, the ring keeps its newest 16. -/
theorem ring_revokePairings (law : s.ring.length ≤ Config.ringSize) (prs : List Pairing) : (revokePairings prs s).ring =
    (s.ring ++ prs.map revokedEntry).drop (s.ring.length + prs.length - Config.ringSize) := by
  induction prs generalizing s with
  | nil => simp [revokePairings, Nat.sub_eq_zero_of_le law]
  | cons pr prs ih =>
    have one : (endPairing pr (revocationEnd pr s) s).ring =
        (s.ring ++ [revokedEntry pr]).drop (s.ring.length + 1 - Config.ringSize) := by
      rw [ring_endPairing, revocationEnd_eq]
      exact ringAppend_eq_drop law _
    have size : (endPairing pr (revocationEnd pr s) s).ring.length =
        s.ring.length + 1 - (s.ring.length + 1 - Config.ringSize) := by simp [one]
    rw [revokePairings, ih (by omega), size, one, ← List.drop_append_of_le_length (by simp), List.drop_drop,
      List.append_assoc, List.map_cons, List.length_cons]
    congr 1
    omega

/-- The fields of a LOSS record by which the revocations are told apart. -/
def revokedLoss (now : Reading) (pr : Pairing) : Ticket × TraceKind × Nat × Reading :=
  (pr.ticket, .loss .revoked, pr.site, now)

/-- R102, R119: the revocations write the LOSS records of the pairings in PICKED, in order. -/
theorem records_revokePairings (prs : List Pairing) (s : State) :
    ∃ added, (revokePairings prs s).trace.records = s.trace.records ++ added ∧
      added.map (fun r => (r.ticket, r.kind, r.site, r.endTime)) = (prs.filter Pairing.isPicked).map (revokedLoss s.clock) := by
  induction prs generalizing s with
  | nil => exact ⟨[], (List.append_nil _).symm, rfl⟩
  | cons pr prs ih =>
    obtain ⟨added, records, fields⟩ := ih (endPairing pr (revocationEnd pr s) s)
    rw [(only_endPairing _ _ s).clock_eq (by simp [endParts, passParts])] at fields
    rw [revokePairings, records]
    cases phase : pr.phase with
    | claimed =>
      have kept := traceKept_endPairing (e := revocationEnd pr s) (.inr phase) s
      exact ⟨added, by rw [kept.1], by rw [List.filter_cons_of_neg (by simp [isPicked_of_claimed phase]), fields]⟩
    | picked g =>
      have record : (revocationEnd pr s).record = some (.loss .revoked) := by
        rw [revocationEnd_eq, isPicked_of_picked phase, if_pos rfl]
      refine ⟨endRecord pr (.loss .revoked) g s :: added, ?_, ?_⟩
      · rw [(traceGains_endPairing record phase s).1, List.append_assoc, List.singleton_append]
      · rw [List.filter_cons_of_pos (isPicked_of_picked phase), List.map_cons, List.map_cons, fields]
        rfl

/-! ## The notices of the heads (R142) -/

/-- R102, R142: the notice state of a head once its pairing is revoked. -/
def endRevoked (n : NoticeState) (pr : Pairing) : NoticeState :=
  n.raise 0 (.pairingEnded 1 [(pr.ticket, .revoked)])

theorem afterRaise_of_head (head : s.role q = .head) (n : Nat) (es : List (Ticket × PairOutcome)) :
    afterRaise (.pairingEnded n es) q s = (s.notice q).raise 0 (.pairingEnded n es) := by
  rw [afterRaise, head]
  rfl

/-- R102, R142: a head is told of its own revoked pairings, in order. -/
theorem notice_revokePairings (roles : RoleLaw s) (head : s.role q = .head) (prs : List Pairing) :
    (revokePairings prs s).notice q = (prs.filter (fun x => x.port == q)).foldl endRevoked (s.notice q) := by
  induction prs generalizing s with
  | nil => rfl
  | cons pr prs ih =>
    have same := (only_endPairing pr (revocationEnd pr s) s).roles_eq (by simp [endParts, passParts])
    have told : (endPairing pr (revocationEnd pr s) s).notice q =
        if pr.port = q then endRevoked (s.notice q) pr else s.notice q := by
      rw [notice_endPairing (aside_of_role roles (.inl head)) (by rw [site_revocationEnd]; exact ⟨rfl, rfl⟩), revocationEnd_eq,
        afterRaise_of_head head]
      exact if_congr ⟨fun c => c.2.symm, fun c => ⟨rfl, c.symm⟩⟩ rfl rfl
    rw [revokePairings, ih (by simpa only [RoleLaw, roleCount, role_congr same] using roles) (by rw [role_congr same, head]), told]
    by_cases here : pr.port = q
    · rw [if_pos here, List.filter_cons_of_pos (by simpa using here), List.foldl_cons]
    · rw [if_neg here, List.filter_cons_of_neg (by simpa using here)]

/-- R142: two ends of one head are the two latest entries of its PAIRING_ENDED, whose count is 2 higher. -/
theorem merge_two {es : List (Ticket × PairOutcome)} (few : es.length ≤ 2) (n : Nat) (a b : Ticket × PairOutcome) :
    ((Notice.pairingEnded n es).merge (.pairingEnded 1 [a])).merge (.pairingEnded 1 [b]) =
      .pairingEnded (min 255 (n + 2)) [a, b] := by
  have count : min Config.maxOctetCount (min Config.maxOctetCount (n + 1) + 1) = min 255 (n + 2) := by
    simp only [Config.maxOctetCount]
    omega
  rw [Notice.merge, Notice.merge, count]
  congr 1
  match es, few with
  | [], _ => rfl
  | [_], _ => rfl
  | [_, _], _ => rfl

theorem pending_raise_self (n : NoticeState) (k : RankIx) (x : Notice) : (n.raise k x).pending[k] =
    some ((n.pending[k].map fun old => old.merge x).getD x) := by
  simp only [NoticeState.raise, Fin.getElem_fin, Vector.getElem_set_self]
  cases n.pending[k.val] <;> rfl

theorem pending_raise_other (n : NoticeState) {k j : RankIx} (other : j ≠ k) (x : Notice) :
    (n.raise k x).pending[j] = n.pending[j] := by
  simp only [NoticeState.raise]
  exact Vector.getElem_set_ne _ _ fun e => other (Fin.ext e.symm)

/-! ## The die (R14, R102) -/

/-- The die of the bank `b` after revocations that leave a bank in RETIRING a pairing, from `s` to `t`. -/
structure DiceRevoked (b : BankId) (prs : List Pairing) (s t : State) : Prop where
  state : (t.bank b).state = (s.bank b).state
  revoked : ∀ pr ∈ prs, dieOf t b (pr.dieIndex s) = revokedDie pr (pr.dieRecord s)
  others : ∀ i, (∀ pr ∈ prs, pr.dieIndex s ≠ i) → dieOf t b i = dieOf s b i

/-- R4: two pairings in flight do not reference one die. -/
theorem Laws.dieIndex_inj (laws : Laws m s) {x y : Pairing} (mx : x ∈ s.pairings) (my : y ∈ s.pairings)
    (index : x.dieIndex s = y.dieIndex s) : x = y := by
  obtain ⟨_, apart, _⟩ := laws.dice
  by_contra ne
  have symmetric : Std.Symm fun a b : Pairing => ¬ (a.bank = b.bank ∧ a.dieIndex s = b.dieIndex s) :=
    ⟨fun _ _ apart c => apart ⟨c.1.symm, c.2.symm⟩⟩
  exact apart.forall mx my ne ⟨pairing_bank_unique laws.map mx my, index⟩

/-- R14: the end of a pairing leaves its bank where it is, while another pairing in flight remains or the bank is not RETIRING. -/
theorem bank_endPairing_of_stays (laws : Laws m s) (mem : pr ∈ s.pairings)
    (stays : (s.bank pr.bank).state ≠ .retiring ∨ ∃ x ∈ s.pairings, x ≠ pr) (e : PairEnd) :
    (endPairing pr e s).bank pr.bank =
      { (s.bank pr.bank).withDie (pr.dieIndex s) e.die with refs := (s.bank pr.bank).refs - 1 } := by
  refine (bank_endPairing_self laws.map mem e).trans (if_neg ?_)
  rintro ⟨retiring, one⟩
  obtain ⟨x, mx, other⟩ := stays.resolve_left fun off => off retiring
  obtain ⟨refs, _⟩ := laws.references.1 pr.bank (mem_bothBanks pr.bank)
  obtain ⟨y, only⟩ := List.length_eq_one_iff.1 (refs.symm.trans one)
  have here : ∀ z ∈ s.pairings, z = y := fun z mz => by
    have listed : z ∈ s.pairings.filter (fun x => x.bank == pr.bank) :=
      List.mem_filter.2 ⟨mz, by simpa using pairing_bank_unique laws.map mz mem⟩
    rw [only] at listed
    exact List.mem_singleton.1 listed
  exact other ((here x mx).trans (here pr mem).symm)

theorem diceRevoked_revokePairings {b : BankId} (h : Revocable m prs s) (on : ∀ pr ∈ s.pairings, pr.bank = b)
    (stays : (s.bank b).state ≠ .retiring ∨ ∃ x ∈ s.pairings, x ∉ prs) : DiceRevoked b prs s (revokePairings prs s) := by
  induction prs generalizing s with
  | nil => exact ⟨rfl, (fun _ mem => nomatch mem), fun _ _ => rfl⟩
  | cons pr prs ih =>
    have mem := h.mem pr List.mem_cons_self
    have pr_bank := on pr mem
    subst pr_bank
    obtain ⟨apart, _⟩ := List.nodup_cons.1 h.distinct
    have others : ∀ x ∈ prs, x ∈ s.pairings ∧ x ≠ pr := fun x mx =>
      ⟨h.mem x (List.mem_cons_of_mem _ mx), fun e => apart (e ▸ mx)⟩
    obtain ⟨u, u_eq⟩ : ∃ u, u = endPairing pr (revocationEnd pr s) s := ⟨_, rfl⟩
    have next := h.next
    have bank := bank_endPairing_of_stays h.laws mem
      (stays.imp_right fun ⟨x, mx, out⟩ => ⟨x, mx, fun e => out (e ▸ List.mem_cons_self)⟩) (revocationEnd pr s)
    have kept : ∀ x ∈ u.pairings, x ∈ s.pairings := fun x mx => by
      rw [u_eq, pairings_endPairing] at mx
      exact List.mem_of_mem_eraseP mx
    have later : (s.bank pr.bank).state ≠ .retiring ∨ ∃ x ∈ u.pairings, x ∉ prs := by
      refine stays.imp_right fun ⟨x, mx, out⟩ => ?_
      obtain ⟨ne, rest⟩ := not_or.1 (List.mem_cons.not.1 out)
      exact ⟨x, u_eq ▸ h.laws.mem_endPairing mem mx ne _, rest⟩
    rw [revokePairings]
    rw [← u_eq] at bank next ⊢
    have state : (u.bank pr.bank).state = (s.bank pr.bank).state := by rw [bank]; rfl
    have index : ∀ x ∈ s.pairings, x.dieIndex u = x.dieIndex s := fun x mx => by
      simp only [Pairing.dieIndex, on x mx, bank]
      rfl
    have read : ∀ i, dieOf u pr.bank i =
        if i = pr.dieIndex s then revokedDie pr (pr.dieRecord s) else dieOf s pr.bank i := fun i => by
      have die : (revocationEnd pr s).die = revokedDie pr (pr.dieRecord s) := by rw [revocationEnd_eq]
      rw [dieOf, bank, ← die]
      exact dieAt_putDie (h.laws.dieCounts pr.bank).1 _ i _
    have record : ∀ x ∈ prs, x.dieRecord u = x.dieRecord s := fun x mx => by
      obtain ⟨ms, ne⟩ := others x mx
      have other := read (x.dieIndex s)
      rw [if_neg fun e => ne (h.laws.dieIndex_inj ms mem e)] at other
      rw [Pairing.dieRecord, Pairing.dieRecord, index x ms, on x ms]
      exact other
    obtain ⟨states, revoked, rest⟩ := ih next (fun x mx => on x (kept x mx)) (by rwa [state])
    refine ⟨states.trans state, fun x mx => ?_, fun i out => ?_⟩
    · rcases List.mem_cons.1 mx with rfl | mx
      · have apart : ∀ y ∈ prs, y.dieIndex u ≠ x.dieIndex s := fun y my e => by
          obtain ⟨ms, ne⟩ := others y my
          exact ne (h.laws.dieIndex_inj ms mem ((index y ms).symm.trans e))
        rw [rest _ apart, read, if_pos rfl]
      · rw [← index x (others x mx).1, revoked x mx, record x mx]
    · rw [rest i fun y my e => out y (List.mem_cons_of_mem _ my) ((index y (others y my).1).symm.trans e), read,
        if_neg fun e => out pr List.mem_cons_self e.symm]

/-- R14: a RETIRING bank stays RETIRING or is emptied. -/
theorem retiring_revokePairings {b : BankId} (prs : List Pairing)
    (h : (s.bank b).state = .retiring ∨ (s.bank b).state = .empty) :
    ((revokePairings prs s).bank b).state = .retiring ∨ ((revokePairings prs s).bank b).state = .empty := by
  induction prs generalizing s with
  | nil => exact h
  | cons pr prs ih =>
    refine ih ?_
    rcases bank_endPairing pr (revocationEnd pr s) s b with eq | ⟨_, blank⟩
    · rw [eq]
      split
      · rename_i here
        exact here ▸ h
      · exact h
    · exact .inr (by rw [blank]; rfl)

/-- R14: a RETIRING bank of which every pairing is revoked is blank. -/
theorem blank_of_all_revoked {b : BankId} (h : Revocable m prs s) (all : ∀ x ∈ s.pairings, x ∈ prs)
    (retiring : (s.bank b).state = .retiring) : (revokePairings prs s).bank b = .blank := by
  have done := (revokePairings_of_revocable h).laws
  have none : (revokePairings prs s).pairings = [] := List.eq_nil_iff_forall_not_mem.2 fun x mx =>
    have ⟨was, out⟩ := not_mem_of_revoked h mx
    out (all x was)
  obtain ⟨refs, used⟩ := done.references.1 b (mem_bothBanks b)
  obtain ⟨_, _, blank⟩ := done.dieCounts b
  refine blank ((retiring_revokePairings prs (.inl retiring)).resolve_left fun still => ?_)
  rw [none] at refs
  have some := used still
  rw [refs] at some
  exact Nat.lt_irrefl 0 some

end Sys2Proof.Proofs
end

section
/-! PROOFS. STRIP_OUT and the pairings of the departing strip: what the revocations leave stands through the departure, the hand-ons
and the answer (R36, R91, R102, R142). -/

namespace Sys2Proof.Proofs

open Sys2Proof Sys2Proof.Machine Sys2Proof.Safety

variable {s u v : State} {pr : Pairing} {prs : List Pairing} {l : Lane} {st : Strip} {rest : List Strip} {p q : Port}
  {body : List Octet}

/-! ## What the departure adds to the revocations -/

/-- The departure and the re-examination before the passes change only the lane, its gate, ports and notices. -/
theorem only_departed_told (l : Lane) (st : Strip) (u : State) :
    OnlyChanges [.lanes, .gates, .ports, .notices] u (settlementCheckOldest l (reexamine l (departed l st u))) :=
  ((only_departed l st u).mono (by simp)).trans (only_told l (departed l st u))

/-- R36, R134: the departure, the settlement check and the passes tell a head nothing. -/
theorem notice_departStrip_of_head (roles : RoleLaw u) (head : u.role q = .head) (n : Nat) (l : Lane) (st : Strip) :
    (handedOn n l (departed l st u)).notice q = u.notice q := by
  have gone : NoticeStands q u (departed l st u) := by
    refine ⟨?_, (only_departed l st u).roles_eq (by simp)⟩
    by_cases h : ∀ a ∈ (u.gate l).assignment, a.arrival ≠ st.arrival
    · exact notice_congr ((departed_of_elsewhere h).notices_eq (by simp)) q
    · push Not at h
      obtain ⟨a, assigned, here⟩ := h
      rw [(departed_of_here roles assigned here).2, if_neg (by rw [head]; exact fun e => nomatch e)]
  have examined := gone.trans (noticeStands_of_only (only_reexamine l (departed l st u)) (by simp) (by simp) q)
  have roles' : RoleLaw (reexamine l (departed l st u)) := by
    simpa only [RoleLaw, roleCount, role_congr examined.2] using roles
  have checked : NoticeStands q u (settlementCheckOldest l (reexamine l (departed l st u))) := by
    refine ⟨?_, (only_departed_told l st u).roles_eq (by simp)⟩
    rw [notice_settlementCheckOldest roles', role_congr examined.2, head, if_neg fun c => nomatch c.2]
    exact examined.1
  exact (checked.trans (((aside_of_role roles (.inl head)).of_roles checked.2).arbiterPasses n)).1

/-- R14, R16, R102: the die of a revoked pairing once the passes are made. -/
theorem die_of_revoked {m : Mode} {t : State} (h : Revocable m prs s) (stand : DieStand (revokePairings prs s) t) (mem : pr ∈ prs) :
    if (s.bank pr.bank).state = .retiring ∧ ∀ q ∈ s.pairings, q ∈ prs then Emptied (t.bank pr.bank)
    else if pr.isPicked = true then
      dieAt (t.bank pr.bank).dies (pr.dieIndex s) = { pr.dieRecord s with state := .lost }
    else dieAt (t.bank pr.bank).dies (pr.dieIndex s) = { pr.dieRecord s with state := .available } ∨
      ((s.bank pr.bank).state = .active ∧
        dieAt (t.bank pr.bank).dies (pr.dieIndex s) = { pr.dieRecord s with state := .claimed }) := by
  split
  · rename_i emptied
    have blank := blank_of_all_revoked h emptied.2 emptied.1
    rw [stand.banks pr.bank (by rw [blank]; exact fun e => nomatch e), blank]
    rfl
  · rename_i stays
    have dice := diceRevoked_revokePairings (b := pr.bank) h
      (fun x mx => pairing_bank_unique h.laws.map mx (h.mem pr mem)) (by
        by_cases retiring : (s.bank pr.bank).state = .retiring
        · refine .inr ?_
          by_contra none
          push Not at none
          exact stays ⟨retiring, none⟩
        · exact .inl retiring)
    have left := stand.dice pr.bank (pr.dieIndex s)
    rw [dice.revoked pr mem, dice.state, revokedDie] at left
    split
    · rename_i picked
      rw [if_pos picked] at left
      exact left.resolve_right fun c => nomatch c.1
    · rename_i claimed
      rw [if_neg claimed] at left
      exact left.imp_right fun c => ⟨c.2.1, c.2.2⟩

/-! ## The notices of the heads -/

theorem notice_of_one_revoked (head : s.role q = .head) (told : u.notice q =
      (prs.filter (fun x => x.port == q)).foldl endRevoked (s.notice q))
    (distinct : prs.Nodup) (mem : pr ∈ prs) (port : pr.port = q) (only : ∀ x ∈ prs, x.port = q → x = pr) :
    u.notice q = afterRaise (.pairingEnded 1 [(pr.ticket, .revoked)]) q s := by
  have one : prs.filter (fun x => x.port == q) = [pr] := by
    refine List.perm_singleton.1 ((List.perm_ext_iff_of_nodup (distinct.filter _) (List.nodup_singleton pr)).2 fun x => ?_)
    rw [List.mem_filter, List.mem_singleton, beq_iff_eq]
    exact ⟨fun c => only x c.1 c.2, fun e => e ▸ ⟨mem, port⟩⟩
  rw [told, one, afterRaise_of_head head]
  rfl

/-- R142: a head that loses both its pairings. -/
theorem notice_of_two_revoked {n t : NoticeState} {pr pr' : Pairing} (told : t = endRevoked (endRevoked n pr) pr') :
    let both : List (Ticket × PairOutcome) := [(pr.ticket, .revoked), (pr'.ticket, .revoked)]
    t.mask = n.mask ∧ t.inService = n.inService ∧ (∀ k : RankIx, k ≠ 0 → t.pending[k] = n.pending[k]) ∧
      (n.pending[(0 : RankIx)] = none → t.pending[(0 : RankIx)] = some (.pairingEnded 2 both)) ∧
      ∀ (c : Nat) (es : List (Ticket × PairOutcome)), n.pending[(0 : RankIx)] = some (.pairingEnded c es) → es.length ≤ 2 →
        t.pending[(0 : RankIx)] = some (.pairingEnded (min 255 (c + 2)) both) := by
  subst told
  refine ⟨rfl, rfl, fun k other => ?_, fun none => ?_, fun c es old few => ?_⟩
  · rw [endRevoked, pending_raise_other _ other, endRevoked, pending_raise_other _ other]
  · rw [endRevoked, pending_raise_self, endRevoked, pending_raise_self, none]
    rfl
  · rw [endRevoked, pending_raise_self, endRevoked, pending_raise_self, old]
    exact congrArg some (merge_two few c _ _)

/-! ## STRIP_OUT -/

/-- What the rest of the command leaves of what the revocations have left. -/
structure RevokedStands (u t : State) : Prop where
  pairings : ∀ x ∈ u.pairings, x ∈ t.pairings
  ring : t.ring = u.ring
  records : t.trace.records = u.trace.records
  dice : DieStand u t
  heads : ∀ q, u.role q = .head → t.notice q = u.notice q

theorem revokedStands_handedOn (roles : RoleLaw u) (map : MapInv u) (n : Nat) (l : Lane) (st : Strip) :
    RevokedStands u (handedOn n l (departed l st u)) := by
  have told := only_departed_told l st u
  refine ⟨fun x mx => ?_, ?_, ?_, ?_, fun q head => notice_departStrip_of_head roles head n l st⟩
  · refine mem_pairings_arbiterPasses n ?_
    rwa [told.pairings_eq (by simp)]
  · exact ((only_arbiterPasses n _).ring_eq (by simp [passParts])).trans (told.ring_eq (by simp))
  · rw [handedOn, (traceKept_arbiterPasses n _).1, told.trace_eq (by simp)]
  · exact (DieStand.of_banks (mapInv_of_only told (by simp) (by simp) map) (told.banks_eq (by simp))).arbiterPasses n

theorem RevokedStands.answered (h : RevokedStands u v) (p : Port) (r : Response) : RevokedStands u (reply p r v) := by
  obtain ⟨pairings, ring, records, ⟨maps, states, banks, dice⟩, heads⟩ := h
  have map := mapInv_of_only (only_reply p r v) (by simp) (by simp) maps
  obtain ⟨ports, eq⟩ := reply_eq p r v
  rw [eq] at map ⊢
  exact ⟨pairings, ring, records, ⟨map, states, banks, dice⟩, heads⟩

/-- R36: the revocations of the oldest strip stand to the end of its departure. -/
theorem revokedStands_departStrip {m : Mode} (law : PairedSiteLaw s) (laws : Laws m s) (mst : st ∈ (s.lane l).strips) :
    RevokedStands (revokePairings ((st.sites.filterMap pairedUnder).filterMap s.pairing) s) (departStrip l st s) := by
  have done := (revokePairings_of_revocable (revocable_of_strip law laws mst)).laws
  rw [departStrip_eq, revokeSites_eq (pairedTickets_nodup law laws.ticketLaw mst)]
  exact revokedStands_handedOn done.roles done.map _ l st

/-- R91: the ring holds an entry for each revoked pairing, as at most 8 pairings are in flight (R89). -/
theorem revokedEntry_mem {m : Mode} (h : Revocable m prs s) (few : s.pairings.length ≤ 8) (mem : pr ∈ prs) :
    revokedEntry pr ∈ (revokePairings prs s).ring := by
  have size : prs.length ≤ 8 := (h.distinct.subperm h.mem).length_le.trans few
  rw [ring_revokePairings h.laws.ringSize, List.drop_append_of_le_length (by simp only [Config.ringSize]; omega)]
  exact List.mem_append_right _ (List.mem_map_of_mem mem)

/-- R89, R91: a revoked ticket stands in the ring, and so names no pairing of the passes. -/
theorem gone_of_revoked {m : Mode} (h : Revocable m prs s) (few : s.pairings.length ≤ 8) (mem : pr ∈ prs)
    (laws : Laws .normal v) (ring : v.ring = (revokePairings prs s).ring) : v.pairing pr.ticket = none :=
  laws.pairing_of_ended (x := revokedEntry pr) (ring ▸ revokedEntry_mem h few mem)

/-- Settles O40: the revocations of the strip as those of a list of pairings, and what of them stands to the end of the command. -/
theorem departureRevokes : Obligations.DepartureRevokes := by
  unfold Obligations.DepartureRevokes
  intro p body l st rest s law taken named strips revoked
  have mst : st ∈ (s.lane l).strips := by rw [strips]; exact List.mem_cons_self
  have on := fun x mx => on_strip_of_revoked (pr := x) law.pairedSites law.tickets mst mx
  have head : ∀ x ∈ revoked, s.role x.port = .head := fun x mx => ((laws_of_device law).pairings x (on x mx).1).head
  -- the command is served while its port holds it; nothing below reads that port
  let held := s.setLink p (.holding .stripOut)
  have laws : Laws .normal held := laws_of_taken law taken
  have revocable : Revocable (Mode.normal.loosen (onStrip l st.arrival)) revoked held :=
    revocable_of_strip (s := held) law.pairedSites laws mst
  have served := serveStripOut_of_strip (p := p) (s := held) named strips
  have left : RevokedStands (revokePairings revoked held) (departStrip l st held) :=
    revokedStands_departStrip (s := held) law.pairedSites laws mst
  have stands := left.answered p (okResp (summaryBody st))
  have gone : ∀ x ∈ revoked, (reply p (okResp (summaryBody st)) (departStrip l st held)).pairing x.ticket = none := by
    intro x mx
    rw [State.pairing, reply_pairings]
    have few : s.pairings.length ≤ 8 := pairings_le_eight law
    exact gone_of_revoked revocable few mx (laws.departStrip (fun _ _ _ => id) strips) left.ring
  generalize reply p (okResp (summaryBody st)) (departStrip l st held) = t at served stands gone
  have ring := stands.ring.trans (ring_revokePairings laws.ringSize revoked)
  obtain ⟨added, records, fields⟩ := records_revokePairings revoked held
  rw [← stands.records] at records
  have notice : ∀ q, s.role q = .head → t.notice q = (revoked.filter (fun x => x.port == q)).foldl endRevoked (s.notice q) := by
    intro q isHead
    exact (stands.heads q ((role_congr (roles_revokePairings revoked held) q).trans isHead)).trans
      (notice_revokePairings (s := held) law.roles isHead revoked)
  refine ⟨t, exec_of_served taken served, fun x mx out => stands.pairings x (mem_revokePairings revocable mx out), ring, ?_,
    ?_, fun q pr pr' both => ?_, fun pr mem => ⟨(on pr mem).2.1, (on pr mem).2.2, gone pr mem,
      die_of_revoked (s := held) revocable stands.dice mem, fun alone => ?_⟩⟩
  · rw [show t.trace.records = s.trace.records ++ added from records]
    exact List.take_left
  · rw [show t.trace.records = s.trace.records ++ added from records, List.drop_left]
    exact fields
  · have listed : pr ∈ revoked.filter (fun x => x.port == q) := by rw [both]; exact List.mem_cons_self
    obtain ⟨mem, port⟩ := List.mem_filter.1 listed
    have told := notice q (beq_iff_eq.1 port ▸ head pr mem)
    rw [both] at told
    exact notice_of_two_revoked told
  · exact notice_of_one_revoked (head pr mem) (notice pr.port (head pr mem)) revocable.distinct mem rfl alone

end Sys2Proof.Proofs
end

section
/-! PROOFS. The ports and the requests that they hold, read apart from every other law: what a port, a gate and the wait list may
become, and the operations that answer a held request (R55, R59 to R61, R92, R106, R108 to R115, Table 11-3). -/

namespace Sys2Proof.Proofs

open Sys2Proof Sys2Proof.Machine Sys2Proof.Safety

variable {m : Mode} {s t : State} {p : Port}

/-! ## The laws of held requests -/

/-- The laws of the ports and of the requests that they hold, with what an event under way leaves open. -/
structure Held (m : Mode) (s : State) : Prop where
  links : LinkLaw s
  onlyInRun : ¬ m.lineAhead → WaitersOnlyInRun s
  waits : WaitListLaw s
  dots : DotWaiterLaw s
  free : ∀ p, m.serving p → Free s p

theorem Held.sorted (h : Held m s) : s.waitList.Pairwise (fun a b => b.level ≤ a.level) := h.waits.1

theorem Held.distinct (h : Held m s) : (waitPorts s).Nodup := h.waits.2.1

theorem Held.entry (h : Held m s) : ∀ e ∈ s.waitList, s.role e.port = .head ∧ s.link e.port = .holding .pair := h.waits.2.2

theorem held_of_linkInv (h : LinkInv s) : Held .normal s :=
  ⟨h.links, fun _ => h.onlyInRun, h.waitList, h.dotWaiters, fun _ n => n.elim⟩

theorem linkInv_of_held (h : Held .normal s) : LinkInv s := ⟨h.links, h.onlyInRun id, h.waits, h.dots⟩

/-- What the laws of held requests read. -/
def heldParts : List Part := [.reset, .line, .roles, .gates, .waitList, .ports]

theorem held_congr (reset : t.resetAsserted = s.resetAsserted) (line : t.line = s.line) (roles : t.roles = s.roles)
    (gates : t.gates = s.gates) (waits : t.waitList = s.waitList) (ports : t.ports = s.ports) (h : Held m s) : Held m t := by
  cases s
  cases t
  dsimp only at reset line roles gates waits ports
  subst reset line roles gates waits ports
  exact ⟨h.links, h.onlyInRun, h.waits, h.dots, h.free⟩

/-- A change of parts that these laws do not read. -/
theorem Held.of_only (h : Held m s) {parts : List Part} (o : OnlyChanges parts s t) (n : ∀ part ∈ heldParts, part ∉ parts) :
    Held m t :=
  held_congr (o.resetAsserted_eq (n _ (by simp [heldParts]))) (o.line_eq (n _ (by simp [heldParts])))
    (o.roles_eq (n _ (by simp [heldParts]))) (o.gates_eq (n _ (by simp [heldParts])))
    (o.waitList_eq (n _ (by simp [heldParts]))) (o.ports_eq (n _ (by simp [heldParts]))) h

/-! ## Ports that wait for an answer -/

/-- A port whose link is no request in hand for a head or a dispenser has none held for it. -/
theorem Held.free_of_link (h : Held m s) (pair : s.link p ≠ .holding .pair) (dot : s.link p ≠ .holding .dot) : Free s p :=
  ⟨fun e me eq => pair (eq ▸ (h.entry e me).2), fun l w mw eq => dot (eq ▸ (h.dots l (mem_bothLanes l) w mw).2)⟩

/-- Ports that have no request held are served. -/
theorem Held.serving (h : Held m s) {ports : Port → Prop} (free : ∀ p, ports p → Free s p) :
    Held { m with serving := fun q => m.serving q ∨ ports q } s :=
  { h with free := fun q served => served.elim (h.free q) (free q) }

theorem Held.serve (h : Held m s) (free : Free s p) : Held (m.serve p) s :=
  h.serving (ports := fun q => q = p) fun _ e => e ▸ free

theorem Held.served (h : Held (m.serve p) s) : Held m s := { h with free := fun q served => h.free q (.inl served) }

/-- Table 11-3: SEL is high in IDLE and low in every other link state; while RESET is asserted the port is IDLE. -/
def PortLinkOk (reset : Bool) (x : PortState) : Prop :=
  (reset = false → (x.selLow = false ↔ x.link = .idle)) ∧ (reset = true → x.link = .idle)

theorem Held.setPort (h : Held m s) {x : PortState} (ok : PortLinkOk s.resetAsserted x) (kept : x.link = s.link p ∨ Free s p) :
    Held m (s.setPort p x) := by
  have same : ∀ q, x.link = s.link p ∨ q ≠ p → (s.setPort p x).link q = s.link q := by
    rintro q c
    by_cases e : q = p
    · subst e
      simpa [State.link] using c
    · simp [State.link, e]
  refine { h with links := fun q => ?_, waits := ⟨h.sorted, h.distinct, fun e me => ?_⟩, dots := fun l ml w mw => ?_ }
  · by_cases e : q = p
    · subst e
      simpa [PortLinkOk, State.link] using ok
    · simpa [State.link, e] using h.links q
  · obtain ⟨role, link⟩ := h.entry e me
    exact ⟨role, (same e.port (kept.imp_right fun f => f.1 e me)).trans link⟩
  · obtain ⟨role, link⟩ := h.dots l ml w mw
    exact ⟨role, (same w.port (kept.imp_right fun f => f.2 l w mw)).trans link⟩

/-- A link that is at work may become any other that is at work. -/
theorem Held.setLink (h : Held m s) {y : Link} (free : Free s p) (busy : s.link p ≠ .idle) (work : y ≠ .idle) :
    Held m (s.setLink p y) :=
  h.setPort ⟨fun r => ⟨fun high => absurd (((h.links p).1 r).1 high) busy, fun e => absurd e work⟩,
    fun r => absurd ((h.links p).2 r) busy⟩ (.inr free)

/-- A response reaches a port that waits for nothing but the answer. -/
theorem Held.handOver (h : Held m s) (serving : m.serving p) (r : Response) (k : Option GrantMark) :
    Held m (handOver p r k s) := by
  unfold Machine.handOver
  split
  · rename_i holds
    exact h.setLink (h.free p serving) (by rw [holds]; exact fun e => nomatch e) (fun e => nomatch e)
  · exact h

theorem Held.answer (h : Held m s) (serving : m.serving p) (r : Response) : Held m (reply p r s) := h.handOver serving r none

/-- The answer to a request that has changed none of what these laws read. -/
theorem Held.answer_only (h : Held m s) (serving : m.serving p) {parts : List Part} (o : OnlyChanges parts s t)
    (n : ∀ part ∈ heldParts, part ∉ parts) (r : Response) : Held m (reply p r t) := (h.of_only o n).answer serving r

/-! ## Held DOTs -/

/-- A gate that holds no DOT that its lane did not hold. -/
theorem Held.setGate (h : Held m s) {l : Lane} {g : GateMonitor} (kept : ∀ w ∈ g.waiter, w ∈ (s.gate l).waiter) :
    Held m (s.setGate l g) := by
  have held : ∀ k, ∀ w ∈ ((s.setGate l g).gate k).waiter, w ∈ (s.gate k).waiter := fun k w mw => by
    by_cases e : k = l
    · subst e
      exact kept w (by simpa using mw)
    · simpa [State.gate_setGate_of_ne _ _ e] using mw
  have none : ∀ k, (s.gate k).waiter = none → ((s.setGate l g).gate k).waiter = none := fun k empty =>
    Option.eq_none_iff_forall_not_mem.2 fun w mw => by simpa [empty] using held k w mw
  exact { h with
    onlyInRun := fun settled outside => by
      obtain ⟨waits, a, b⟩ := h.onlyInRun settled outside
      exact ⟨waits, none .A a, none .B b⟩
    dots := fun k mk w mw => h.dots k mk w (held k w mw)
    free := fun q served => ⟨(h.free q served).1, fun k w mw => (h.free q served).2 k w (held k w mw)⟩ }

theorem Held.dropWaiter (h : Held m s) (l : Lane) : Held m (s.setGate l { s.gate l with waiter := none }) :=
  h.setGate fun _ n => nomatch n

/-- The port of a dot waiter that is let go has nothing else held for it. -/
theorem Held.free_of_waiter (h : Held m s) {l : Lane} {w : DotWaiter} (held : w ∈ (s.gate l).waiter) :
    Free (s.setGate l { s.gate l with waiter := none }) w.port := by
  obtain ⟨role, link⟩ := h.dots l (mem_bothLanes l) w held
  refine ⟨fun e me eq => ?_, fun k v mv eq => ?_⟩
  · have pair := (h.entry e me).2
    rw [eq, link] at pair
    cases pair
  · by_cases e : k = l
    · subst e
      rw [State.gate_setGate_self] at mv
      cases mv
    · rw [State.gate_setGate_of_ne _ _ e] at mv
      have other := (h.dots k (mem_bothLanes k) v mv).1
      rw [eq, role] at other
      cases other
      exact e rfl

/-- R58: the grant of a DOT to a port that waits for nothing but the answer. -/
theorem Held.grantDot (h : Held m s) (serving : m.serving p) (l : Lane) (st : Strip) (i : Nat) :
    Held m (grantDot l p st i s) := by
  have changed := h.of_only (only_changeSite l st.arrival i .dispensing s) (by decide)
  have assigned := changed.setGate (l := l) (g := { (changeSite l st.arrival i .dispensing s).gate l with
    assignment := some (assignmentFor s l st i) }) fun _ mw => mw
  exact assigned.handOver serving _ _

theorem Held.reexamine (h : Held m s) (l : Lane) : Held m (reexamine l s) := by
  rcases reexamine_cases l s with eq | ⟨w, st, i, held, _, eq⟩ <;> rw [eq]
  · exact h
  · exact (((h.dropWaiter l).serve (h.free_of_waiter held)).grantDot (.inr rfl) l st i).served

theorem Held.answerWaiter (h : Held m s) (l : Lane) (r : Response) : Held m (answerWaiter l r s) := by
  unfold Machine.answerWaiter
  split
  · exact h
  · rename_i w held
    exact (((h.dropWaiter l).serve (h.free_of_waiter held)).answer (.inr rfl) r).served

/-- R62, R67, R68: a site is taken back; no DOT is held that was not. -/
theorem Held.takeBackSite (h : Held m s) (l : Lane) (a : Assignment) : Held m (takeBackSite l a s) :=
  (h.of_only (only_changeSite l a.arrival a.site .empty s) (by decide)).setGate fun _ mw => mw

/-! ## The wait list -/

/-- What the wait list law reads of an entry. -/
def WaitEntry.place (e : WaitEntry) : Port × Nat := (e.port, e.level)

/-- A wait list that has lost entries, or whose entries have other obstacles. -/
theorem Held.shrinkWaitList (h : Held m s) {list : List WaitEntry}
    (sub : (list.map WaitEntry.place).Sublist (s.waitList.map WaitEntry.place)) : Held m { s with waitList := list } := by
  have old : ∀ e ∈ list, ∃ d ∈ s.waitList, d.port = e.port := fun e me => by
    obtain ⟨d, md, eq⟩ := List.mem_map.1 (sub.subset (List.mem_map_of_mem me))
    exact ⟨d, md, congrArg Prod.fst eq⟩
  obtain ⟨sorted, distinct, held⟩ := h.waits
  refine { h with onlyInRun := fun settled outside => ?_, waits := ⟨?_, ?_, fun e me => ?_⟩, free := fun q served => ?_ }
  · obtain ⟨waits, dots⟩ := h.onlyInRun settled outside
    rw [waits] at sub
    exact ⟨List.map_eq_nil_iff.1 (List.sublist_nil.1 sub), dots⟩
  · have places : (s.waitList.map WaitEntry.place).Pairwise (fun a b => b.2 ≤ a.2) := List.pairwise_map.2 sorted
    exact List.pairwise_map.1 (places.sublist sub)
  · have ports := sub.map Prod.fst
    rw [List.map_map, List.map_map] at ports
    exact distinct.sublist ports
  · obtain ⟨d, md, port⟩ := old e me
    exact port ▸ held d md
  · refine ⟨fun e me => ?_, (h.free q served).2⟩
    obtain ⟨d, md, port⟩ := old e me
    exact port ▸ (h.free q served).1 d md

theorem Held.clearWaitList (h : Held m s) : Held m { s with waitList := [] } := h.shrinkWaitList (List.nil_sublist _)

theorem Held.removeEntry (h : Held m s) (q : Port) : Held m (removeEntry q s) :=
  h.shrinkWaitList (List.filter_sublist.map _)

theorem Held.setObstacle (h : Held m s) (q : Port) (o : Obstacle) : Held m (setObstacle q o s) := by
  have same : (s.waitList.map (fun e => if e.port = q then { e with obstacle := some o } else e)).map WaitEntry.place =
      s.waitList.map WaitEntry.place := by
    rw [List.map_map]
    exact List.map_congr_left fun e _ => by simp only [Function.comp_apply]; split <;> rfl
  exact h.shrinkWaitList (same ▸ .refl _)

/-- The port of an entry that leaves the list has nothing else held for it. -/
theorem Held.free_of_entry (h : Held m s) {e : WaitEntry} (me : e ∈ s.waitList) : Free (Machine.removeEntry e.port s) e.port := by
  refine ⟨fun d md eq => ?_, fun l w mw eq => ?_⟩
  · simpa [eq] using (List.mem_filter.1 md).2
  · have link := (h.dots l (mem_bothLanes l) w mw).2
    rw [eq, (h.entry e me).2] at link
    cases link

theorem Held.answerEntry (h : Held m s) (q : Port) : Held m (answerEntry q s) := by
  unfold Machine.answerEntry
  split
  · exact h
  · rename_i e found
    have port : e.port = q := by simpa using List.find?_some found
    have free := h.free_of_entry (List.mem_of_find?_eq_some found)
    rw [port] at free
    exact (((h.removeEntry q).serve free).answer (.inr rfl) _).served

theorem Held.replies (h : Held m s) (r : Response) (es : List WaitEntry) (serving : ∀ e ∈ es, m.serving e.port) :
    Held m (es.foldl (fun s e => reply e.port r s) s) := by
  induction es generalizing s with
  | nil => exact h
  | cons e es ih =>
    exact ih (h.answer (serving e List.mem_cons_self) r) fun d md => serving d (List.mem_cons_of_mem _ md)

/-- R114, R115: every entry is answered and the list is emptied. -/
theorem Held.answerAllEntries (h : Held m s) (st : Status) : Held m (answerAllEntries st s) := by
  have free : ∀ q, q ∈ waitPorts s → Free { s with waitList := [] } q := fun q mq => by
    obtain ⟨e, me, rfl⟩ := List.mem_map.1 mq
    exact ⟨fun _ n => (nomatch n), (h.free_of_entry me).2⟩
  have answered := (h.clearWaitList.serving free).replies (resp st []) s.waitList fun e me => .inr (List.mem_map_of_mem me)
  rw [answerAllEntries_eq]
  exact { answered with free := fun q served => answered.free q (.inl served) }

/-- R106, R107: an entry of a port that holds its PAIR is placed. -/
theorem Held.place (h : Held m s) {e : WaitEntry} (run : s.line = .run) (role : s.role e.port = .head)
    (link : s.link e.port = .holding .pair) (free : Free s e.port) (idle : ¬ m.serving e.port) :
    Held m { s with waitList := insertEntry e s.waitList } := by
  obtain ⟨sorted, distinct, held⟩ := h.waits
  refine { h with
    onlyInRun := fun _ outside => absurd run outside
    waits := ⟨sorted_insertEntry sorted, ?_, fun d md => ?_⟩
    free := fun q served => ⟨fun d md => ?_, (h.free q served).2⟩ }
  · rw [waitPorts, ((perm_insertEntry e s.waitList).map _).nodup_iff, List.map_cons, List.nodup_cons]
    refine ⟨fun mem => ?_, distinct⟩
    obtain ⟨d, md, eq⟩ := List.mem_map.1 mem
    exact free.1 d md eq
  · rcases mem_insertEntry.1 md with rfl | md
    · exact ⟨role, link⟩
    · exact held d md
  · rcases mem_insertEntry.1 md with rfl | md
    · exact fun eq => idle (eq ▸ served)
    · exact (h.free q served).1 d md

/-! ## The passes (R92, R108) -/

/-- A change apart from the wait list stands beside the removal of an entry. -/
theorem only_removeEntry_of_only {parts : List Part} (o : OnlyChanges parts s t) (q : Port) :
    OnlyChanges parts (removeEntry q s) (removeEntry q t) := by
  refine ⟨o.1, fun part mem out => ?_⟩
  have same := o.2 part mem out
  cases part with
  | waitList => exact congrArg (List.filter fun e => e.port != q) same
  | _ => exact same

theorem Held.grantPair (h : Held m s) {e : WaitEntry} (me : e ∈ s.waitList) (f : Found) (k : Ticket) :
    Held m (grantPair e.port f k s) := by
  have claimed : OnlyChanges [.banks, .notices, .lanes, .lastTicket] s (pairSite f k (claimDie f { s with lastTicket := k })) :=
    OnlyChanges.trans (t := { s with lastTicket := k }) (by simp [OnlyChanges, Part.list, Part.same])
      (((only_claimDie f _).mono (by simp)).trans ((only_pairSite f k _).mono (by simp)))
  have removed := (((h.removeEntry e.port).serve (h.free_of_entry me)).of_only
    (only_removeEntry_of_only claimed e.port) (by decide))
  unfold Machine.grantPair
  refine Held.served (Held.handOver (m := m.serve e.port) ?_ (.inr rfl) _ _)
  exact held_congr (s := Machine.removeEntry e.port (pairSite f k (claimDie f { s with lastTicket := k }))) rfl rfl rfl rfl rfl
    rfl removed

theorem Held.walk (es : List WaitEntry) (s : State) (h : Held m s) (distinct : (es.map (fun e => e.port)).Nodup)
    (listed : ∀ e ∈ es, e.port ∈ waitPorts s) : Held m (walk es s) := by
  induction es generalizing s with
  | nil => exact h
  | cons e es ih =>
    obtain ⟨apart, rest⟩ := List.nodup_cons.1 distinct
    obtain ⟨d, md, port⟩ := List.mem_map.1 (listed e List.mem_cons_self)
    refine ih _ ?_ rest fun x mx => waitPorts_tryEntry (listed x (List.mem_cons_of_mem _ mx)) fun eq =>
      apart (List.mem_map.2 ⟨x, mx, eq⟩)
    rcases tryEntry_cases e s with ⟨f, k, _, _, _, eq⟩ | ⟨o, eq⟩ | eq <;> rw [eq]
    · exact port ▸ h.grantPair md f k
    · exact h.setObstacle _ o
    · exact h

theorem Held.arbiterPass (h : Held m s) : Held m (arbiterPass s) :=
  Held.walk s.waitList s h h.distinct fun _ me => List.mem_map_of_mem me

theorem Held.arbiterPasses (h : Held m s) (n : Nat) : Held m (arbiterPasses n s) :=
  arbiterPasses_keeps (I := Held m) (fun _ k => k.arbiterPass) n h

/-! ## The ends of pairings (R94) -/

theorem Held.handOnSettled (h : Held m s) (l : Lane) (a : BitVec 32) : Held m (handOnSettled l a s) :=
  (h.reexamine l).of_only (only_settlementCheck l a _) (by decide)

theorem Held.releaseSite (h : Held m s) (pr : Pairing) (x : Option Site) : Held m (releaseSite pr x s) := by
  unfold Machine.releaseSite
  split
  · exact h
  · rename_i x
    have changed := h.of_only (only_changeSite pr.lane pr.arrival pr.site x s) (by decide)
    dsimp only
    split
    · exact changed.handOnSettled _ _
    · exact changed

theorem Held.endPairing (h : Held m s) (pr : Pairing) (e : PairEnd) : Held m (endPairing pr e s) := by
  refine Held.of_only (Held.releaseSite ?_ pr e.site) (only_endPairing_sorted pr e s) (by decide)
  exact held_congr (s := s) rfl rfl rfl rfl rfl rfl h

theorem Held.endAndPass (h : Held m s) (pr : Pairing) (e : PairEnd) : Held m (endAndPass pr e s) :=
  (h.endPairing pr e).arbiterPasses _

end Sys2Proof.Proofs
end

section
/-! PROOFS. Every step keeps the laws of the ports and of the requests they hold: each request of its owner, each event at a port, and
the line states (R55, R56 to R62, R106 to R115, R129 to R137, R151 to R157). -/

namespace Sys2Proof.Proofs

open Sys2Proof Sys2Proof.Machine Sys2Proof.Safety

variable {m : Mode} {s t : State} {p : Port}

/-! ## Line states (R114, R129 to R133, R137) -/

theorem Held.moveLine (h : Held m s) (x : LineState) : Held m.ahead { s with line := x } :=
  { h with onlyInRun := fun n => absurd trivial n }

/-- The held requests have been answered, where the line has left RUN. -/
theorem Held.lineSettled (h : Held m.ahead s) (none : WaitersOnlyInRun s) : Held m s := { h with onlyInRun := fun _ => none }

theorem Held.runLine (h : Held m s) : Held m { s with line := .run } :=
  { h with onlyInRun := fun _ outside => absurd rfl outside }

/-- R114: the line is PAUSED with every held request answered; no port has been told. -/
def requestsPaused (s : State) : State :=
  answerWaiter .B (resp .paused []) (answerWaiter .A (resp .paused []) (answerAllEntries .paused { s with line := .paused }))

theorem only_told_paused (p : Port) (s : State) : OnlyChanges [.notices] (requestsPaused s) (stopLine p s) := by
  have raised := only_raiseLineState .pause (requestsPaused s)
  unfold stopLine
  dsimp only
  split
  · exact raised
  · exact raised.trans (only_raiseAt _ _ _)

theorem waitList_requestsPaused (s : State) : (requestsPaused s).waitList = [] :=
  ((only_answerWaiter _ _ _).waitList_eq (by simp)).trans ((only_answerWaiter _ _ _).waitList_eq (by simp))

theorem waitList_stopLine (p : Port) (s : State) : (stopLine p s).waitList = [] :=
  ((only_told_paused p s).waitList_eq (by simp)).trans (waitList_requestsPaused s)

theorem waiter_requestsPaused (s : State) (l : Lane) : ((requestsPaused s).gate l).waiter = none := by
  unfold requestsPaused
  rw [gate_answerWaiter]
  cases l
  · rw [if_neg (by decide), gate_answerWaiter, if_pos rfl]
  · rw [if_pos rfl]

theorem Held.stopLine (h : Held m s) (q : Port) : Held m (stopLine q s) := by
  have answered := (((h.moveLine .paused).answerAllEntries .paused).answerWaiter .A (resp .paused [])).answerWaiter .B
    (resp .paused [])
  have settled : Held m (requestsPaused s) := answered.lineSettled fun _ =>
    ⟨waitList_requestsPaused s, waiter_requestsPaused s .A, waiter_requestsPaused s .B⟩
  exact settled.of_only (only_told_paused q s) (by decide)

/-- R137, step 4: a gate is cleared. -/
theorem Held.clearGate (h : Held m s) (l : Lane) : Held m (clearGate l s) :=
  (h.answerWaiter l _).setGate fun _ mw => mw

/-- R137, steps 1 to 4: every held request is answered, and every pairing and every dot has ended. -/
def requestsCleared (s : State) : State := clearGate .B (clearGate .A (pairingsCleared s))

theorem only_rest_cleared (s : State) : OnlyChanges [.lanes, .banks, .lastPick, .notices] (requestsCleared s) (lineClear s) := by
  rw [lineClear_eq, lanesCleared]
  exact (((only_clearLane .A _).mono (by simp)).trans ((only_clearLane .B _).mono (by simp))).trans
    ((((only_clearBank .b0 _).mono (by simp)).trans ((only_clearBank .b1 _).mono (by simp))).trans
      (((only_resetLastPicks _).mono (by simp)).trans ((only_raiseLineState _ _).mono (by simp))))

/-- What the answers keep, and the end of every pairing after them, the pairings of a line clear keep. -/
theorem pairingsCleared_keeps {I : State → Prop} (answered : I (answerAllEntries .cleared { s with line := .setup }))
    (ended : ∀ u pr, I u → I (endPairing pr (clearEnd pr u) u)) : I (pairingsCleared s) :=
  (clearPairings_keeps (fun u pr _ _ k => ended u pr k) s.pairings (answerAllEntries .cleared { s with line := .setup })
    ((only_answerAllEntries _ _).pairings_eq (by simp)) answered).1

theorem waitList_requestsCleared (s : State) : (requestsCleared s).waitList = [] := by
  have o := (only_clearGate .A (pairingsCleared s)).trans (only_clearGate .B _)
  exact (o.waitList_eq (by simp)).trans (pairingsCleared_keeps (I := fun u => u.waitList = []) rfl fun u pr k =>
    ((only_ending pr _ u).waitList_eq (by simp [endingParts])).trans k)

theorem waitList_lineClear (s : State) : (lineClear s).waitList = [] :=
  ((only_rest_cleared s).waitList_eq (by simp)).trans (waitList_requestsCleared s)

theorem waiter_requestsCleared (s : State) (l : Lane) : ((requestsCleared s).gate l).waiter = none := by
  unfold requestsCleared
  rw [gate_clearGate]
  cases l
  · rw [if_neg (by decide), gate_clearGate, if_pos rfl]
  · rw [if_pos rfl]

/-- R137: the line clear answers every held request before it is over. -/
theorem Held.lineClear (h : Held m s) : Held m (lineClear s) := by
  have ended : Held m.ahead (pairingsCleared s) := pairingsCleared_keeps ((h.moveLine .setup).answerAllEntries .cleared)
    fun _ pr k => k.endPairing pr _
  have settled : Held m (requestsCleared s) := ((ended.clearGate .A).clearGate .B).lineSettled fun _ =>
    ⟨waitList_requestsCleared s, waiter_requestsCleared s .A, waiter_requestsCleared s .B⟩
  exact settled.of_only (only_rest_cleared s) (by decide)

theorem Held.serveClear (h : Held m s) (serving : m.serving p) (body : List Octet) : Held m (serveClear p body s) := by
  unfold Machine.serveClear
  exact h.lineClear.answer serving _

theorem Held.servePause (h : Held m s) (serving : m.serving p) (body : List Octet) : Held m (servePause p body s) := by
  unfold Machine.servePause
  refine Held.answer ?_ serving _
  split
  · exact h.stopLine p
  · exact h

theorem Held.serveStart (h : Held m s) (serving : m.serving p) (body : List Octet) : Held m (serveStart p body s) := by
  unfold Machine.serveStart
  split
  · exact h.answer serving _
  · split
    · exact h.answer serving _
    · exact (h.runLine.of_only (only_raiseLineState _ _) (by decide)).arbiterPass.answer serving _

theorem Held.serveResume (h : Held m s) (serving : m.serving p) (body : List Octet) : Held m (serveResume p body s) := by
  unfold Machine.serveResume
  split
  · exact h.answer serving _
  · have passed := (h.runLine.of_only (only_raiseLineState .resume _) (by decide)).arbiterPass
    exact ((passed.reexamine .A).reexamine .B).answer serving _

/-- R133: the line leaves PAUSED with no request held. -/
theorem Held.serveLineEnd (h : Held m s) (settled : ¬ m.lineAhead) (serving : m.serving p) (body : List Octet) :
    Held m (serveLineEnd p body s) := by
  unfold Machine.serveLineEnd
  split
  · exact h.answer serving _
  · rename_i paused
    split
    · exact h.answer serving _
    · have outside : s.line ≠ .run := by rw [not_not.1 paused]; exact fun e => nomatch e
      exact ((h.moveLine .setup).lineSettled fun _ => h.onlyInRun settled outside).answer_only serving
        (only_raiseLineState _ _) (by decide) _

/-! ## Roles (R135) -/

theorem Held.clearOrphans (h : Held m s) (l : Lane) : Held m (clearOrphans l s) := h.setGate fun _ mw => mw

/-- R135: in SETUP no request is held, and a role may be given. -/
theorem Held.assignRole (h : Held m s) (settled : ¬ m.lineAhead) (setup : s.line = .setup) (q : Port) (r : Role) (level : Nat) :
    Held m (assignRole q r level s) := by
  obtain ⟨waits, a, b⟩ := h.onlyInRun settled (by rw [setup]; exact fun e => nomatch e)
  have unheld : ∀ l, (s.gate l).waiter = none := fun l => by cases l; exacts [a, b]
  have given : Held m { s with roles := s.roles.set q.val ⟨r, level⟩ q.isLt } :=
    { h with
      waits := ⟨h.sorted, h.distinct, fun e me => by simp [waits] at me⟩
      dots := fun l _ w (mw : w ∈ (s.gate l).waiter) => by rw [unheld l] at mw; cases mw }
  have orphans : ∀ (l : Lane) (u : State), Held m u →
      Held m (if s.role q = .dispenser l ∨ r = .dispenser l then Machine.clearOrphans l u else u) := fun l u k => by
    split
    · exact k.clearOrphans l
    · exact k
  have blank := given.of_only (only_setNotice _ q .blank) (by decide)
  simpa only [Machine.assignRole, resetNotice, resetOrphans, Bool.or_eq_true, decide_eq_true_eq] using
    orphans .B _ (orphans .A _ blank)

theorem Held.serveRole (h : Held m s) (settled : ¬ m.lineAhead) (serving : m.serving p) (body : List Octet) :
    Held m (serveRole p body s) := by
  unfold Machine.serveRole
  dsimp only
  split
  · split
    · exact h.answer serving _
    · split
      · exact h.answer serving _
      · rename_i setup
        have given := fun q r level => (h.assignRole settled (not_not.1 setup) q r level)
        split
        · split
          · exact h.answer serving _
          · exact (given _ _ _).answer serving _
        · split
          · exact (given _ _ _).answer serving _
          · split
            · exact h.answer serving _
            · exact (given _ _ _).answer serving _
  · exact h.answer serving _

/-! ## Requests that hold and let go nothing -/

theorem Held.serveNoticeTake (h : Held m s) (serving : m.serving p) (body : List Octet) : Held m (serveNoticeTake p body s) := by
  unfold Machine.serveNoticeTake
  split
  · exact h.answer serving _
  · split
    · exact h.answer serving _
    · have taken := fun n => h.of_only (only_setNotice s p n) (by decide)
      refine Held.answer ?_ serving _
      unfold takeHandOn
      split
      · exact (taken _).clearOrphans _
      · exact taken _

theorem Held.serveNoticeEnd (h : Held m s) (serving : m.serving p) (body : List Octet) : Held m (serveNoticeEnd p body s) := by
  unfold Machine.serveNoticeEnd
  split
  · exact h.answer serving _
  · rename_i k _
    split
    · exact h.answer serving _
    · have finished := h.of_only (only_setNotice s p ((s.notice p).finish k)) (by decide)
      refine Held.answer ?_ serving _
      split
      · exact finished.of_only (only_reevalTraceLevel _) (by decide)
      · exact finished

theorem Held.serveProduct (h : Held m s) (serving : m.serving p) (body : List Octet) : Held m (serveProduct p body s) := by
  unfold Machine.serveProduct
  split
  · exact h.answer serving _
  · split
    · exact h.answer serving _
    · split
      · exact h.answer serving _
      · rename_i c _ _ _
        have set : Held m { s with products := s.products.set c.val (some (productOfBody body)) c.isLt } :=
          held_congr (s := s) rfl rfl rfl rfl rfl rfl h
        exact set.answer serving _

theorem Held.serveLane (h : Held m s) (serving : m.serving p) (body : List Octet) : Held m (serveLane p body s) := by
  unfold Machine.serveLane
  dsimp only
  split
  · exact h.answer serving _
  · split
    · exact h.answer serving _
    · split
      · exact h.answer serving _
      · exact h.answer_only serving (only_setLane s _ _) (by decide) _

theorem Held.serveReach (h : Held m s) (serving : m.serving p) (body : List Octet) : Held m (serveReach p body s) := by
  unfold Machine.serveReach
  split
  · split
    · exact h.answer serving _
    · rename_i q r _ _ _
      have set : Held m { s with reach := s.reach.set q.val r q.isLt } := held_congr (s := s) rfl rfl rfl rfl rfl rfl h
      refine Held.answer ?_ serving _
      split
      · exact set.arbiterPass
      · exact set
  · exact h.answer serving _

theorem Held.serveMapOpen (h : Held m s) (serving : m.serving p) (body : List Octet) : Held m (serveMapOpen p body s) := by
  unfold Machine.serveMapOpen
  split
  · exact h.answer serving _
  · split
    · exact h.answer serving _
    · split
      · exact h.answer serving _
      · exact h.answer_only serving (only_setBank s _ _) (by decide) _

theorem Held.serveMapRows (h : Held m s) (serving : m.serving p) (body : List Octet) : Held m (serveMapRows p body s) := by
  unfold Machine.serveMapRows
  dsimp only
  split
  · exact h.answer serving _
  · split
    · exact h.answer serving _
    · exact h.answer_only serving (only_setBank s _ _) (by decide) _

theorem Held.serveMapClose (h : Held m s) (serving : m.serving p) (body : List Octet) : Held m (serveMapClose p body s) := by
  unfold Machine.serveMapClose
  split
  · exact h.answer serving _
  · dsimp only
    split
    · exact h.answer_only serving (only_setBank s _ _) (by decide) _
    · exact h.answer_only serving (only_setBank s _ _) (by decide) _

theorem Held.serveMapAbort (h : Held m s) (serving : m.serving p) (body : List Octet) : Held m (serveMapAbort p body s) := by
  unfold Machine.serveMapAbort
  split
  · exact h.answer serving _
  · exact h.answer_only serving (only_setBank s _ _) (by decide) _

theorem Held.serveDieMark (h : Held m s) (serving : m.serving p) (body : List Octet) : Held m (serveDieMark p body s) := by
  unfold Machine.serveDieMark
  dsimp only
  split
  · split
    · exact h.answer serving _
    · split
      · exact h.answer serving _
      · split
        · exact h.answer serving _
        · split
          · exact h.answer serving _
          · exact ((h.of_only (only_changeDie _ _ _ s) (by decide)).arbiterPasses _).answer serving _
  · exact h.answer serving _

theorem Held.serveWaferIn (h : Held m s) (serving : m.serving p) (body : List Octet) : Held m (serveWaferIn p body s) := by
  unfold Machine.serveWaferIn
  dsimp only
  split
  · exact h.answer serving _
  · split
    · exact h.answer serving _
    · split
      · exact h.answer serving _
      · exact (h.of_only (only_activate _ s) (by decide)).arbiterPass.answer serving _

theorem Held.serveWaferOut (h : Held m s) (serving : m.serving p) (body : List Octet) : Held m (serveWaferOut p body s) := by
  unfold Machine.serveWaferOut
  split
  · exact h.answer serving _
  · exact (h.of_only (only_setBank s _ _) (by decide)).answer_only serving (only_retireIfClear _ _) (by decide) _

theorem Held.serveTraceRead (h : Held m s) (serving : m.serving p) (body : List Octet) : Held m (serveTraceRead p body s) := by
  have dropped := fun n => h.of_only (only_dropRecords n s) (by decide)
  unfold Machine.serveTraceRead
  dsimp only
  refine Held.answer ?_ serving _
  split
  · exact dropped _
  · exact (dropped _).arbiterPass

/-! ## The head reports (R95 to R100) -/

theorem Held.servePicked (h : Held m s) (serving : m.serving p) (body : List Octet) : Held m (servePicked p body s) := by
  refine withTicket_keeps (fun r => h.answer serving r) fun pr _ _ => ?_
  split
  · exact h.answer_only serving (only_takePick pr s) (by decide) _
  · exact h.answer serving _

theorem Held.serveBonded (h : Held m s) (serving : m.serving p) (body : List Octet) : Held m (serveBonded p body s) := by
  refine withTicket_keeps (fun r => h.answer serving r) fun pr _ _ => ?_
  split
  · exact h.answer serving _
  · exact (h.endAndPass pr _).answer serving _

theorem Held.servePickFail (h : Held m s) (serving : m.serving p) (body : List Octet) : Held m (servePickFail p body s) := by
  refine withTicket_keeps (fun r => h.answer serving r) fun pr _ _ => ?_
  split
  · exact h.answer serving _
  · exact h.answer serving _
  · exact (h.endAndPass pr _).answer serving _

theorem Held.serveDiscard (h : Held m s) (serving : m.serving p) (body : List Octet) : Held m (serveDiscard p body s) := by
  refine withTicket_keeps (fun r => h.answer serving r) fun pr _ _ => ?_
  split
  · exact h.answer serving _
  · exact (h.endAndPass pr _).answer serving _

/-! ## Strips (R26, R35, R36) -/

theorem Held.serveStripIn (h : Held m s) (serving : m.serving p) (body : List Octet) : Held m (serveStripIn p body s) := by
  unfold Machine.serveStripIn
  split
  · exact h.answer serving _
  · split
    · exact h.answer serving _
    · split
      · split
        · exact h.answer serving _
        · have entered : ∀ l st, Held m (enterStrip l st s) := fun l _ => h.of_only (only_setLane s l _) (by decide)
          exact (((entered _ _).of_only (only_settlementCheck _ _ _) (by decide)).reexamine _).answer serving _
      · exact h.answer serving _

theorem Held.departStrip (h : Held m s) (l : Lane) (st : Strip) : Held m (departStrip l st s) := by
  have revoked := revokeSites_keeps (I := Held m) (fun _ _ pr _ k => k.endPairing pr _) st.sites h
  have dot : Held m (endDepartingDot l st (revokeSites st.sites s).2) := by
    unfold endDepartingDot
    split
    · exact revoked
    · split
      · have dropped : Held m (dropAssignment l (revokeSites st.sites s).2) := revoked.setGate fun _ mw => mw
        exact dropped.of_only (only_raiseTo _ _ _) (by decide)
      · exact revoked
  have gone := dot.of_only (only_removeOldest l _) (by decide)
  exact ((gone.reexamine l).of_only (only_settlementCheckOldest l _) (by decide)).arbiterPasses _

theorem Held.serveStripOut (h : Held m s) (serving : m.serving p) (body : List Octet) : Held m (serveStripOut p body s) := by
  unfold Machine.serveStripOut
  split
  · exact h.answer serving _
  · split
    · exact h.answer serving _
    · exact (h.departStrip _ _).answer serving _

/-! ## PAIR, DOT and DOT_ABORT (R56 to R59, R68, R73, R107, R111) -/

theorem Held.servePair (h : Held m s) (role : s.role p = .head) (link : s.link p = .holding .pair) (free : Free s p)
    (idle : ¬ m.serving p) (body : List Octet) : Held m (servePair p body s) := by
  have refused : ∀ r, Held m (reply p r s) := fun r => ((h.serve free).answer (.inr rfl) r).served
  unfold Machine.servePair
  split
  · exact refused _
  · rename_i c _
    split
    · exact refused _
    · rename_i setup
      split
      · exact refused _
      · rename_i paused
        split
        · exact refused _
        · have passed := (h.place (e := entryFor s p c (u16 body 1).toNat) (run_of_not setup paused) role link free
            idle).arbiterPass
          unfold placePair
          dsimp only
          split
          · exact passed.answerEntry _
          · exact passed

/-- R59: the DOT of a port that has nothing else held for it is held for its lane. -/
theorem Held.holdDot (h : Held m s) {l : Lane} (run : s.line = .run) (role : s.role p = .dispenser l)
    (link : s.link p = .holding .dot) (idle : ¬ m.serving p) (waitMs : Nat) : Held m (holdDot l p waitMs s) := by
  have held : ∀ k, ∀ w ∈ ((Machine.holdDot l p waitMs s).gate k).waiter, (k = l ∧ w.port = p) ∨ w ∈ (s.gate k).waiter := by
    intro k w mw
    by_cases e : k = l
    · subst e
      rw [Machine.holdDot, State.gate_setGate_self] at mw
      cases mw
      exact .inl ⟨rfl, rfl⟩
    · rw [Machine.holdDot, State.gate_setGate_of_ne _ _ e] at mw
      exact .inr mw
  exact { h with
    onlyInRun := fun _ outside => absurd run outside
    dots := fun k mk w mw => by
      rcases held k w mw with ⟨rfl, port⟩ | old
      · show s.role w.port = .dispenser k ∧ s.link w.port = .holding .dot
        rw [port]
        exact ⟨role, link⟩
      · exact h.dots k mk w old
    free := fun q served => ⟨(h.free q served).1, fun k w mw => by
      rcases held k w mw with ⟨_, port⟩ | old
      · exact fun eq => idle ((port.symm.trans eq) ▸ served)
      · exact (h.free q served).2 k w old⟩ }

theorem Held.serveDot (h : Held m s) (link : s.link p = .holding .dot) (free : Free s p) (idle : ¬ m.serving p)
    (body : List Octet) : Held m (serveDot p body s) := by
  have refused : ∀ r, Held m (reply p r s) := fun r => ((h.serve free).answer (.inr rfl) r).served
  unfold Machine.serveDot
  split
  · exact h
  · rename_i l lane
    split
    · exact refused _
    · rename_i setup
      split
      · exact refused _
      · rename_i paused
        split
        · exact refused _
        · unfold tryDot
          split
          · exact ((h.serve free).grantDot (.inr rfl) l _ _).served
          · split
            · exact refused _
            · exact h.holdDot (run_of_not setup paused) (lane_eq_some lane) link idle _

theorem Held.serveDotAbort (h : Held m s) (serving : m.serving p) (body : List Octet) : Held m (serveDotAbort p body s) := by
  unfold Machine.serveDotAbort
  split
  · exact h
  · split
    · exact h.answer serving _
    · split
      · exact h.answer serving _
      · exact (h.takeBackSite _ _).answer serving _

/-! ## Every request -/

theorem Held.serveKind (h : Held .normal s) {k : Kind} (link : s.link p = .holding k)
    (permits : kindPermits k (s.role p) = true) (free : Free s p) (body : List Octet) :
    Held .normal (Machine.serve k p body s) := by
  have settled : ¬ (Mode.normal.serve p).lineAhead := id
  have serving : (Mode.normal.serve p).serving p := .inr rfl
  have taken : Held (Mode.normal.serve p) s := h.serve free
  cases k with
  | pair => exact h.servePair (by simpa [kindPermits] using permits) link free id body
  | dot => exact h.serveDot link free id body
  | ident => exact (taken.answer serving _).served
  | clockRead => exact (taken.answer serving _).served
  | lineStatus => exact (taken.answer serving _).served
  | noticeTake => exact (taken.serveNoticeTake serving body).served
  | noticeEnd => exact (taken.serveNoticeEnd serving body).served
  | noticeMask => exact (taken.answer_only serving (only_setNotice s p _) (by decide) _).served
  | pause => exact (taken.servePause serving body).served
  | role => exact (taken.serveRole settled serving body).served
  | product => exact (taken.serveProduct serving body).served
  | lane => exact (taken.serveLane serving body).served
  | reach => exact (taken.serveReach serving body).served
  | start => exact (taken.serveStart serving body).served
  | resume => exact (taken.serveResume serving body).served
  | lineEnd => exact (taken.serveLineEnd settled serving body).served
  | clear => exact (taken.serveClear serving body).served
  | mapOpen => exact (taken.serveMapOpen serving body).served
  | mapRows => exact (taken.serveMapRows serving body).served
  | mapClose => exact (taken.serveMapClose serving body).served
  | mapAbort => exact (taken.serveMapAbort serving body).served
  | dieMark => exact (taken.serveDieMark serving body).served
  | traceRead => exact (taken.serveTraceRead serving body).served
  | traceLevel =>
    have set : Held (Mode.normal.serve p) { s with trace := { s.trace with threshold := clampThreshold (u16 body 0) } } :=
      held_congr (s := s) rfl rfl rfl rfl rfl rfl taken
    exact (set.answer_only serving (only_reevalTraceLevel _) (by decide) _).served
  | picked => exact (taken.servePicked serving body).served
  | bonded => exact (taken.serveBonded serving body).served
  | pickFail => exact (taken.servePickFail serving body).served
  | discard => exact (taken.serveDiscard serving body).served
  | dotAbort => exact (taken.serveDotAbort serving body).served
  | stripIn => exact (taken.serveStripIn serving body).served
  | stripOut => exact (taken.serveStripOut serving body).served
  | waferIn => exact (taken.serveWaferIn serving body).served
  | waferOut => exact (taken.serveWaferOut serving body).served

/-! ## Frames (R151 to R155) -/

theorem Held.free_of_receiving (h : Held m s) (r : Receiving s p) : Free s p := by
  obtain ⟨_, _, _, link⟩ := r
  exact h.free_of_link (by rw [link]; exact fun e => nomatch e) (by rw [link]; exact fun e => nomatch e)

/-- A link that is at work, and is no request in hand for a head or a dispenser, may become any other that is at work. -/
theorem Held.relink (h : Held m s) {x y : Link} (link : s.link p = x) (work : x ≠ .idle) (pair : x ≠ .holding .pair)
    (dot : x ≠ .holding .dot) (next : y ≠ .idle) : Held m (s.setLink p y) := by
  subst link
  exact h.setLink (h.free_of_link pair dot) work next

theorem Held.receive (h : Held m s) (r : Receiving s p) {y : Link} (next : y ≠ .idle) : Held m (s.setLink p y) := by
  obtain ⟨_, _, _, link⟩ := r
  exact h.relink link (fun e => nomatch e) (fun e => nomatch e) (fun e => nomatch e) next

theorem Held.frameCheck (h : Held .normal s) (received : Receiving s p) (k : Kind) (body : List Octet) :
    Held .normal (Machine.frameCheck k p body (Machine.serve k) s) := by
  refine frameCheck_keeps (fun r => h.receive received (fun e => nomatch e)) fun _ permits => ?_
  exact (h.receive received (y := .holding k) (fun e => nomatch e)).serveKind (by simp [State.link, State.setLink]) permits
    (h.free_of_receiving received) body

theorem Held.keepInHand (h : Held m s) (p : Port) : Held m (keepInHand p s) := by
  unfold Machine.keepInHand
  split
  · rename_i link
    exact h.relink link (fun e => nomatch e) (fun e => nomatch e) (fun e => nomatch e) (fun e => nomatch e)
  · exact h

theorem Held.handOverDecided (h : Held m s) (p : Port) : Held m (handOverDecided p s) := by
  unfold Machine.handOverDecided
  split
  · rename_i link
    exact h.relink link (fun e => nomatch e) (fun e => nomatch e) (fun e => nomatch e) (fun e => nomatch e)
  · exact h

theorem Held.expireFrame (h : Held m s) (p : Port) : Held m (expireFrame p s) := by
  unfold Machine.expireFrame
  split
  · rename_i octets bits start link
    split
    · exact h.receive ⟨octets, bits, start, link⟩ (fun e => nomatch e)
    · exact h
  · exact h

/-! ## The rise of SEL (R155 to R157) -/

theorem Held.withdraw (h : Held m s) (mark : Option GrantMark) : Held m (withdraw mark s) := by
  unfold Machine.withdraw
  split
  · exact h
  · unfold withdrawPair
    split
    · exact h.endAndPass _ _
    · exact h
  · unfold withdrawDot
    split
    · exact h
    · split
      · exact h
      · split
        · exact h.takeBackSite _ _
        · exact h

theorem Held.dropHeld (h : Held m s) (q : Port) (l : Lane) : Held m (Proofs.dropHeld q l s) := by
  unfold Proofs.dropHeld
  split
  · split
    · exact h.dropWaiter l
    · exact h
  · exact h

theorem Held.releaseHeld (h : Held m s) (q : Port) : Held m (releaseHeld q s) := by
  rw [releaseHeld_eq]
  exact ((h.removeEntry q).dropHeld q .A).dropHeld q .B

theorem portLinkOk_closed : PortLinkOk false { selLow := false, link := .idle } :=
  ⟨fun _ => ⟨fun _ => rfl, fun _ => rfl⟩, fun e => nomatch e⟩

theorem Held.selRiseCloses (h : Held m s) (live : s.resetAsserted = false) (low : s.ports[p].selLow = true) :
    Held m (closeLink p (s.setPort p { s.ports[p] with selLow := false })) := by
  have link : (s.setPort p { s.ports[p] with selLow := false }).link p = s.link p := by simp [State.link]
  have closes : (∀ k, s.link p ≠ .holding k) → Held m (s.setPort p { selLow := false, link := .idle }) := fun other =>
    h.setPort (live ▸ portLinkOk_closed) (.inr (h.free_of_link (other _) (other _)))
  unfold Machine.closeLink
  rw [link, setLink_setPort]
  cases held : s.link p with
  | idle =>
    have high := ((h.links p).1 live).2 held
    rw [low] at high
    cases high
  | receiving octets bits start => exact closes (by rw [held]; exact fun _ e => nomatch e)
  | holding k =>
    dsimp only
    rw [releaseHeld_setPort]
    have reset : (Machine.releaseHeld p s).resetAsserted = false :=
      ((only_releaseHeld p s).resetAsserted_eq (by simp)).trans live
    exact (h.releaseHeld p).setPort (reset ▸ portLinkOk_closed) (.inr (free_releaseHeld p s))
  | decided k r mark => exact (closes (by rw [held]; exact fun _ e => nomatch e)).withdraw mark
  | answering k r n mark =>
    have closed := closes (by rw [held]; exact fun _ e => nomatch e)
    dsimp only
    split
    · exact closed
    · exact closed.withdraw mark
  | draining => exact closes (by rw [held]; exact fun _ e => nomatch e)

/-! ## Expiries, the sweep and the clock -/

theorem Held.expirePairWait (h : Held m s) (q : Port) : Held m (expirePairWait q s) := by
  unfold Machine.expirePairWait
  split
  · exact h
  · split
    · exact h.answerEntry q
    · exact h

theorem Held.expireDotWait (h : Held m s) (l : Lane) : Held m (expireDotWait l s) := by
  unfold Machine.expireDotWait
  split
  · exact h
  · split
    · exact h.answerWaiter l _
    · exact h

theorem Held.expireDeadline (h : Held m s) (l : Lane) : Held m (expireDeadline l s) := by
  unfold Machine.expireDeadline
  split
  · exact h
  · split
    · split
      · exact h.setGate fun _ mw => mw
      · exact (h.takeBackSite _ _).of_only (only_raiseTo _ _ _) (by decide)
    · exact h

theorem Held.expireLease (h : Held m s) (k : Ticket) : Held m (expireLease k s) := by
  unfold Machine.expireLease
  split
  · exact h
  · split
    · exact h.endAndPass _ _
    · exact h

theorem Held.sweepVisit (h : Held m s) (pos : BitVec 9) : Held m (sweepVisit pos s) := by
  unfold Machine.sweepVisit
  dsimp only
  split
  · exact h
  · split
    · exact h
    · split
      · split
        · have spoiled : ∀ a i x, Held m (changeSite (sweepLane pos) a i x s) := fun a i x =>
            h.of_only (only_changeSite (sweepLane pos) a i x s) (by decide)
          exact ((spoiled _ _ _).of_only (only_raiseAt _ _ _) (by decide)).handOnSettled _ _
        · exact h
      · exact h

theorem Held.takeVisit (h : Held m s) : Held m (takeVisit s) := by
  unfold Machine.takeVisit
  split
  · exact Held.sweepVisit (s := { s with visitOwed := false }) (held_congr (s := s) rfl rfl rfl rfl rfl rfl h) _
  · exact h

theorem Held.catchUp (h : Held m s) : Held m (catchUp s) :=
  (foldl_keeps (I := Held m) (f := fun s p => Machine.handOverDecided p s) (fun _ p k => k.handOverDecided p) allPorts h).takeVisit

theorem Held.settle (h : Held m s) : Held m (settle s) := by
  have frames := foldl_keeps (I := Held m) (f := fun s p => Machine.expireFrame p s) (fun _ p k => k.expireFrame p) allPorts h.catchUp
  have waits := foldl_keeps (I := Held m) (f := fun s p => Machine.expirePairWait p s) (fun _ p k => k.expirePairWait p) allPorts frames
  have dots := (((waits.expireDotWait .A).expireDotWait .B).expireDeadline .A).expireDeadline .B
  exact foldl_keeps (I := Held m) (f := fun s k => Machine.expireLease k s) (fun _ k h => h.expireLease k) _ dots

/-- A sample at each gate holds no DOT and lets none go. -/
theorem Held.sample (h : Held m s) : Held m { s with gates := ⟨s.gates.a.sample, s.gates.b.sample⟩ } := by
  have sampled : ({ s with gates := ⟨s.gates.a.sample, s.gates.b.sample⟩ } : State) =
      (s.setGate .A (s.gate .A).sample).setGate .B (s.gate .B).sample := rfl
  rw [sampled]
  refine Held.setGate (h.setGate fun w mw => ?_) fun w mw => ?_
  · rwa [waiter_sample] at mw
  · rwa [waiter_sample] at mw

theorem Held.tick (h : Held m s) : Held m (tick s) :=
  held_congr (s := { Machine.settle s with
    gates := ⟨(Machine.settle s).gates.a.sample, (Machine.settle s).gates.b.sample⟩ }) rfl rfl rfl rfl rfl rfl
    h.settle.sample

/-! ## Gate inputs -/

theorem Held.completePulse (h : Held m s) (l : Lane) (width : Nat) (bound : Bool) : Held m (completePulse l width bound s) := by
  unfold Machine.completePulse
  split
  · rename_i a _
    have ended : Held m (s.setGate l { s.gate l with assignment := none }) := h.setGate fun _ mw => mw
    have changed := fun x => ended.of_only (only_changeSite l a.arrival a.site x _) (by decide)
    unfold judgeDot
    dsimp only
    split
    · exact (changed _).arbiterPass
    · exact ((changed _).handOnSettled _ _).of_only (only_raiseTo _ _ _) (by decide)
  · have counted : Held m (s.setGate l { s.gate l with orphans := min Config.maxOctetCount ((s.gate l).orphans + 1) }) :=
      h.setGate fun _ mw => mw
    exact counted.of_only (only_raiseTo _ _ _) (by decide)

theorem Held.pulseSaturates (h : Held m s) (l : Lane) : Held m (pulseSaturates l s) := by
  unfold Machine.pulseSaturates
  split
  · have idle : Held m (s.setGate l { s.gate l with measurement := .idle, ready := false }) := h.setGate fun _ mw => mw
    exact idle.completePulse l _ _
  · exact h

theorem Held.gateFalls (h : Held m s) (l : Lane) (width : Nat) : Held m (gateFalls l width s) := by
  unfold Machine.gateFalls
  dsimp only
  split
  · exact h
  · split
    · exact h.setGate fun _ mw => mw
    · have fallen : Held m (s.setGate l { s.gate l with gateActive := false, measurement := .idle, ready := true }) :=
        h.setGate fun _ mw => mw
      split
      · split
        · exact fallen
        · exact fallen.completePulse l _ _
      · exact fallen

theorem Held.gateRises (h : Held m s) (l : Lane) : Held m (gateRises l s) := by
  unfold Machine.gateRises
  dsimp only
  split
  · exact h
  · split
    · exact h.setGate fun _ mw => mw
    · exact h.setGate fun w (mw : w ∈ (s.gate l).sample.waiter) => by rwa [waiter_sample] at mw

theorem Held.pulseBegins (h : Held m s) (l : Lane) : Held m (pulseBegins l s) := by
  unfold Machine.pulseBegins
  split
  · exact h.setGate fun _ mw => mw
  · exact h

/-! ## The RESET pin (R138, R159) -/

/-- While RESET is asserted every port is IDLE and no request is held. -/
theorem held_holdReset (s : State) : Held .normal (holdReset s) := by
  have port : ∀ q : Port, (holdReset s).ports[q] = { selLow := s.ports[q].selLow, link := .idle } := port_tabulate _
  have unheld : ∀ l, ((holdReset s).gate l).waiter = none := fun l => by cases l <;> rfl
  refine ⟨fun q => ⟨(fun r => nomatch r), fun _ => ?_⟩, fun _ _ => ⟨rfl, rfl, rfl⟩,
    ⟨.nil, List.nodup_nil, fun _ n => nomatch n⟩, fun l _ w mw => ?_, fun _ n => n.elim⟩
  · rw [State.link, port]
  · rw [unheld] at mw
    cases mw

theorem Held.releaseReset (h : Held m s) (dual : Bool) : Held m (releaseReset dual s) := by
  unfold Machine.releaseReset
  split
  · exact h
  · rename_i asserted
    have reset : s.resetAsserted = true := by simpa using asserted
    have idle : ∀ q, s.link q = .idle := fun q => (h.links q).2 reset
    have noEntry : ∀ e, e ∉ s.waitList := fun e me => by
      have link := (h.entry e me).2
      rw [idle] at link
      cases link
    have noWaiter : ∀ l, ∀ w, w ∉ (s.gate l).waiter := fun l w mw => by
      have link := (h.dots l (mem_bothLanes l) w mw).2
      rw [idle] at link
      cases link
    have sampled := h.sample
    refine { sampled with links := fun q => ⟨fun _ => ?_, fun r => nomatch r⟩, waits := ⟨h.sorted, h.distinct, ?_⟩, dots := ?_ }
    · have port := port_tabulate (fun p =>
        ({ selLow := s.ports[p].selLow, link := if s.ports[p].selLow then .draining else .idle } : PortState)) q
      rw [State.link]
      refine port.symm ▸ ?_
      cases s.ports[q].selLow <;> simp
    · exact fun e me => absurd me (noEntry e)
    · intro l _ w mw
      have gate : (PerLane.mk s.gates.a.sample s.gates.b.sample).get l = (s.gate l).sample := by cases l <;> rfl
      replace mw : w ∈ ((PerLane.mk s.gates.a.sample s.gates.b.sample).get l).waiter := mw
      rw [gate, waiter_sample] at mw
      exact absurd mw (noWaiter l w)

/-! ## Everything that can happen -/

theorem held_happens (s t : State) (h : Held .normal s) (e : Happens s t) : Held .normal t := by
  cases e with
  | nothing => exact h
  | ownWork => exact h.catchUp
  | frame k p body _ received => exact h.frameCheck received k body
  | format p kind _ received => exact h.receive received (fun e => nomatch e)
  | frameInHand k p body _ received => exact (h.frameCheck received k body).keepInHand p
  | formatInHand p kind _ received =>
    exact Held.keepInHand (s := answerFormat p kind s) (h.receive received (fun e => nomatch e)) p
  | bitIn p octets bits _ received => exact h.receive received (fun e => nomatch e)
  | bitOut p k r n mark _ link =>
    exact h.relink link (fun e => nomatch e) (fun e => nomatch e) (fun e => nomatch e) (fun e => nomatch e)
  | selFallPin p high c =>
    refine h.setPort ⟨fun live => ?_, (h.links p).2⟩ (.inl rfl)
    exact absurd (((h.links p).1 live).1 high) (c.resolve_left (by rw [live]; exact fun e => nomatch e))
  | selFallOpens p _ live link =>
    refine h.setPort ⟨fun _ => ⟨(fun e => nomatch e), (fun e => nomatch e)⟩, fun r => by rw [live] at r; cases r⟩ (.inr ?_)
    exact h.free_of_link (by rw [link]; exact fun e => nomatch e) (by rw [link]; exact fun e => nomatch e)
  | selRisePin p _ reset => exact h.setPort ⟨fun r => (by rw [reset] at r; cases r), (h.links p).2⟩ (.inl rfl)
  | selRiseCloses p low live => exact h.selRiseCloses live low
  | frameExpiry p => exact h.expireFrame p
  | leaseExpiry k => exact h.expireLease k
  | deadlineExpiry l => exact h.expireDeadline l
  | pairWaitExpiry p => exact h.expirePairWait p
  | dotWaitExpiry l => exact h.expireDotWait l
  | clockTick => exact h.tick
  | gateRise l => exact h.gateRises l
  | gateFall l width => exact h.gateFalls l width
  | pulseBegin l => exact h.pulseBegins l
  | pulseSaturation l => exact h.pulseSaturates l
  | resetAssert => exact held_holdReset s
  | resetRelease dual => exact h.releaseReset dual

/-- Settles O56: the laws of held requests are kept by everything that can happen, and the queue has no part in them. -/
theorem everyStepKeepsTheHeldRequests : Obligations.EveryStepKeepsTheHeldRequests := by
  unfold Obligations.EveryStepKeepsTheHeldRequests
  intro s t h e
  exact linkInv_of_held (step_keeps (I := Held .normal)
    (fun s _ k => held_congr (s := s) rfl rfl rfl rfl rfl rfl k) held_happens s t (held_of_linkInv h) e)

end Sys2Proof.Proofs
end

section
/-! PROOFS. The ends of the waits: the answer of an entry of the wait list and of a held DOT, and their expiries (R60, R111, R112). -/

namespace Sys2Proof.Proofs

open Sys2Proof Sys2Proof.Machine Sys2Proof.Safety

variable {s : State} {p : Port} {l : Lane} {e : WaitEntry} {w : DotWaiter}

/-! ## The entry of a port (R106) -/

theorem entry_of_absent (absent : ∀ e ∈ s.waitList, e.port ≠ p) : s.entry p = none :=
  List.find?_eq_none.2 fun e me => by simpa using absent e me

/-- R106: a port has one entry. -/
theorem entry_of_mem (distinct : (waitPorts s).Nodup) (mem : e ∈ s.waitList) : s.entry e.port = some e := by
  obtain ⟨d, found⟩ := Option.isSome_iff_exists.1
    (List.find?_isSome.2 ⟨e, mem, beq_self_eq_true e.port⟩ : (s.waitList.find? (fun d => d.port == e.port)).isSome)
  have port : d.port = e.port := by simpa using List.find?_some found
  have same : d = e := List.inj_on_of_nodup_map distinct (List.mem_of_find?_eq_some found) mem port
  exact same ▸ found

theorem answerEntry_of_absent (absent : ∀ e ∈ s.waitList, e.port ≠ p) : answerEntry p s = s := by
  rw [answerEntry, entry_of_absent absent]

theorem answerEntry_of_mem (distinct : (waitPorts s).Nodup) (mem : e ∈ s.waitList) :
    answerEntry e.port s = reply e.port (obstacleResp e.obstacle) (removeEntry e.port s) := by
  rw [answerEntry, entry_of_mem distinct mem]

/-- R111, R112: the port whose entry leaves the list is answered with its obstacle. -/
theorem answeredAt_answerEntry (distinct : (waitPorts s).Nodup) (mem : e ∈ s.waitList) (link : s.link e.port = .holding .pair) :
    AnsweredAt e.port .pair (obstacleResp e.obstacle) none s (answerEntry e.port s) := by
  rw [answerEntry_of_mem distinct mem]
  exact answeredAt_handOver (u := removeEntry e.port s) rfl link _ none

theorem kept_answerEntry (p : Port) (s : State) : PortsKept [p] s (answerEntry p s) := by
  unfold answerEntry
  split
  · exact kept_of_ports_eq rfl _
  · exact kept_handOver p _ none (removeEntry p s)

theorem waitList_answerEntry (p : Port) (s : State) :
    (answerEntry p s).waitList = s.waitList.filter (fun d => d.port != p) := by
  unfold answerEntry
  split
  · rename_i none
    exact (List.filter_eq_self.2 fun e me => by simpa using List.find?_eq_none.1 none e me).symm
  · exact (only_reply p _ _).waitList_eq (by simp)

/-! ## The wait of a PAIR (R112) -/

theorem exec_pairWaitExpiry (live : s.resetAsserted = false) : exec (.pairWaitExpiry p) s = .next (expirePairWait p s) := by
  simp [exec, execPairWaitExpiry, whenLive, live]

theorem expirePairWait_of_absent (absent : ∀ e ∈ s.waitList, e.port ≠ p) : expirePairWait p s = s := by
  rw [expirePairWait, entry_of_absent absent]

theorem expirePairWait_of_mem (distinct : (waitPorts s).Nodup) (mem : e ∈ s.waitList) : expirePairWait e.port s =
    if e.length ≤ elapsed e.start s.clock then answerEntry e.port s else s := by
  rw [expirePairWait, entry_of_mem distinct mem]
  exact if_congr decide_eq_true_iff rfl rfl

/-! ## The wait of a held DOT (R60) -/

theorem exec_dotWaitExpiry (live : s.resetAsserted = false) : exec (.dotWaitExpiry l) s = .next (expireDotWait l s) := by
  simp [exec, execDotWaitExpiry, whenLive, live]

theorem expireDotWait_of_none (none : (s.gate l).waiter = none) : expireDotWait l s = s := by
  rw [expireDotWait, none]

theorem expireDotWait_of_held (held : w ∈ (s.gate l).waiter) : expireDotWait l s =
    if w.length ≤ elapsed w.start s.clock then answerWaiter l (resp .noneHere []) s else s := by
  rw [expireDotWait, Option.mem_def.1 held]
  exact if_congr decide_eq_true_iff rfl rfl

theorem answerWaiter_of_held (held : w ∈ (s.gate l).waiter) (r : Response) :
    answerWaiter l r s = reply w.port r (s.setGate l { s.gate l with waiter := none }) := by
  rw [answerWaiter, Option.mem_def.1 held]

/-! ## Both waits -/

/-- Settles O43: each request by what its expiry makes of it, due or not, and the answer by the obstacle of its entry. -/
theorem waitsExpire : Obligations.WaitsExpire := by
  unfold Obligations.WaitsExpire
  intro p l s law live
  obtain ⟨_, distinct, held⟩ := law.waitList
  refine ⟨fun absent => ?_, fun e me port => ⟨fun early => ?_, fun late o obstacle => ?_⟩, fun none => ?_,
    fun w mw => ⟨fun early => ?_, fun late => ?_⟩⟩
  · rw [NoEffect, exec_pairWaitExpiry live, expirePairWait_of_absent absent]
  · rw [NoEffect, ← port, exec_pairWaitExpiry live, expirePairWait_of_mem distinct me, if_neg (Nat.not_le.2 early)]
  · subst port
    refine ⟨_, exec_pairWaitExpiry live, only_expirePairWait e.port s, ?_⟩
    rw [expirePairWait_of_mem distinct me, if_pos late]
    have answered := answeredAt_answerEntry distinct me (held e me).2
    rw [Option.mem_def.1 obstacle] at answered
    exact ⟨kept_answerEntry e.port s, waitList_answerEntry e.port s, by cases o <;> exact answered⟩
  · rw [NoEffect, exec_dotWaitExpiry live, expireDotWait_of_none none]
  · rw [NoEffect, exec_dotWaitExpiry live, expireDotWait_of_held mw, if_neg (Nat.not_le.2 early)]
  · refine ⟨_, exec_dotWaitExpiry live, only_expireDotWait l s, ?_⟩
    rw [expireDotWait_of_held mw, if_pos late, answerWaiter_of_held mw]
    have gates := (only_reply w.port (resp .noneHere []) (s.setGate l { s.gate l with waiter := none })).gates_eq (by simp)
    have link := (law.dotWaiters l (mem_bothLanes l) w mw).2
    exact ⟨kept_handOver w.port _ none _, gates,
      answeredAt_handOver (u := s.setGate l { s.gate l with waiter := none }) rfl link _ none⟩

end Sys2Proof.Proofs
end

section
/-! PROOFS. The walk of an arbiter pass: what one entry comes to, and what the entries behind it leave of that (R92, R108, R110). -/

namespace Sys2Proof.Proofs

open Sys2Proof Sys2Proof.Machine Sys2Proof.Safety

variable {s : State} {p : Port} {e : WaitEntry} {es : List WaitEntry}

/-! ## One entry (R108) -/

/-- R120: room in the trace is read off the queued records and the pairings in flight. -/
theorem canReserve_iff (law : TraceRoomLaw s) :
    s.trace.canReserve = true ↔ s.trace.records.length + s.pairings.length < 512 := by
  rw [← law.1]
  exact decide_eq_true_iff

theorem tryEntry_of_full (law : TraceRoomLaw s) (full : ¬ s.trace.records.length + s.pairings.length < 512) :
    tryEntry e s = setObstacle e.port (.trace s.trace.records.length s.pairings.length) s := by
  have closed : s.trace.canReserve = false := by simpa using mt (canReserve_iff law).1 full
  simp [tryEntry, closed, law.1]

section Room

variable (law : TraceRoomLaw s) (room : s.trace.records.length + s.pairings.length < 512)

include law room

theorem tryEntry_of_failed {cause : Cause} (failed : select s e.port e.choice = .failed cause) :
    tryEntry e s = setObstacle e.port (.selection cause) s := by
  simp [tryEntry, (canReserve_iff law).2 room, failed]

theorem tryEntry_of_found {f : Found} (found : select s e.port e.choice = .found f) {k : Ticket} (next : k ∈ nextTicket s) :
    tryEntry e s = grantPair e.port f k s := by
  simp [tryEntry, (canReserve_iff law).2 room, found, Option.mem_def.1 next]

end Room

/-- The head of a list keeps its place with its obstacle. -/
theorem head_setObstacle (list : s.waitList = e :: es) (o : Obstacle) :
    (setObstacle e.port o s).waitList.head? = some { e with obstacle := some o } := by
  simp [setObstacle, list]

/-! ## The entries behind it -/

theorem pairings_tryEntry {pr : Pairing} (mem : pr ∈ s.pairings) : pr ∈ (tryEntry e s).pairings := by
  rcases tryEntry_cases e s with ⟨f, k, _, _, _, eq⟩ | ⟨o, eq⟩ | eq <;> rw [eq]
  · rw [pairings_grantPair]
    exact List.mem_append_left _ mem
  · exact mem
  · exact mem

/-- The head of the list is left as it stands by an entry of another port. -/
theorem head_tryEntry {d : WaitEntry} (head : s.waitList.head? = some d) (other : d.port ≠ e.port) :
    (tryEntry e s).waitList.head? = some d := by
  obtain ⟨rest, list⟩ : ∃ rest, s.waitList = d :: rest := List.head?_eq_some_iff.1 head
  rcases tryEntry_cases e s with ⟨f, k, _, _, _, eq⟩ | ⟨o, eq⟩ | eq <;> rw [eq]
  · simp [waitList_grantPair, list, other]
  · simp [setObstacle, list, other]
  · exact head

theorem absent_tryEntry (absent : ∀ d ∈ s.waitList, d.port ≠ p) : ∀ d ∈ (tryEntry e s).waitList, d.port ≠ p := fun _ md => by
  obtain ⟨x, mx, port, _⟩ := mem_tryEntry md
  exact port ▸ absent x mx

/-- A pass makes no pairing end. -/
theorem pairings_walk (es : List WaitEntry) {s : State} {pr : Pairing} (mem : pr ∈ s.pairings) : pr ∈ (walk es s).pairings := by
  induction es generalizing s with
  | nil => exact mem
  | cons e es ih => exact ih (pairings_tryEntry mem)

/-- A pass gives no port an entry. -/
theorem absent_walk (es : List WaitEntry) {s : State} (absent : ∀ d ∈ s.waitList, d.port ≠ p) :
    ∀ d ∈ (walk es s).waitList, d.port ≠ p := by
  induction es generalizing s with
  | nil => exact absent
  | cons e es ih => exact ih (absent_tryEntry absent)

theorem head_walk (es : List WaitEntry) {s : State} {d : WaitEntry} (head : s.waitList.head? = some d)
    (others : ∀ e ∈ es, d.port ≠ e.port) : (walk es s).waitList.head? = some d := by
  induction es generalizing s with
  | nil => exact head
  | cons e es ih =>
    exact ih (head_tryEntry head (others e List.mem_cons_self)) fun x mx => others x (List.mem_cons_of_mem _ mx)

/-! ## The pass -/

/-- Settles O51: a pass is its walk, one entry of which is an equation per outcome; the first entry has its outcome from the
state before the pass, and the entries behind it are of other ports. -/
theorem passServesInListOrder : Obligations.PassServesInListOrder := by
  unfold Obligations.PassServesInListOrder
  intro s law t
  refine ⟨arbiterPass_of_empty, blocked_of_stuck (stuck_arbiterPass s), only_arbiterPass s, kept_arbiterPass s, rfl,
    fun _ => rfl, fun e rest v room => ⟨tryEntry e v, rfl, tryEntry_of_full room, fun free _ failed =>
      tryEntry_of_failed room free failed, fun free f found tk next => tryEntry_of_found room free found next⟩,
    fun e rest list => ?_⟩
  obtain ⟨_, distinct, held⟩ := law.link.waitList
  rw [waitPorts, list, List.map_cons, List.nodup_cons] at distinct
  have others : ∀ d ∈ rest, e.port ≠ d.port := fun d md eq => distinct.1 (eq ▸ List.mem_map_of_mem md)
  have walked : t = walk rest (tryEntry e s) := by
    show walk s.waitList s = _
    rw [list, walk]
  rw [walked]
  refine ⟨fun full => ?_, fun free cause failed => ?_, fun free f found tk next => ?_⟩
  · rw [tryEntry_of_full law.trace.room full]
    exact head_walk rest (head_setObstacle list _) others
  · rw [tryEntry_of_failed law.trace.room free failed]
    exact head_walk rest (head_setObstacle list _) others
  · rw [tryEntry_of_found law.trace.room free found next]
    refine ⟨pairings_walk rest (by simp [pairings_grantPair]), absent_walk rest fun d md => ?_, ?_⟩
    · rw [waitList_grantPair] at md
      simpa using (List.mem_filter.1 md).2
    · have untouched := kept_walk rest (grantPair e.port f tk s) e.port fun mem => by
        obtain ⟨d, md, port⟩ := List.mem_map.1 mem
        exact others d md port.symm
      have answered := answeredAt_grantPair (held e (list ▸ List.mem_cons_self)).2 f tk
      exact untouched.trans answered

end Sys2Proof.Proofs
end

section
/-! PROOFS. A PAIR that nobody waits beside: its entry stands alone on the list of the pass that follows (R83, R92, R107, R108, R111). -/

namespace Sys2Proof.Proofs

open Sys2Proof Sys2Proof.Machine Sys2Proof.Safety

variable {s : State} {p : Port} {e : WaitEntry}

/-! ## What reads nothing of the wait list -/

/-- The state with another wait list. -/
def withWaits (list : List WaitEntry) (s : State) : State := { s with waitList := list }

/-- The operation neither reads nor changes the wait list. -/
abbrev WaitsFree (f : State → State) : Prop := ∀ list s, f (withWaits list s) = withWaits list (f s)

theorem withWaits_of_eq {list : List WaitEntry} (same : s.waitList = list) : withWaits list s = s := same ▸ rfl

theorem only_withWaits (list : List WaitEntry) (s : State) : OnlyChanges [.waitList] s (withWaits list s) := by
  simp [withWaits, OnlyChanges, Part.list, Part.same]

theorem withWaits_withWaits (first list : List WaitEntry) (s : State) : withWaits list (withWaits first s) = withWaits list s := rfl

theorem waitsFree_handOver (p : Port) (r : Response) (mark : Option GrantMark) : WaitsFree (handOver p r mark) := by
  intro list s
  have link : (withWaits list s).link p = s.link p := rfl
  unfold handOver
  rw [link]
  split <;> rfl

theorem waitsFree_raiseAt (p : Port) (x : Notice) : WaitsFree (raiseAt p x) := by
  intro list s
  have role : (withWaits list s).role p = s.role p := rfl
  unfold raiseAt
  rw [role]
  split <;> rfl

theorem waitsFree_raiseTo (r : Role) (x : Notice) : WaitsFree (raiseTo r x) := by
  intro list s
  have holder : (withWaits list s).holder r = s.holder r := rfl
  unfold raiseTo
  rw [holder]
  split
  · rfl
  · exact waitsFree_raiseAt _ x list s

theorem waitsFree_changeDie (b : BankId) (i : Nat) (r : DieRecord) : WaitsFree (changeDie b i r) := by
  intro list s
  have bank : (withWaits list s).bank b = s.bank b := rfl
  have setBank : ∀ x, (withWaits list s).setBank b x = withWaits list (s.setBank b x) := fun _ => rfl
  unfold changeDie
  simp only [bank, setBank, waitsFree_raiseTo _ _ list]
  split <;> rfl

theorem waitsFree_claimDie (f : Found) : WaitsFree (claimDie f) := by
  intro list s
  unfold claimDie
  simp only [waitsFree_changeDie _ _ _ list]
  rfl

theorem waitsFree_changeSite (l : Lane) (a : BitVec 32) (i : Nat) (x : Site) : WaitsFree (changeSite l a i x) := by
  intro list s
  have site : (withWaits list s).site l a i = s.site l a i := rfl
  unfold changeSite
  rw [site]
  split <;> rfl

theorem waitsFree_pairSite (f : Found) (k : Ticket) : WaitsFree (pairSite f k) := by
  intro list s
  have site : (withWaits list s).site f.cand.lane f.cand.arrival f.cand.site = s.site f.cand.lane f.cand.arrival f.cand.site := rfl
  unfold pairSite
  rw [site]
  split
  · exact waitsFree_changeSite _ _ _ _ list s
  · rfl

/-- R92: of the wait list a grant makes its port's entry leave it, and reads nothing more. -/
theorem grantPair_withWaits (p : Port) (f : Found) (k : Ticket) (list : List WaitEntry) (s : State) :
    grantPair p f k (withWaits list s) = withWaits (list.filter fun e => e.port != p) (grantPair p f k s) := by
  have parts : pairSite f k (claimDie f { withWaits list s with lastTicket := k }) =
      withWaits list (pairSite f k (claimDie f { s with lastTicket := k })) := by
    have ticket : ({ withWaits list s with lastTicket := k } : State) = withWaits list { s with lastTicket := k } := rfl
    rw [ticket, waitsFree_claimDie, waitsFree_pairSite]
  unfold grantPair
  dsimp only
  rw [parts, ← waitsFree_handOver]
  rfl

/-! ## An entry that stands alone -/

/-- The entry's own PAIR is in hand and the list is empty but for it. -/
abbrev alone (e : WaitEntry) (s : State) : State := withWaits [e] s

theorem setObstacle_alone (e : WaitEntry) (o : Obstacle) (s : State) :
    setObstacle e.port o (alone e s) = alone { e with obstacle := some o } s := by
  simp [setObstacle, withWaits]

/-- R72, R83: what a selection finds is none of the links and of the wait list. -/
theorem firstServed_alone (e : WaitEntry) (s : State) (p q : Port) (x : Link) (b : BankId) (cs : List Candidate) :
    firstServed (alone e (s.setLink p x)) q b cs = firstServed s q b cs := by
  induction cs with
  | nil => rfl
  | cons c cs ih =>
    rw [firstServed, firstServed, ih]
    rfl

theorem select_alone (e : WaitEntry) (s : State) (p q : Port) (x : Link) (c : LaneChoice) :
    select (alone e (s.setLink p x)) q c = select s q c := by
  have active : (alone e (s.setLink p x)).activeBank = s.activeBank := rfl
  have cands : candidates (alone e (s.setLink p x)) q c = candidates s q c := rfl
  simp only [select, active, cands, firstServed_alone]

section Alone

variable (empty : s.waitList = [])

include empty

theorem placePair_of_empty (e : WaitEntry) : placePair e s =
    if e.length = 0 then answerEntry e.port (tryEntry e (alone e s)) else tryEntry e (alone e s) := by
  have placed : placedByLevel e s = alone e s := by
    rw [placedByLevel, empty]
    rfl
  rw [placePair_of_sorted e (empty ▸ .nil), placed]
  rfl

/-- R111: the entry that leaves the list leaves the state without it. -/
theorem answerEntry_alone (e : WaitEntry) : answerEntry e.port (alone e s) = reply e.port (obstacleResp e.obstacle) s := by
  have left : removeEntry e.port (alone e s) = s := by
    have gone : (alone e s).waitList.filter (fun d => d.port != e.port) = [] := by simp [withWaits]
    rw [removeEntry, gone]
    exact (withWaits_withWaits [e] [] s).trans (withWaits_of_eq empty)
  rw [answerEntry_of_mem (s := alone e s) (List.nodup_singleton _) List.mem_cons_self, left]

/-- R108, R111: an entry alone that meets an obstacle is answered with it, where it does not wait, and keeps it otherwise. -/
theorem placePair_of_obstacle {o : Obstacle} (stuck : tryEntry e (alone e s) = setObstacle e.port o (alone e s)) :
    placePair e s = if e.length = 0 then reply e.port (obstacleResp (some o)) s else alone { e with obstacle := some o } s := by
  rw [placePair_of_empty empty, stuck, setObstacle_alone]
  exact if_congr Iff.rfl (answerEntry_alone empty { e with obstacle := some o }) rfl

/-- R92, R108: a grant leaves the list empty again. -/
theorem placePair_of_grant {f : Found} {k : Ticket} (granted : tryEntry e (alone e s) = grantPair e.port f k (alone e s)) :
    placePair e s = grantPair e.port f k s := by
  have list : (grantPair e.port f k s).waitList = [] := by rw [waitList_grantPair, empty]; rfl
  have served : tryEntry e (alone e s) = grantPair e.port f k s := by
    rw [granted, grantPair_withWaits]
    exact withWaits_of_eq (by simpa using list)
  rw [placePair_of_empty empty, served, answerEntry_of_absent fun d md => by simp [list] at md, ite_self]

end Alone

/-! ## PAIR on an empty list (R83, R111) -/

/-- Settles O31: the entry stands alone, so the pass after its placing is its one try. -/
theorem pairServedAlone : Obligations.PairServedAlone := by
  unfold Obligations.PairServedAlone
  intro p body c s law taken choice run empty fewer wait room entry heldWith
  let u := s.setLink p (.holding .pair)
  have served : serve .pair p body u = placePair entry u := by
    have held := servePair_of_fewer (s := u) (p := p) choice run (by rwa [State.pairingsOf])
    exact held.trans (congrArg (placePair · u) (entryFor_eq s p c _))
  have list : u.waitList = [] := empty
  have law' : TraceRoomLaw (alone entry u) := law.trace.room
  have stuck : ∀ {o}, tryEntry entry (alone entry u) = setObstacle entry.port o (alone entry u) →
      (wait = 0 → ∃ t, exec (.pair p body) s = .next t ∧ AnswersWith p .pair (obstacleResp (some o)) [] s t) ∧
      (wait ≠ 0 → ∃ t, exec (.pair p body) s = .next t ∧ heldWith o t) := by
    intro o meets
    have placed := served.trans (placePair_of_obstacle list meets)
    refine ⟨fun none => ⟨_, exec_of_served taken (placed.trans (if_pos none)), answersWith_reply_held _⟩,
      fun waits => ⟨_, exec_of_served taken (placed.trans (if_neg waits)), ?_, rfl, kept_setLink p _ s, ?_⟩⟩
    · exact State.ports_setLink_self s p _
    · have placedOnly : OnlyChanges [.waitList] u (alone { entry with obstacle := some o } u) :=
        only_withWaits _ u
      exact ((only_setLink s p _).mono (by simp)).trans (placedOnly.mono (by simp))
  refine ⟨fun full => (stuck (tryEntry_of_full law' full)).1, fun full => (stuck (tryEntry_of_full law' full)).2,
    fun free cause failed => stuck (tryEntry_of_failed law' free ((select_alone entry s p p _ c).trans failed)),
    fun free f found tk next => ?_⟩
  have granted := tryEntry_of_found (e := entry) law' free ((select_alone entry s p p _ c).trans found) next
  exact exec_of_served taken (served.trans (placePair_of_grant list granted))

end Sys2Proof.Proofs
end

section
/-! PROOFS. What makes no PAIR of the wait list grantable: fewer WETTED sites, fewer dice on offer, fewer entries, and a pass
(R76, R81, R108, R110). -/

namespace Sys2Proof.Proofs

open Sys2Proof Sys2Proof.Machine Sys2Proof.Safety

variable {s t : State} {parts : List Part} {p : Port}

/-! ## Fewer entries -/

theorem stuck_of_empty (empty : s.waitList = []) : Stuck s := fun e me => by
  rw [empty] at me
  cases me

/-- R110: entries that leave the list make no other one grantable. -/
theorem stuck_of_fewerEntries (o : OnlyChanges parts s t)
    (n : ∀ part ∈ [Part.clock, .products, .banks, .lanes, .reach, .trace, .pairings, .ring], part ∉ parts)
    (fewer : ∀ e ∈ t.waitList, e ∈ s.waitList) (h : Stuck s) : Stuck t :=
  fun e me grantable => h e (fewer e me) ((grantable_of_only o n e.port e.choice).1 grantable)

theorem stuck_answerEntry (p : Port) (h : Stuck s) : Stuck (answerEntry p s) :=
  stuck_of_fewerEntries (only_answerEntry p s) (by decide)
    (fun e me => by rw [waitList_answerEntry] at me; exact (List.mem_filter.1 me).1) h

/-- What a command changes beside what a PAIR can be granted from. -/
theorem stuck_reply (p : Port) (r : Response) (h : Stuck s) : Stuck (reply p r s) :=
  stuck_of_only (only_reply p r s) (by decide) h

/-! ## Fewer WETTED sites (R76) -/

/-- A site that becomes anything but WETTED makes no site WETTED. -/
theorem fewerWet_changeSite (l : Lane) (a : BitVec 32) (i : Nat) {x : Site} (dry : ∀ w, x ≠ .wetted w) (s : State) :
    FewerWet s (changeSite l a i x s) := by
  intro k st mst
  cases at_ : s.site l a i with
  | none =>
    simp only [changeSite, at_] at mst
    exact ⟨st, mst, rfl, rfl, rfl, fun _ _ wet => wet⟩
  | some old =>
    rw [changeSite_of_some at_] at mst
    by_cases e : k = l
    · subst e
      rw [State.lane_setLane_self] at mst
      rcases mem_updateStrip mst with mst | ⟨y, my, _, rfl⟩
      · exact ⟨st, mst, rfl, rfl, rfl, fun _ _ wet => wet⟩
      · refine ⟨y, my, rfl, rfl, rfl, fun j w wet => ?_⟩
        have set : (y.sites.set i x)[j]? = some (.wetted w) := wet
        by_cases here : i = j
        · subst here
          obtain ⟨_, eq⟩ := List.getElem?_eq_some_iff.1 set
          exact absurd (by simpa using eq) (dry w)
        · rwa [List.getElem?_set_ne here] at set
    · rw [State.lane_setLane_of_ne s _ e] at mst
      exact ⟨st, mst, rfl, rfl, rfl, fun _ _ wet => wet⟩

theorem stuck_changeSite (l : Lane) (a : BitVec 32) (i : Nat) {x : Site} (dry : ∀ w, x ≠ .wetted w) (h : Stuck s) :
    Stuck (changeSite l a i x s) :=
  stuck_of_fewerWet (only_changeSite l a i x s) (by decide) (fewerWet_changeSite l a i dry s) h

theorem stuck_takeBackSite (l : Lane) (a : Assignment) (h : Stuck s) : Stuck (takeBackSite l a s) :=
  stuck_of_only (only_dropAssignment l _) (by decide) (stuck_changeSite l a.arrival a.site (fun _ e => nomatch e) h)

theorem stuck_grantDot (l : Lane) (p : Port) (st : Strip) (i : Nat) (h : Stuck s) : Stuck (grantDot l p st i s) := by
  have changed := stuck_changeSite (x := .dispensing) l st.arrival i (fun _ e => nomatch e) h
  unfold grantDot
  exact stuck_of_only (only_handOver p _ _ _) (by decide) (stuck_of_only (only_setGate _ l _) (by decide) changed)

theorem stuck_reexamine (l : Lane) (h : Stuck s) : Stuck (reexamine l s) :=
  stuck_of_fewerWet (only_reexamine l s) (by decide) (fewerWet_reexamine l s) h

theorem stuck_handOnSettled (l : Lane) (a : BitVec 32) (h : Stuck s) : Stuck (handOnSettled l a s) :=
  stuck_of_only (only_settlementCheck l a _) (by decide) (stuck_reexamine l h)

/-! ## Sites and dice on offer (R76, R81) -/

/-- Every WETTED site that is eligible was one before, on a strip of the same product, which takes the same grades. -/
def SitesNarrow (s t : State) : Prop :=
  ∀ l, ∀ st ∈ (t.lane l).strips, ∀ (i : Nat) (w : Reading), st.sites[i]? = some (.wetted w) →
    eligibleAge (t.product st.product) (elapsed w t.clock) = true →
    st ∈ (s.lane l).strips ∧ eligibleAge (s.product st.product) (elapsed w s.clock) = true ∧
      (t.product st.product).gradeSet = (s.product st.product).gradeSet

/-- The ACTIVE bank was ACTIVE before, and offers no die that it did not offer. -/
def DiesNarrow (s t : State) : Prop :=
  ∀ b, t.activeBank = some b → s.activeBank = some b ∧
    ∀ e ∈ (t.bank b).dies, ∀ (reach : Reach) (grades : BitVec 16), matchingDie (t.bank b) reach grades e = true →
      e ∈ (s.bank b).dies ∧ matchingDie (s.bank b) reach grades e = true

theorem sitesNarrow_of_only (o : OnlyChanges parts s t)
    (n : ∀ part ∈ [Part.clock, .products, .lanes], part ∉ parts) : SitesNarrow s t := by
  intro l st mst i w _ eligible
  have lane := lane_eq_of_lanes (o.lanes_eq (n _ (by simp))) l
  have product : t.product st.product = s.product st.product := by
    simp only [State.product, o.products_eq (n _ (by simp))]
  rw [product, o.clock_eq (n _ (by simp))] at eligible
  exact ⟨lane ▸ mst, eligible, congrArg Product.gradeSet product⟩

theorem diesNarrow_of_only (o : OnlyChanges parts s t) (n : Part.banks ∉ parts) : DiesNarrow s t := by
  intro b active
  have banks := o.banks_eq n
  rw [activeBank_of_banks banks] at active
  exact ⟨active, fun e me reach grades matching => by rw [bank_eq_of_banks banks] at me matching; exact ⟨me, matching⟩⟩

/-- R83: a selection that finds a site and a die now would have found them before. -/
theorem select_of_narrow (reach : t.reach = s.reach) (sites : SitesNarrow s t) (dies : DiesNarrow s t) {ch : LaneChoice}
    (found : ∃ f, select t p ch = .found f) : ∃ f, select s p ch = .found f := by
  rw [select_found_iff] at found ⊢
  obtain ⟨b, active, c, mc, e, me, matching⟩ := found
  obtain ⟨l, allowed, st, mst, cand⟩ := mem_candidates.1 mc
  obtain ⟨_, _, _, product, w, wet, age, eligible⟩ := mem_stripCandidates_iff.1 cand
  rw [age] at eligible
  obtain ⟨mst', eligible', grades⟩ := sites l st mst c.site w wet eligible
  obtain ⟨active', offered⟩ := dies b active
  obtain ⟨me', matching'⟩ := offered e me _ _ matching
  let old : Candidate :=
    { lane := l, arrival := st.arrival, stripId := st.id, product := st.product, site := c.site, age := elapsed w s.clock }
  refine ⟨b, active', old, mem_candidates.2 ⟨l, ?_, st, mst', mem_stripCandidates.2 ⟨w, wet, eligible', rfl⟩⟩, e, me', ?_⟩
  · simpa only [laneAllowed, reach] using allowed
  · rwa [reach, product, grades] at matching'

/-- R110: a list of which no entry can be granted stays so while nothing comes that one could be granted from. -/
theorem stuck_of_narrow (waits : t.waitList = s.waitList) (reach : t.reach = s.reach)
    (room : t.trace.canReserve = true → s.trace.canReserve = true)
    (tickets : (nextTicket t).isSome = true → (nextTicket s).isSome = true)
    (sites : SitesNarrow s t) (dies : DiesNarrow s t) (h : Stuck s) : Stuck t := fun e me ⟨free, found, ticket⟩ =>
  h e (waits ▸ me) ⟨room free, select_of_narrow reach sites dies found, tickets ticket⟩

theorem nextTicket_of_held (held : ∀ k, t.ticketHeld k = s.ticketHeld k) (ticket : (nextTicket t).isSome = true) :
    (nextTicket s).isSome = true := by
  rw [nextTicket_isSome_iff] at ticket ⊢
  simpa only [held] using ticket

/-- A change of the sites and products alone. -/
theorem stuck_of_sites (o : OnlyChanges parts s t)
    (n : ∀ part ∈ [Part.banks, .reach, .trace, .pairings, .ring, .waitList], part ∉ parts) (sites : SitesNarrow s t)
    (h : Stuck s) : Stuck t := by
  have trace := o.trace_eq (n _ (by simp))
  have held : ∀ k, t.ticketHeld k = s.ticketHeld k := fun k => by
    simp only [State.ticketHeld, o.pairings_eq (n _ (by simp)), o.ring_eq (n _ (by simp))]
  exact stuck_of_narrow (o.waitList_eq (n _ (by simp))) (o.reach_eq (n _ (by simp))) (by rw [trace]; exact id)
    (nextTicket_of_held held) sites (diesNarrow_of_only o (n _ (by simp))) h

/-- A change of the dice alone. -/
theorem stuck_of_dies (o : OnlyChanges parts s t)
    (n : ∀ part ∈ [Part.clock, .products, .lanes, .reach, .trace, .pairings, .ring, .waitList], part ∉ parts)
    (dies : DiesNarrow s t) (h : Stuck s) : Stuck t := by
  have trace := o.trace_eq (n _ (by simp))
  have held : ∀ k, t.ticketHeld k = s.ticketHeld k := fun k => by
    simp only [State.ticketHeld, o.pairings_eq (n _ (by simp)), o.ring_eq (n _ (by simp))]
  have sites := sitesNarrow_of_only o fun part mem => n part (by simp at mem ⊢; tauto)
  exact stuck_of_narrow (o.waitList_eq (n _ (by simp))) (o.reach_eq (n _ (by simp))) (by rw [trace]; exact id)
    (nextTicket_of_held held) sites dies h

/-! ## The banks (R1, R5, R11) -/

/-- A bank that neither was ACTIVE nor becomes so offers no die. -/
theorem diesNarrow_setBank {b : BankId} {x : MapBank} (before : (s.bank b).state ≠ .active) (after : x.state ≠ .active) :
    DiesNarrow s (s.setBank b x) := by
  have kept : ActiveKept s (s.setBank b x) := fun k => by
    rw [bank_setBank]
    split
    · rename_i e
      subst e
      exact iff_of_false after before
    · rfl
  intro k active
  rw [activeBank_of_activeKept kept] at active
  have other : k ≠ b := fun e => before (e ▸ activeBank_state active)
  rw [State.bank_setBank_of_ne s x other]
  exact ⟨active, fun e me reach grades matching => ⟨me, matching⟩⟩

/-- R5: a die that becomes anything but AVAILABLE is offered no more, and no other die is. -/
theorem diesNarrow_changeDie (b : BankId) (i : Nat) {r : DieRecord} (gone : r.isAvailable = false) (s : State) :
    DiesNarrow s (changeDie b i r s) := by
  have state : ∀ k, ((changeDie b i r s).bank k).state = (s.bank k).state := fun k => by
    rw [bank_changeDie]
    split
    · rename_i e
      rw [e]
      rfl
    · rfl
  have kept : ActiveKept s (changeDie b i r s) := fun k => by rw [state]
  intro k active
  rw [activeBank_of_activeKept kept] at active
  refine ⟨active, fun e me reach grades matching => ?_⟩
  rw [bank_changeDie] at me matching
  by_cases here : k = b
  · subst here
    rw [if_pos rfl] at me matching
    exact matchingDie_withDie gone me matching
  · rw [if_neg here] at me matching
    exact ⟨me, matching⟩

/-! ## Passes -/

/-- R94, R109: the end of a pairing is a signal, so a pass follows it. -/
theorem stuck_endAndPass (pr : Pairing) (e : PairEnd) (s : State) : Stuck (endAndPass pr e s) := by
  obtain ⟨n, signals⟩ := endSignals_eq_succ pr e s
  rw [endAndPass, signals]
  exact stuck_arbiterPasses n _

/-- Passes leave a list blocked, and none leaves it as it is. -/
theorem stuck_passes {n : Nat} (quiet : n = 0 → Stuck s) : Stuck (arbiterPasses n s) := by
  cases n with
  | zero => exact quiet rfl
  | succ n => exact stuck_arbiterPasses n s

end Sys2Proof.Proofs
end

section
/-! PROOFS. Every step leaves the wait list blocked: each signal that could serve an entry is followed by a pass, and nothing else lets
one be served (R108 to R110). -/

namespace Sys2Proof.Proofs

open Sys2Proof Sys2Proof.Machine Sys2Proof.Safety

variable {s t : State} {p : Port}

/-! ## Line Control (R114, R129 to R137) -/

theorem stuck_servePause (body : List Octet) (h : Stuck s) : Stuck (servePause p body s) := by
  unfold servePause
  refine stuck_reply p _ ?_
  split
  · exact stuck_of_empty (waitList_stopLine p s)
  · exact h

theorem stuck_serveStart (body : List Octet) (h : Stuck s) : Stuck (serveStart p body s) := by
  unfold serveStart
  split
  · exact stuck_reply p _ h
  · split
    · exact stuck_reply p _ h
    · exact stuck_reply p _ (stuck_arbiterPass _)

theorem stuck_serveResume (body : List Octet) (h : Stuck s) : Stuck (serveResume p body s) := by
  unfold serveResume
  split
  · exact stuck_reply p _ h
  · exact stuck_reply p _ (stuck_reexamine .B (stuck_reexamine .A (stuck_arbiterPass _)))

theorem stuck_serveClear (body : List Octet) : Stuck (serveClear p body s) := by
  unfold serveClear
  exact stuck_reply p _ (stuck_of_empty (waitList_lineClear s))

/-! ## PRODUCT, LANE and REACH (R22, R23, R79) -/

/-- R22: a product is defined again while no strip has it. -/
theorem sitesNarrow_setProduct {c : ProductCode} (unused : s.codeQueued c = false) (pr : Product) :
    SitesNarrow s { s with products := s.products.set c.val (some pr) c.isLt } := by
  intro l st mst i w _ eligible
  replace mst : st ∈ (s.lane l).strips := mst
  have other : c ≠ st.product := fun e => by
    have queued := (codeQueued_iff c).2 ⟨l, mem_bothLanes l, st, mst, e.symm⟩
    rw [unused] at queued
    cases queued
  have same : State.product { s with products := s.products.set c.val (some pr) c.isLt } st.product = s.product st.product := by
    simp [State.product, Fin.val_inj, other]
  rw [same] at eligible
  exact ⟨mst, eligible, congrArg Product.gradeSet same⟩

theorem stuck_serveProduct (body : List Octet) (h : Stuck s) : Stuck (serveProduct p body s) := by
  unfold serveProduct
  split
  · exact stuck_reply p _ h
  · split
    · exact stuck_reply p _ h
    · split
      · exact stuck_reply p _ h
      · rename_i c _ _ unused
        have only : OnlyChanges [.products] s
            { s with products := s.products.set c.val (some (productOfBody body)) c.isLt } := by
          simp [OnlyChanges, Part.list, Part.same]
        exact stuck_reply p _ (stuck_of_sites only (by decide) (sitesNarrow_setProduct (by simpa using unused) _) h)

/-- A lane whose strips stand. -/
theorem fewerWet_setLane {l : Lane} {x : LaneTable} (strips : x.strips = (s.lane l).strips) : FewerWet s (s.setLane l x) := by
  intro k st mst
  refine ⟨st, ?_, rfl, rfl, rfl, fun _ _ wet => wet⟩
  by_cases e : k = l
  · subst e
    rwa [State.lane_setLane_self, strips] at mst
  · rwa [State.lane_setLane_of_ne s x e] at mst

theorem stuck_serveLane (body : List Octet) (h : Stuck s) : Stuck (serveLane p body s) := by
  unfold serveLane
  dsimp only
  split
  · exact stuck_reply p _ h
  · split
    · exact stuck_reply p _ h
    · split
      · exact stuck_reply p _ h
      · exact stuck_reply p _ (stuck_of_fewerWet (only_setLane s _ _) (by decide) (fewerWet_setLane rfl) h)

/-- R79: outside RUN no PAIR waits, and in RUN a pass follows the new reach. -/
theorem stuck_serveReach (laws : Laws .normal s) (body : List Octet) (h : Stuck s) : Stuck (serveReach p body s) := by
  unfold serveReach
  split
  · split
    · exact stuck_reply p _ h
    · dsimp only
      refine stuck_reply p _ ?_
      split
      · exact stuck_arbiterPass _
      · rename_i outside
        exact stuck_of_empty (laws.onlyInRun ⟨id, outside⟩)
  · exact stuck_reply p _ h

/-! ## The Map Store (R6 to R18) -/

/-- A bank that is filled, staged or emptied without being ACTIVE. -/
theorem stuck_setBank {b : BankId} {x : MapBank} (before : (s.bank b).state ≠ .active) (after : x.state ≠ .active)
    (h : Stuck s) : Stuck (s.setBank b x) :=
  stuck_of_dies (only_setBank s b x) (by decide) (diesNarrow_setBank before after) h

theorem loading_not_active {b : BankId} (loading : s.loadingBank = some b) : (s.bank b).state ≠ .active := by
  rw [loadingBank_eq_some loading]
  exact fun e => nomatch e

theorem stuck_serveMapOpen (body : List Octet) (h : Stuck s) : Stuck (serveMapOpen p body s) := by
  unfold serveMapOpen
  split
  · exact stuck_reply p _ h
  · split
    · exact stuck_reply p _ h
    · split
      · exact stuck_reply p _ h
      · rename_i b empty
        have before : (s.bank b).state ≠ .active := by
          rw [emptyBank_eq_some empty]
          exact fun e => nomatch e
        exact stuck_reply p _ (stuck_setBank before (fun e => nomatch e) h)

theorem state_loadGrades (b : MapBank) (i : Nat) (gs : List Octet) : (b.loadGrades i gs).state = b.state := by
  induction gs generalizing b i with
  | nil => rfl
  | cons g gs ih => exact ih _ _

theorem stuck_serveMapRows (body : List Octet) (h : Stuck s) : Stuck (serveMapRows p body s) := by
  unfold serveMapRows
  dsimp only
  split
  · exact stuck_reply p _ h
  · rename_i b loading
    split
    · exact stuck_reply p _ h
    · have state : ((s.bank b).loadGrades (u16 body 0).toNat (gradesOfBody body)).state = (s.bank b).state :=
        state_loadGrades _ _ _
      exact stuck_reply p _ (stuck_setBank (loading_not_active loading) (state ▸ loading_not_active loading) h)

theorem stuck_serveMapClose (body : List Octet) (h : Stuck s) : Stuck (serveMapClose p body s) := by
  unfold serveMapClose
  split
  · exact stuck_reply p _ h
  · rename_i b loading
    dsimp only
    split
    · exact stuck_reply p _ (stuck_setBank (loading_not_active loading) (fun e => nomatch e) h)
    · exact stuck_reply p _ (stuck_setBank (loading_not_active loading) (fun e => nomatch e) h)

theorem stuck_serveMapAbort (body : List Octet) (h : Stuck s) : Stuck (serveMapAbort p body s) := by
  unfold serveMapAbort
  split
  · exact stuck_reply p _ h
  · rename_i b loading
    exact stuck_reply p _ (stuck_setBank (loading_not_active loading) (fun e => nomatch e) h)

theorem isAvailable_of_reject {r r' : DieRecord} (marked : markedDie .reject r = some r') : r'.isAvailable = false := by
  obtain ⟨grade, state, retry⟩ := r
  cases state with
  | available => cases marked; rfl
  | suspect => cases marked; rfl
  | _ => cases marked

/-- R11, R12: a REJECT takes a die away, and a READMIT is followed by a pass. -/
theorem stuck_serveDieMark (body : List Octet) (h : Stuck s) : Stuck (serveDieMark p body s) := by
  unfold serveDieMark
  dsimp only
  split
  · rename_i b a _ _
    split
    · exact stuck_reply p _ h
    · split
      · exact stuck_reply p _ h
      · split
        · exact stuck_reply p _ h
        · split
          · exact stuck_reply p _ h
          · rename_i r' marked
            refine stuck_reply p _ (stuck_passes fun none => ?_)
            cases a with
            | reject =>
              exact stuck_of_dies (only_changeDie b _ r' s) (by decide)
                (diesNarrow_changeDie b _ (isAvailable_of_reject marked) s) h
            | readmit => simp [markSignals] at none
  · exact stuck_reply p _ h

theorem stuck_serveWaferIn (body : List Octet) (h : Stuck s) : Stuck (serveWaferIn p body s) := by
  unfold serveWaferIn
  dsimp only
  split
  · exact stuck_reply p _ h
  · split
    · exact stuck_reply p _ h
    · split
      · exact stuck_reply p _ h
      · exact stuck_reply p _ (stuck_arbiterPass _)

/-- R1, R18: with the ACTIVE bank RETIRING no bank is ACTIVE. -/
theorem activeBank_retiring (law : BankLaw s) {b : BankId} (active : s.activeBank = some b) :
    (s.setBank b { s.bank b with state := .retiring }).activeBank = none := by
  refine (activeBank_none_iff _).2 fun k _ => ?_
  rw [bank_setBank]
  split
  · exact fun e => nomatch e
  · rename_i other
    intro also
    rw [activeBank_of_active law also] at active
    cases active
    exact other rfl

theorem stuck_serveWaferOut {m : Mode} (laws : Laws m s) (body : List Octet) (h : Stuck s) :
    Stuck (serveWaferOut p body s) := by
  unfold serveWaferOut
  split
  · exact stuck_reply p _ h
  · rename_i b active
    have gone : (retireIfClear b (s.setBank b { s.bank b with state := .retiring })).activeBank = none :=
      (activeBank_of_activeKept (activeKept_retireIfClear b _)).trans (activeBank_retiring laws.states active)
    refine stuck_reply p _ (stuck_of_dies (((only_setBank s b _).mono (by simp)).trans (only_retireIfClear b _))
      (by decide) (fun k k_active => ?_) h)
    rw [gone] at k_active
    cases k_active

/-! ## The trace (R124, R125) -/

theorem stuck_serveTraceRead (body : List Octet) (h : Stuck s) : Stuck (serveTraceRead p body s) := by
  unfold serveTraceRead
  dsimp only
  refine stuck_reply p _ ?_
  split
  · rename_i none
    rw [none]
    exact stuck_of_only (only_reevalTraceLevel s) (by decide) h
  · exact stuck_arbiterPass _

/-- R125: the threshold has no part in the room of the trace. -/
theorem stuck_serveTraceLevel (body : List Octet) (h : Stuck s) : Stuck (serveTraceLevel p body s) := by
  unfold serveTraceLevel
  have set : Stuck { s with trace := { s.trace with threshold := clampThreshold (u16 body 0) } } :=
    stuck_of_narrow (s := s) rfl rfl id id (fun _ _ mst _ _ _ eligible => ⟨mst, eligible, rfl⟩)
      (fun _ active => ⟨active, fun _ me _ _ matching => ⟨me, matching⟩⟩) h
  exact stuck_reply p _ (stuck_of_only (only_reevalTraceLevel _) (by decide) set)

/-! ## PAIR and the head reports (R95 to R100, R107) -/

theorem stuck_servePair (body : List Octet) (h : Stuck s) : Stuck (servePair p body s) := by
  unfold servePair
  split
  · exact stuck_reply p _ h
  · split
    · exact stuck_reply p _ h
    · split
      · exact stuck_reply p _ h
      · split
        · exact stuck_reply p _ h
        · unfold placePair
          dsimp only
          split
          · exact stuck_answerEntry _ (stuck_arbiterPass _)
          · exact stuck_arbiterPass _

/-- R96: a CLAIMED die becomes PICKED, and the pairing keeps its ticket. -/
theorem stuck_takePick (pr : Pairing) (h : Stuck s) : Stuck (takePick pr s) := by
  have picked : ((pr.dieRecord s).to .picked).isAvailable = false := rfl
  have changed := stuck_of_dies (only_changeDie pr.bank (pr.dieIndex s) ((pr.dieRecord s).to .picked) s) (by decide)
    (diesNarrow_changeDie pr.bank (pr.dieIndex s) picked s) h
  have held : ∀ k, (takePick pr s).ticketHeld k =
      (changeDie pr.bank (pr.dieIndex s) ((pr.dieRecord s).to .picked) s).ticketHeld k := fun k => by
    have tickets : ∀ prs : List Pairing, (prs.map fun q => if q.ticket = pr.ticket then pickedPairing pr s else q).any
        (fun q => q.ticket == k) = prs.any (fun q => q.ticket == k) := fun prs => by
      have ticket : ∀ q : Pairing, (if q.ticket = pr.ticket then pickedPairing pr s else q).ticket = q.ticket := fun q => by
        split
        · rename_i e
          exact e.symm
        · rfl
      simp only [List.any_map, Function.comp_def, ticket]
    simp only [State.ticketHeld, takePick, tickets]
  exact stuck_of_narrow (s := changeDie pr.bank (pr.dieIndex s) ((pr.dieRecord s).to .picked) s) (t := takePick pr s) rfl rfl id
    (nextTicket_of_held held) (fun _ _ mst _ _ _ eligible => ⟨mst, eligible, rfl⟩)
    (fun _ active => ⟨active, fun _ me _ _ matching => ⟨me, matching⟩⟩) changed

theorem stuck_servePicked (body : List Octet) (h : Stuck s) : Stuck (servePicked p body s) := by
  refine withTicket_keeps (fun r => stuck_reply p r h) fun pr _ _ => ?_
  split
  · exact stuck_reply p _ (stuck_takePick pr h)
  · exact stuck_reply p _ h

theorem stuck_serveBonded (body : List Octet) (h : Stuck s) : Stuck (serveBonded p body s) := by
  refine withTicket_keeps (fun r => stuck_reply p r h) fun pr _ _ => ?_
  split
  · exact stuck_reply p _ h
  · exact stuck_reply p _ (stuck_endAndPass pr _ s)

theorem stuck_servePickFail (body : List Octet) (h : Stuck s) : Stuck (servePickFail p body s) := by
  refine withTicket_keeps (fun r => stuck_reply p r h) fun pr _ _ => ?_
  split
  · exact stuck_reply p _ h
  · exact stuck_reply p _ h
  · exact stuck_reply p _ (stuck_endAndPass pr _ s)

theorem stuck_serveDiscard (body : List Octet) (h : Stuck s) : Stuck (serveDiscard p body s) := by
  refine withTicket_keeps (fun r => stuck_reply p r h) fun pr _ _ => ?_
  split
  · exact stuck_reply p _ h
  · exact stuck_reply p _ (stuck_endAndPass pr _ s)

/-! ## DOT and DOT_ABORT (R56 to R59, R68) -/

theorem stuck_serveDot (body : List Octet) (h : Stuck s) : Stuck (serveDot p body s) := by
  unfold serveDot
  split
  · exact h
  · split
    · exact stuck_reply p _ h
    · split
      · exact stuck_reply p _ h
      · split
        · exact stuck_reply p _ h
        · unfold tryDot
          split
          · exact stuck_grantDot _ p _ _ h
          · split
            · exact stuck_reply p _ h
            · exact stuck_of_only (only_setGate s _ _) (by decide) h

theorem stuck_serveDotAbort (body : List Octet) (h : Stuck s) : Stuck (serveDotAbort p body s) := by
  unfold serveDotAbort
  split
  · exact h
  · split
    · exact stuck_reply p _ h
    · split
      · exact stuck_reply p _ h
      · exact stuck_reply p _ (stuck_takeBackSite _ _ h)

/-! ## Strips (R26, R35) -/

/-- R26: no site of a strip that enters is WETTED. -/
theorem sitesNarrow_enterStrip {l : Lane} {st : Strip} (dry : ∀ w, Site.wetted w ∉ st.sites) (s : State) :
    SitesNarrow s (enterStrip l st s) := by
  intro k x mx i w wet eligible
  refine ⟨?_, eligible, rfl⟩
  by_cases e : k = l
  · subst e
    rw [enterStrip, State.lane_setLane_self] at mx
    rcases List.mem_append.1 mx with old | new
    · exact old
    · rw [List.mem_singleton.1 new] at wet
      exact absurd (List.mem_of_getElem? wet) (dry w)
  · rwa [enterStrip, State.lane_setLane_of_ne s _ e] at mx

theorem dry_newStrip (s : State) (l : Lane) (id : Tag) (c : ProductCode) (slot : Fin 4) (bad : List Octet) (w : Reading) :
    Site.wetted w ∉ (newStrip s l id c slot bad).sites := fun mem => by
  have counts := (newSites_bare (show Site.wetted w ∈ newSites (s.product c).siteCount bad from mem)).2
  cases counts

theorem stuck_serveStripIn (body : List Octet) (h : Stuck s) : Stuck (serveStripIn p body s) := by
  unfold serveStripIn
  split
  · exact stuck_reply p _ h
  · split
    · exact stuck_reply p _ h
    · split
      · rename_i l _ _ _ _ c slot _ _
        split
        · exact stuck_reply p _ h
        · have entered := stuck_of_sites (only_setLane s l _) (by decide)
            (sitesNarrow_enterStrip (dry_newStrip s l (u32 body 1) c slot (badSitesOfBody body)) s) h
          exact stuck_reply p _ (stuck_reexamine l (stuck_of_only (only_settlementCheck l _ _) (by decide) entered))
      · exact stuck_reply p _ h

/-- R35, R102: a departure that ends no pairing takes sites away, and one that ends a pairing is followed by a pass. -/
theorem stuck_serveStripOut (body : List Octet) (h : Stuck s) : Stuck (serveStripOut p body s) := by
  unfold serveStripOut
  split
  · exact stuck_reply p _ h
  · split
    · exact stuck_reply p _ h
    · rename_i l _ _ st rest strips
      rw [departStrip_eq]
      refine stuck_reply p _ (stuck_handedOn _ l _ fun none => ?_)
      rw [revokeSites_of_no_pass none]
      exact stuck_of_fewerWet (only_departed l st s) (by decide) (fewerWet_departed strips) h

/-! ## Every request -/

theorem stuck_serve (laws : Laws .normal s) (k : Kind) (body : List Octet) (h : Stuck s) : Stuck (serve k p body s) := by
  cases k with
  | ident => exact stuck_of_only (only_serve .ident p body s) (by decide) h
  | clockRead => exact stuck_of_only (only_serve .clockRead p body s) (by decide) h
  | lineStatus => exact stuck_of_only (only_serve .lineStatus p body s) (by decide) h
  | noticeTake => exact stuck_of_only (only_serve .noticeTake p body s) (by decide) h
  | noticeEnd => exact stuck_of_only (only_serve .noticeEnd p body s) (by decide) h
  | noticeMask => exact stuck_of_only (only_serve .noticeMask p body s) (by decide) h
  | role => exact stuck_of_only (only_serve .role p body s) (by decide) h
  | lineEnd => exact stuck_of_only (only_serve .lineEnd p body s) (by decide) h
  | pause => exact stuck_servePause body h
  | product => exact stuck_serveProduct body h
  | lane => exact stuck_serveLane body h
  | reach => exact stuck_serveReach laws body h
  | start => exact stuck_serveStart body h
  | resume => exact stuck_serveResume body h
  | clear => exact stuck_serveClear body
  | mapOpen => exact stuck_serveMapOpen body h
  | mapRows => exact stuck_serveMapRows body h
  | mapClose => exact stuck_serveMapClose body h
  | mapAbort => exact stuck_serveMapAbort body h
  | dieMark => exact stuck_serveDieMark body h
  | traceRead => exact stuck_serveTraceRead body h
  | traceLevel => exact stuck_serveTraceLevel body h
  | pair => exact stuck_servePair body h
  | picked => exact stuck_servePicked body h
  | bonded => exact stuck_serveBonded body h
  | pickFail => exact stuck_servePickFail body h
  | discard => exact stuck_serveDiscard body h
  | dot => exact stuck_serveDot body h
  | dotAbort => exact stuck_serveDotAbort body h
  | stripIn => exact stuck_serveStripIn body h
  | stripOut => exact stuck_serveStripOut body h
  | waferIn => exact stuck_serveWaferIn body h
  | waferOut => exact stuck_serveWaferOut laws body h

end Sys2Proof.Proofs
end

section
/-! PROOFS. Every event that is no request leaves the wait list blocked: the ends of links and waits, the sweep, the dots, the clock
and RESET; and so every step does (R45, R49 to R68, R101, R108 to R115, R138, R155 to R157). -/

namespace Sys2Proof.Proofs

open Sys2Proof Sys2Proof.Machine Sys2Proof.Safety

variable {s t : State} {p : Port}

/-! ## Frames and the rise of SEL (R151 to R157) -/

theorem stuck_setPort (p : Port) (x : PortState) (h : Stuck s) : Stuck (s.setPort p x) :=
  stuck_of_only (only_setPort s p x) (by decide) h

theorem stuck_frameCheck (laws : Laws .normal s) (received : Receiving s p) (k : Kind) (body : List Octet) (h : Stuck s) :
    Stuck (frameCheck k p body (serve k) s) := by
  refine frameCheck_keeps (fun r => stuck_of_only (only_answerAtPort p r s) (by decide) h) fun _ _ => ?_
  have free := laws.free_of_receiving received
  obtain ⟨_, _, _, link⟩ := received
  have holds := laws.setLink (y := .holding k) free (by rw [link]; exact fun e => nomatch e) (fun e => nomatch e) rfl
  exact stuck_serve holds k body (stuck_setPort p _ h)

theorem stuck_keepInHand (p : Port) (h : Stuck s) : Stuck (keepInHand p s) := stuck_of_only (only_keepInHand p s) (by decide) h

theorem stuck_withdraw (mark : Option GrantMark) (h : Stuck s) : Stuck (withdraw mark s) := by
  unfold withdraw
  split
  · exact h
  · unfold withdrawPair
    split
    · exact stuck_endAndPass _ _ s
    · exact h
  · unfold withdrawDot
    split
    · exact h
    · split
      · exact h
      · split
        · exact stuck_takeBackSite _ _ h
        · exact h

/-- R156: of the wait list a port that is given up leaves its own entry out. -/
theorem stuck_releaseHeld (p : Port) (h : Stuck s) : Stuck (releaseHeld p s) := by
  refine stuck_of_fewerEntries (only_releaseHeld p s) (by decide) (fun e me => ?_) h
  rw [releaseHeld_eq] at me
  have gates : ∀ l u, (dropHeld p l u).waitList = u.waitList := fun l u => by
    unfold dropHeld
    split
    · split <;> rfl
    · rfl
  rw [gates, gates] at me
  exact (List.mem_filter.1 me).1

theorem stuck_closeLink (p : Port) (h : Stuck s) : Stuck (closeLink p s) := by
  have closed : Stuck (s.setLink p .idle) := stuck_setPort p _ h
  unfold closeLink
  cases s.link p with
  | holding k => exact stuck_releaseHeld p closed
  | decided k r mark => exact stuck_withdraw mark closed
  | answering k r n mark =>
    dsimp only
    split
    · exact closed
    · exact stuck_withdraw mark closed
  | idle => exact h
  | receiving octets bits start => exact closed
  | draining => exact closed

/-! ## Expiries (R45, R60, R67, R101, R112, R152) -/

theorem stuck_expireFrame (p : Port) (h : Stuck s) : Stuck (expireFrame p s) :=
  stuck_of_only (only_expireFrame p s) (by decide) h

theorem stuck_expirePairWait (p : Port) (h : Stuck s) : Stuck (expirePairWait p s) := by
  unfold expirePairWait
  split
  · exact h
  · split
    · exact stuck_answerEntry p h
    · exact h

theorem stuck_expireDotWait (l : Lane) (h : Stuck s) : Stuck (expireDotWait l s) :=
  stuck_of_only (only_expireDotWait l s) (by decide) h

theorem stuck_expireDeadline (l : Lane) (h : Stuck s) : Stuck (expireDeadline l s) := by
  unfold expireDeadline
  split
  · exact h
  · split
    · split
      · exact stuck_of_only (only_setGate s l _) (by decide) h
      · exact stuck_of_only (only_raiseTo _ _ _) (by decide) (stuck_takeBackSite l _ h)
    · exact h

theorem stuck_expireLease (k : Ticket) (h : Stuck s) : Stuck (expireLease k s) := by
  unfold expireLease
  split
  · exact h
  · split
    · exact stuck_endAndPass _ _ s
    · exact h

theorem stuck_takeExpiries (h : Stuck s) : Stuck (takeExpiries s) := by
  have frames := foldl_keeps (I := Stuck) (f := fun s p => expireFrame p s) (fun _ p k => stuck_expireFrame p k) allPorts h
  have waits := foldl_keeps (I := Stuck) (f := fun s p => expirePairWait p s) (fun _ p k => stuck_expirePairWait p k) allPorts
    frames
  have dots := stuck_expireDotWait .B (stuck_expireDotWait .A waits)
  have deadlines := stuck_expireDeadline .B (stuck_expireDeadline .A dots)
  exact foldl_keeps (I := Stuck) (f := fun s k => expireLease k s) (fun _ k h => stuck_expireLease k h) _ deadlines

/-! ## The sweep and the clock (R41, R49 to R52) -/

theorem stuck_sweepVisit (pos : BitVec 9) (h : Stuck s) : Stuck (sweepVisit pos s) := by
  unfold sweepVisit
  dsimp only
  split
  · exact h
  · split
    · exact h
    · split
      · rename_i st _ _ w _
        split
        · have spoiled := stuck_changeSite (x := .spoiled w) (sweepLane pos) st.arrival (sweepSite pos) (fun _ e => nomatch e) h
          exact stuck_handOnSettled _ _ (stuck_of_only (only_raiseAt _ _ _) (by decide) spoiled)
        · exact h
      · exact h

theorem stuck_catchUp (h : Stuck s) : Stuck (catchUp s) := by
  have handed : Stuck (handOverAll s) := foldl_keeps (I := Stuck) (f := fun s p => handOverDecided p s)
    (fun u p k => stuck_of_only (only_handOverDecided p u) (by decide) k) allPorts h
  unfold catchUp takeVisit
  split
  · have taken : OnlyChanges [.visit] (handOverAll s) { handOverAll s with visitOwed := false } := by
      simp [OnlyChanges, Part.list, Part.same]
    exact stuck_sweepVisit _ (stuck_of_only taken (by decide) handed)
  · exact handed

theorem eligibleAge_of_older {pr : Product} {young old : Nat} (older : young ≤ old) (eligible : eligibleAge pr old = true) :
    eligibleAge pr young = true := by
  rw [eligibleAge_iff] at eligible ⊢
  omega

/-- R41, R48: while the ages are bounded, a site that is eligible a tick later is eligible now. -/
theorem sitesNarrow_advanceClock (ages : AgesBounded s) : SitesNarrow s (advanceClock s) := by
  intro l st mst i w wet eligible
  have bounded : elapsed w s.clock < 37200512 := ages l (mem_bothLanes l) st mst _ (List.mem_of_getElem? wet)
  have older : elapsed w s.clock ≤ elapsed w (s.clock + 1) := by
    unfold elapsed at *
    bv_omega
  exact ⟨mst, eligibleAge_of_older older eligible, rfl⟩

theorem stuck_tick (laws : Laws .normal s) (h : Stuck s) : Stuck (tick s) := by
  have ages := (takeExpiries_settles laws.catchUp).1.agesBounded
  exact stuck_of_sites (only_advanceClock _) (by decide) (sitesNarrow_advanceClock ages) (stuck_takeExpiries (stuck_catchUp h))

/-! ## Dots (R63 to R66) -/

/-- R65: a good dot is followed by a pass, and a bad one wets no site. -/
theorem stuck_completePulse (l : Lane) (width : Nat) (bound : Bool) (h : Stuck s) : Stuck (completePulse l width bound s) := by
  have gate : ∀ g, Stuck (s.setGate l g) := fun g => stuck_of_only (only_setGate s l g) (by decide) h
  unfold completePulse
  split
  · rename_i a _
    unfold judgeDot
    dsimp only
    split
    · exact stuck_arbiterPass _
    · have bad := stuck_changeSite (x := .badDot) l a.arrival a.site (fun _ e => nomatch e)
        (gate { s.gate l with assignment := none })
      exact stuck_of_only (only_raiseTo _ _ _) (by decide) (stuck_handOnSettled l _ bad)
  · exact stuck_of_only (only_raiseTo _ _ _) (by decide) (gate _)

theorem stuck_pulseSaturates (l : Lane) (h : Stuck s) : Stuck (pulseSaturates l s) := by
  unfold pulseSaturates
  split
  · exact stuck_completePulse l _ _ (stuck_of_only (only_setGate s l _) (by decide) h)
  · exact h

theorem stuck_gateFalls (l : Lane) (width : Nat) (h : Stuck s) : Stuck (gateFalls l width s) := by
  have gate : ∀ g, Stuck (s.setGate l g) := fun g => stuck_of_only (only_setGate s l g) (by decide) h
  unfold gateFalls
  dsimp only
  split
  · exact h
  · split
    · exact gate _
    · split
      · split
        · exact gate _
        · exact stuck_completePulse l _ _ (gate _)
      · exact gate _

/-! ## Everything that can happen -/

theorem stuck_happens (s t : State) (laws : Laws .normal s) (h : Stuck s) (e : Happens s t) : Stuck t := by
  cases e with
  | nothing => exact h
  | ownWork => exact stuck_catchUp h
  | frame k p body _ received => exact stuck_frameCheck laws received k body h
  | format p kind _ _ => exact stuck_setPort p _ h
  | frameInHand k p body _ received => exact stuck_keepInHand p (stuck_frameCheck laws received k body h)
  | formatInHand p kind _ _ => exact stuck_keepInHand p (s := answerFormat p kind s) (stuck_setPort p _ h)
  | bitIn p octets bits _ _ => exact stuck_setPort p _ h
  | bitOut p k r n mark _ _ => exact stuck_setPort p _ h
  | selFallPin p _ _ => exact stuck_setPort p _ h
  | selFallOpens p _ _ _ => exact stuck_setPort p _ h
  | selRisePin p _ _ => exact stuck_setPort p _ h
  | selRiseCloses p _ _ => exact stuck_closeLink p (stuck_setPort p _ h)
  | frameExpiry p => exact stuck_expireFrame p h
  | leaseExpiry k => exact stuck_expireLease k h
  | deadlineExpiry l => exact stuck_expireDeadline l h
  | pairWaitExpiry p => exact stuck_expirePairWait p h
  | dotWaitExpiry l => exact stuck_expireDotWait l h
  | clockTick => exact stuck_tick laws h
  | gateRise l => exact stuck_of_only (only_gateRises l s) (by decide) h
  | gateFall l width => exact stuck_gateFalls l width h
  | pulseBegin l => exact stuck_of_only (only_pulseBegins l s) (by decide) h
  | pulseSaturation l => exact stuck_pulseSaturates l h
  | resetAssert => exact stuck_of_empty rfl
  | resetRelease dual => exact stuck_of_only (only_releaseReset dual s) (by decide) h

/-- Settles O60: a blocked list is one of which no entry can be granted, and everything that can happen keeps it so. -/
theorem everyStepLeavesTheListBlocked : Obligations.EveryStepLeavesTheListBlocked := by
  unfold Obligations.EveryStepLeavesTheListBlocked
  intro s t law blocked e
  have kept := step_keeps (I := fun s => Laws .normal s ∧ Stuck s)
    (fun s rest ⟨laws, h⟩ => ⟨{ laws with }, fun e me grantable =>
      h e me ((grantable_congr (s := s) (t := { s with pending := rest }) rfl rfl rfl rfl rfl rfl rfl rfl e.port e.choice).1
        grantable)⟩)
    (fun s t ⟨laws, h⟩ happens => ⟨laws_happens s t laws happens, stuck_happens s t laws h happens⟩) s t
    ⟨laws_of_device law, stuck_of_blocked blocked⟩ e
  exact blocked_of_stuck kept.2

end Sys2Proof.Proofs
end
